-- ==== Sys2Proof/Word.lean ====
section
/-! DEFINITION. The words of the Rakora E32: octets, station numbers, and the vector helpers the State uses. -/

namespace Sys2Proof

/-- An octet of the station line (Conventions, "Numbers"). -/
abbrev Byte := BitVec 8

/-- A station number, 0..31 ("The machine and its stations"). -/
abbrev Station := Fin 32

/-- The four position code lines of a head, as levels: a 1 is a line that reads high (R108). -/
abbrev CodeLines := BitVec 4

/-- Apply `f` to every entry of a fixed-length table (through lists, so that the kernel evaluates it). -/
def vmap {α β : Type} {n : Nat} (f : α → β) (v : Vector α n) : Vector β n :=
  ⟨(v.toList.map f).toArray, by simp⟩

@[simp] theorem getElem_vmap {α β : Type} {n : Nat} (f : α → β) (v : Vector α n) (i : Nat) (h : i < n) :
    (vmap f v)[i] = f v[i] := by
  simp [vmap]

end Sys2Proof
end

