-- ==== Sys2Proof/Machine/LineCode.lean ====
section
/-! DEFINITION. The code of the station line (R180, R181, R183, R184): sync, arbitration octet, codeblocks, tail, length and
frame check, as the transmitter forms a frame and as the receive framer takes one in. Octets are sent most significant bit
first. -/

namespace Sys2Proof.Machine

/-- R181: the classes of frames. -/
inductive FrameClass where
  | urgent | order | beacon | design
deriving DecidableEq, Repr

/-- R181: the class values. -/
def classBits : FrameClass → Nat
  | .urgent => 0
  | .order => 1
  | .beacon => 2
  | .design => 3

/-- The class of two class bits. -/
def classOfBits (n : Nat) : FrameClass :=
  if n = 0 then .urgent else if n = 1 then .order else if n = 2 then .beacon else .design

/-! ### Bits -/

/-- The bits of an octet in sending order. -/
def octetBits (b : Byte) : List Bool :=
  [b.getLsbD 7, b.getLsbD 6, b.getLsbD 5, b.getLsbD 4, b.getLsbD 3, b.getLsbD 2, b.getLsbD 1, b.getLsbD 0]

/-- The bits of a run of octets in sending order. -/
def bitsOf (bs : List Byte) : List Bool := bs.flatMap octetBits

/-- The number of eight bits, first bit most significant. -/
def octetOf (b7 b6 b5 b4 b3 b2 b1 b0 : Bool) : Byte :=
  BitVec.ofNat 8 (128 * b7.toNat + 64 * b6.toNat + 32 * b5.toNat + 16 * b4.toNat + 8 * b3.toNat + 4 * b2.toNat + 2 * b1.toNat + b0.toNat)

/-- The octets of a run of bits; a rest of fewer than eight bits is dropped. -/
def octetsOf : List Bool → List Byte
  | b7 :: b6 :: b5 :: b4 :: b3 :: b2 :: b1 :: b0 :: rest => octetOf b7 b6 b5 b4 b3 b2 b1 b0 :: octetsOf rest
  | _ => []

/-- The count of 1 bits is odd. -/
def oddOnes (bits : List Bool) : Bool := bits.foldl xor false

/-! ### Sync and arbitration octet (R180, R181) -/

/-- R180: the sync pattern. -/
def syncOctets : List Byte := [0xC6, 0xB5]

/-- R180: what the framer reads of the bits on the line after idle. The first dominant edge is taken as the start of the third
sync bit, and the two bits before it count as received recessive; a 1 is recessive, and octets are cut from there. -/
def alignFrame (line : List Byte) : List Byte := octetsOf (true :: true :: (bitsOf line).dropWhile id)

/-- R180: the sync is accepted if at most one of its 16 bits differs. -/
def syncAccepted (hi lo : Byte) : Bool :=
  decide ((((bitsOf [hi, lo]).zip (bitsOf syncOctets)).countP fun p => p.1 != p.2) ≤ 1)

/-- R181: class, source and the parity bit that makes the count of 1 bits odd. -/
def arbitrationOctet (cls : FrameClass) (src : Station) : Byte :=
  let v : Byte := BitVec.ofNat 8 (classBits cls * 64 + src.val * 2)
  if oddOnes (octetBits v) then v else v ||| 1

/-- R181: the class and the source of an arbitration octet, or none if its parity is even. -/
def readArbitration (b : Byte) : Option (FrameClass × Station) :=
  if oddOnes (octetBits b) then
    some (classOfBits (b.toNat / 64), ⟨b.toNat / 2 % 32, Nat.mod_lt _ (by decide)⟩)
  else none

/-! ### Codeblocks (R183) -/

/-- One step of the division by g(x) = x^7 + x^3 + 1, the next coefficient coming in. -/
def divStep (s : BitVec 7) (b : Bool) : BitVec 7 :=
  let t := (s <<< 1) ||| BitVec.ofNat 7 b.toNat
  if s.getLsbD 6 then t ^^^ 9#7 else t

/-- The remainder of a polynomial, highest coefficient first, divided by g(x). -/
def remainder7 (bits : List Bool) : BitVec 7 := bits.foldl divStep 0

/-- The seven bits of a remainder, c6 first. -/
def bits7 (c : BitVec 7) : List Bool :=
  [c.getLsbD 6, c.getLsbD 5, c.getLsbD 4, c.getLsbD 3, c.getLsbD 2, c.getLsbD 1, c.getLsbD 0]

/-- R183: the check octet of seven data octets: c7 for even parity of the whole block, then c6 to c0. -/
def checkOctet (data : List Byte) : Byte :=
  let c := bits7 (remainder7 (bitsOf data ++ List.replicate 7 false))
  match c with
  | [c6, c5, c4, c3, c2, c1, c0] => octetOf (oddOnes (bitsOf data ++ c)) c6 c5 c4 c3 c2 c1 c0
  | _ => 0

/-- R183: a codeblock of seven data octets. -/
def encodeBlock (data : List Byte) : List Byte := data ++ [checkOctet data]

/-- R183: the position, 0 to 62, whose single error gives this syndrome. `p` is x^i modulo g(x). -/
def errorPosition (syn : BitVec 7) : Nat → Nat → BitVec 7 → Option Nat
  | 0, _, _ => none
  | fuel + 1, i, p => if p = syn then some i else errorPosition syn fuel (i + 1) (divStep p false)

/-- The bit at an index inverted. -/
def flipAt : Nat → List Bool → List Bool
  | _, [] => []
  | 0, b :: bs => (!b) :: bs
  | n + 1, b :: bs => b :: flipAt n bs

/-- R183: the seven data octets of a received group of eight octets, corrected where needed, or none where the block is
rejected. Bit position i of the 63-bit word, counted from 62 at the first data bit, is index 62 − i of its bits. -/
def decodeBlock (group : List Byte) : Option (List Byte) :=
  let data := group.take 7
  let check := octetBits (group.getD 7 0)
  let word := bitsOf data ++ check.drop 1
  let syn := remainder7 word
  let odd := oddOnes (bitsOf data ++ check)
  if syn = 0 then some data
  else if odd then
    match errorPosition syn 63 0 1#7 with
    | some i => some (octetsOf ((flipAt (62 - i) word).take 56))
    | none => none
  else none

/-! ### Frame check, length and tail (R184) -/

/-- One step of the CRC-16 register with generator x^16 + x^15 + x^2 + 1. -/
def crcStep (s : BitVec 16) (b : Bool) : BitVec 16 :=
  if xor (s.getLsbD 15) b then (s <<< 1) ^^^ 0x8005#16 else s <<< 1

/-- R184: the CRC over octets, from a register of 0. -/
def crc16 (bs : List Byte) : BitVec 16 := (bitsOf bs).foldl crcStep 0

/-- R184: the tail, eight octets of 0x3C. -/
def tailOctets : List Byte := List.replicate 8 0x3C

/-- R184: the number of codeblocks of a frame, ceil((length + 3) / 7). -/
def blocksFor (length : Nat) : Nat := (length + 3 + 6) / 7

/-- R184: length octet, body, CRC high octet first, and fill to the end of the last block. -/
def dataOctets (body : List Byte) : List Byte :=
  let len : Byte := BitVec.ofNat 8 body.length
  let crc := crc16 (len :: body)
  let used := len :: body ++ [BitVec.ofNat 8 (crc.toNat / 256), BitVec.ofNat 8 crc.toNat]
  used ++ List.replicate (7 * blocksFor body.length - used.length) 0

/-- Cut octets into groups of seven; a shorter rest is dropped. -/
def groups7 : List Byte → List (List Byte)
  | a :: b :: c :: d :: e :: f :: g :: rest => [a, b, c, d, e, f, g] :: groups7 rest
  | _ => []

/-- Cut octets into groups of eight; a shorter rest is dropped. -/
def groups8 : List Byte → List (List Byte)
  | a :: b :: c :: d :: e :: f :: g :: h :: rest => [a, b, c, d, e, f, g, h] :: groups8 rest
  | _ => []

/-- R180 to R184: the octets of a whole frame in sending order. -/
def buildFrame (cls : FrameClass) (src : Station) (body : List Byte) : List Byte :=
  syncOctets ++ [arbitrationOctet cls src] ++ ((groups7 (dataOctets body)).flatMap encodeBlock) ++ tailOctets

/-- What the framer makes of the octets of a frame in progress. -/
inductive Received where
  /-- R184: accepted, with its class, source and body. -/
  | accepted (cls : FrameClass) (src : Station) (body : List Byte)
  /-- R180, R181, R183, R184: abandoned or discarded; it reaches no block. -/
  | abandoned
deriving DecidableEq, Repr

/-- R184: the frame at its tail, from the data octets of its blocks. -/
def finishFrame (cls : FrameClass) (src : Station) (data : List Byte) (blocks : Nat) : Received :=
  let len := (data.headD 0).toNat
  let body := (data.drop 1).take len
  let crc := crc16 (data.take (len + 1))
  if blocks < blocksFor len ∨ blocks = 0 then .abandoned
  else if (data.drop (len + 1)).take 2 = [BitVec.ofNat 8 (crc.toNat / 256), BitVec.ofNat 8 crc.toNat]
    then .accepted cls src body
  else .abandoned

/-- R184: the framer over the groups that follow the arbitration octet, with the data octets and the number of blocks taken so
far. A line that gives no tail gives no frame. -/
def takeGroups (cls : FrameClass) (src : Station) : List Byte → Nat → List (List Byte) → Received
  | _, _, [] => .abandoned
  | data, n, g :: gs =>
    if g = tailOctets then finishFrame cls src data n
    else
      match decodeBlock g with
      | none => .abandoned
      | some d =>
        let len := ((data ++ d).headD 0).toNat
        if len = 0 ∨ 221 < len ∨ blocksFor len < n + 1 then .abandoned
        else takeGroups cls src (data ++ d) (n + 1) gs

/-- R180 to R184: the framer over the octets of a frame, from its sync, read at the bit times its first dominant edge gives. -/
def receiveFrame (line : List Byte) : Received :=
  match alignFrame line with
  | hi :: lo :: arb :: rest =>
    if syncAccepted hi lo then
      match readArbitration arb with
      | some (cls, src) => takeGroups cls src [] 0 (groups8 rest)
      | none => .abandoned
    else .abandoned
  | _ => .abandoned

end Sys2Proof.Machine
end

