-- ==== Sys2Proof/Config.lean ====
section
/-! DEFINITION. The constants of the E32 that no order changes, and the one free value of the model. -/

namespace Sys2Proof

/-- R108, R111: what the position counter, which holds 0 to 15, holds after a detent pulse counts it up from 15 or down from 0.
The spec does not say. A free value: it has no body, so nothing rests on it (log entry 9). The argument is the model's counter
`free`. -/
opaque Config.counterOutOfRange : Nat → Fin 16

/-- R5: the places of the ring memory. -/
def Config.ringPlaces : Nat := 4096

/-- R10: the places of the colour trail. -/
def Config.trailPlaces : Nat := 64

/-- R4: the highest record number. -/
def Config.maxRecord : Nat := 16777215

/-- R55, R79, R88: the bound of the commanded position, in du. -/
def Config.pcBound : Int := 1000000000

/-- R34: the halt wait, µs. -/
def Config.haltWaitUs : Nat := 20

/-- R32: the HALT pulse, µs. -/
def Config.haltPulseUs : Nat := 50

/-- R50: the joining listen, µs. -/
def Config.listenUs : Nat := 100000

/-- R52: the agreement timer, µs. -/
def Config.agreementUs : Nat := 100000

/-- R47: the beacon period, µs. -/
def Config.beaconPeriodUs : Nat := 20000

/-- R47: the time of a station's beacon in the period, µs: the station number times 0.5 ms. -/
def Config.beaconOffsetUs (n : Station) : Nat := n.val * 500

/-- R46: the age at which a peer is silent, ms. -/
def Config.silentAgeMs : Nat := 100

end Sys2Proof
end

