-- ==== Sys2Proof/Syntax.lean ====
section
/-! DEFINITION. The commands the block takes: one constructor for each row of spec/opcode_table.json, in the table's order.

A command is an event that reaches the station: a message accepted from the station line, a change shown by one of its input
filters, the expiry of one of its own timers, or a scheduled pulse (00_scope.md, "How the E32 meets the machine"). -/

namespace Sys2Proof

/-- What an accepted frame of class ORDER carries beside its order code (R181, R189).
`dest` is octet 1 of the body, and is absent when the body has one octet only; `args` are the octets from octet 2. -/
structure OrderFrame where
  src  : Station
  dest : Option Byte
  args : List Byte
deriving DecidableEq, Repr

/-- The commands. An operand named `lines` is the level of the four position code lines at the event, which the rules of
that event may read (R108); it is an input of the chip that no row of the table reports on its own (log entry 3). -/
inductive Instr where
  /-- RESET (R176, R177): the reset input is released with these straps on the number and role pins. -/
  | reset (number : Station) (rolePins : BitVec 2)
  /-- SELF_TEST_END (R177): did the ring memory fail, the position code lines, the filtered drive-fault input, and the
  24 V supply in mV as it stands at the end of reset (R167). -/
  | selfTestEnd (ringFailed : Bool) (lines : CodeLines) (driveFault : Bool) (supplyMv : Nat)
  /-- JOINING_LISTEN_END (R51). -/
  | joiningListenEnd (lines : CodeLines)
  /-- RUN (R29). -/
  | run (f : OrderFrame)
  /-- STOP (R31). -/
  | stop (f : OrderFrame)
  /-- RATE (R38). -/
  | rate (f : OrderFrame)
  /-- BACK (R145). -/
  | back (f : OrderFrame)
  /-- FORWARD (R145). -/
  | forward (f : OrderFrame)
  /-- HOME (R81), with what the home switch filter shows at that moment (R82). -/
  | home (f : OrderFrame) (switchClosed : Bool)
  /-- MOVETO (R86). -/
  | moveto (f : OrderFrame)
  /-- ORIGIN (R85). -/
  | origin (f : OrderFrame)
  /-- SETMAP (R104). -/
  | setmap (f : OrderFrame)
  /-- SETNEEDLE (R106). -/
  | setneedle (f : OrderFrame)
  /-- HEAD-ON (R122). -/
  | headOn (f : OrderFrame)
  /-- HEAD-OFF (R122). -/
  | headOff (f : OrderFrame)
  /-- BOBBIN (R140). -/
  | bobbin (f : OrderFrame)
  /-- SETSEG (R71). -/
  | setseg (f : OrderFrame)
  /-- RESUME-LOAD (R74). -/
  | resumeLoad (f : OrderFrame)
  /-- CLEAR (R161), with the position code lines for the SELECTOR-JAM test of R113. -/
  | clear (f : OrderFrame) (lines : CodeLines)
  /-- SETACTION (R162). -/
  | setaction (f : OrderFrame)
  /-- SETUP (R175). -/
  | setup (f : OrderFrame)
  /-- RESTART (R178), with the 24 V supply in mV as it stands (R167). -/
  | restart (f : OrderFrame) (supplyMv : Nat)
  /-- UNKNOWN_ORDER (R172, R173): an order frame whose code is outside the catalogue. -/
  | unknownOrder (code : Byte) (f : OrderFrame)
  /-- DESIGN_SEGMENT (R60): an accepted frame of class DESIGN, with its body (R188). -/
  | designSegment (src : Station) (body : List Byte)
  /-- BEACON_RECEIVED (R44): an accepted frame of class BEACON, with its body (R187). -/
  | beaconReceived (src : Station) (body : List Byte)
  /-- URGENT_RECEIVED (R185): an accepted frame of class URGENT, with its body (R188). -/
  | urgentReceived (src : Station) (body : List Byte)
  /-- PEER_AGE_EXPIRY (R46): the age of this peer reaches 100 ms. -/
  | peerAgeExpiry (peer : Station)
  /-- BEACON_TIMER (R47). -/
  | beaconTimer
  /-- TRANSMIT_ATTEMPT (R182, R186). -/
  | transmitAttempt
  /-- ARBITRATION_LOST (R182). -/
  | arbitrationLost
  /-- COLLISION (R182). -/
  | collision
  /-- FRAME_SENT (R182, R186). -/
  | frameSent
  /-- CROSSING (R20, R23). -/
  | crossing (lines : CodeLines)
  /-- GUARD_END (R23). -/
  | guardEnd
  /-- MIN_ASSERTION_END (R23). -/
  | minAssertionEnd
  /-- HALT_SEEN_ASSERTED (R33). -/
  | haltSeenAsserted
  /-- HALT_SEEN_RELEASED (R21). -/
  | haltSeenReleased
  /-- HALT_WAIT_EXPIRY (R34). -/
  | haltWaitExpiry
  /-- HALT_PULSE_END (R32). -/
  | haltPulseEnd
  /-- STARVE_TIMER_EXPIRY (R36). -/
  | starveTimerExpiry
  /-- STALL_TIMER_EXPIRY (R37). -/
  | stallTimerExpiry
  /-- AGREEMENT_TIMER_EXPIRY (R53). -/
  | agreementTimerExpiry
  /-- WINDOW_MOVE_STEP (R92). -/
  | windowMoveStep
  /-- HOMING_STEP (R82). -/
  | homingStep
  /-- HOME_SWITCH_SEEN_CLOSED (R82). -/
  | homeSwitchSeenClosed
  /-- HOMING_FAIL (R83). -/
  | homingFail
  /-- MOVETO_STEP (R86). -/
  | movetoStep
  /-- DRIVE_FAULT_ASSERTED (R98). -/
  | driveFaultAsserted
  /-- DRIVE_FAULT_RELEASED (R98). -/
  | driveFaultReleased
  /-- TRIM_PULSE_END (R118). -/
  | trimPulseEnd (lines : CodeLines)
  /-- DETENT_PULSE (R108, R111). -/
  | detentPulse
  /-- DETENT_RELEASED (R109). -/
  | detentReleased
  /-- SEL_MOVE_LIMIT_EXPIRY (R111). -/
  | selMoveLimitExpiry
  /-- SEL_SETTLE_EXPIRY (R112). -/
  | selSettleExpiry (lines : CodeLines)
  /-- NEEDLE_DOWN_SEEN (R128). -/
  | needleDownSeen
  /-- NEEDLE_DOWN_RELEASED (R126). -/
  | needleDownReleased
  /-- NEEDLE_UP_SEEN (R130). -/
  | needleUpSeen
  /-- NEEDLE_UP_RELEASED (R126). -/
  | needleUpReleased
  /-- STROKE_LIMIT_EXPIRY (R132, R133). -/
  | strokeLimitExpiry
  /-- SAMPLE_ONE_SHOT_END (R129). -/
  | sampleOneShotEnd
  /-- CONVERSION_END (R129), with the converted tension value t, 0..1,023. -/
  | conversionEnd (t : BitVec 10)
  /-- DWELL_END (R131): Ts has passed since the STROKE opening. -/
  | dwellEnd
  /-- FEED_PULSE (R134). -/
  | feedPulse
  /-- SURGE (R134). -/
  | surge
  /-- SUPPLY_FALL_WARN (R167). -/
  | supplyFallWarn
  /-- SUPPLY_RISE_NORMAL (R167). -/
  | supplyRiseNormal
  /-- SUPPLY_FALL_LOW (R167). -/
  | supplyFallLow
  /-- SUPPLY_RISE_WARN (R167). -/
  | supplyRiseWarn
  /-- SUPPLY_FALL_CUT (R168). -/
  | supplyFallCut
  /-- SUPPLY_RECOVERY (R169). -/
  | supplyRecovery
  /-- FRAME_ABANDONED (R184). -/
  | frameAbandoned
  /-- LINE_IDLE (R180). -/
  | lineIdle
deriving DecidableEq, Repr

end Sys2Proof
end

