-- ==== Sys2Proof/Machine/State.lean ====
section
/-! DEFINITION. The state of one station controller, block by block, as plain data, and its value right after reset.
The reset values are those of R17, R41, R43, R77, R101, R120, R143, R170, R173, R174, R175, R186; the values the spec does not
give are named in log entries 2, 7, 8 and 9. -/

namespace Sys2Proof.Machine

/-- The machine never stops with a fault: every condition the spec calls a fault is state of the fault unit (R158), and
every command the block takes ends in a next state. So this type has no constructor (log entry 31). Safe. -/
inductive Fault where
deriving DecidableEq, Repr

/-- Why a command has no meaning. Every command has one: no arm of `exec` answers a refusal. -/
inductive Refusal where
  /-- An instruction without a meaning yet; raised by `exec` alone. Safe. -/
  | notModelled (mnemonic : String)
deriving DecidableEq, Repr

/-- A pacing role of the role strap (R176). A station with pins 11 has no role. -/
inductive Role where
  | head | axisX | axisY
deriving DecidableEq, Repr

/-- A timer of the station: stopped, running after a start with this many µs, or run out since it was started. -/
inductive Timer where
  | stopped
  | running (us : Nat)
  | expired
deriving DecidableEq, Repr

/-- R1: the three octets of a stitch record, as received. -/
structure Rec where
  kind : Byte
  o1   : Byte
  o2   : Byte
deriving DecidableEq, Repr

/-- R4: the step of a cursor. `first` is MOVE for a STITCH record and the single step of every other kind. -/
inductive Step where
  | first | stroke
deriving DecidableEq, Repr

/-- R4: the cursor, a record number and a step. -/
structure Cursor where
  n    : Nat
  step : Step
deriving DecidableEq, Repr

/-- R28. -/
inductive RunState where
  | joining | stopped | running | traversingBack | traversingForward | stopping | cut
deriving DecidableEq, Repr

/-- R22. -/
inductive WinState where
  | opened | preparing | ready
deriving DecidableEq, Repr

/-- R24, R25: the kinds of window. -/
inductive Window where
  | prepare
  | move (n : Nat)
  | stroke (n : Nat)
  | trim (n : Nat)
  | change (n : Nat)
  | retreat (n : Nat)
  | advance (n : Nat)
deriving DecidableEq, Repr

/-- A window together with the record last read for it, which its opening hands over as a copy (R6, R23). -/
structure WindowRec where
  kind : Window
  copy : Rec
deriving DecidableEq, Repr

/-- R35. -/
inductive StopReason where
  | joined | stopOrder | halted | programmedStop | designEnd | traverseDone
deriving DecidableEq, Repr

/-- R23: what is left of a crossing at the PACE drive. -/
inductive Edge where
  | settled | inGuard | minAssertion
deriving DecidableEq, Repr

/-- R145. -/
inductive TravDir where
  | back | forward
deriving DecidableEq, Repr

/-- R145, R146: a traversal in progress. -/
structure Traversal where
  dir        : TravDir
  k          : Nat
  target     : Option Cursor
  endLimited : Bool
deriving DecidableEq, Repr

/-- The pace unit (PCU). -/
structure PaceUnit where
  run            : RunState
  win            : WinState
  openW          : Option WindowRec
  next           : Option WindowRec
  cursor         : Cursor
  preparePending : Bool
  pendingStop    : Option StopReason
  stopReason     : StopReason
  setRate        : Nat
  workRate       : Nat
  starve         : Timer
  stall          : Timer
  haltWait       : Timer
  haltPulse      : Timer
  listen         : Timer
  edge           : Edge
  pace           : Bool
  armed          : Bool
  haltSeen       : Bool
  traversal      : Option Traversal
  agreement      : Timer
  joinAgreement  : Bool
deriving DecidableEq, Repr

/-- R43, R45. -/
inductive Presence where
  | absent | present | silent
deriving DecidableEq, Repr

/-- R43: a peer record. -/
structure Peer where
  presence   : Presence
  role       : Role
  run        : RunState
  cursor     : Cursor
  ready      : Bool
  stopCursor : Option Cursor
  qualified  : Bool
  age        : Nat
deriving DecidableEq, Repr

/-- The peer table (PTB). -/
structure PeerTable where
  peers  : Vector Peer 32
  joined : Bool
deriving DecidableEq, Repr

/-- R59. -/
inductive LoaderState where
  | opened | wait | lockout
deriving DecidableEq, Repr

/-- R59, R68. -/
inductive LockReason where
  | none | window | gap | badRecord | range | rebase
deriving DecidableEq, Repr

/-- R59, R64. -/
inductive WaitCause where
  | none | room | trail
deriving DecidableEq, Repr

/-- The design loader (DLD), R59. -/
structure Loader where
  state      : LoaderState
  v          : Byte
  resend     : Bool
  designId   : BitVec 16
  lockReason : LockReason
  waitCause  : WaitCause
deriving DecidableEq, Repr

/-- The design ring (DRG), R5, R10, R11: the records numbered from `F` on, the colour trail and the base colour. -/
structure Ring where
  F     : Nat
  recs  : List Rec
  trail : List (Nat × Nat)
  base  : Nat
deriving DecidableEq, Repr

/-- R79. -/
inductive Homing where
  | unhomed | homing | homed
deriving DecidableEq, Repr

/-- The level of a direction output: toward negative or lower, toward positive or higher (R80, R111). -/
inductive Dir where
  | negative | positive
deriving DecidableEq, Repr

/-- A window move in flight: the new commanded position, the clamped target, the target in steps, the step change, the move
time in µs, and the steps issued so far (R88 to R92). -/
structure AxisMove where
  pcNew  : Int
  pt     : Int
  st     : Int
  delta  : Int
  tmove  : Nat
  issued : Nat
deriving DecidableEq, Repr

/-- An operation in flight (R82, R86), with the steps issued so far. -/
inductive AxisOp where
  | homing (issued : Nat)
  | moveto (pt st delta : Int) (issued : Nat)
deriving DecidableEq, Repr

/-- The axis unit (AXU), R79, R80, R101. `sPos` is the step position S. -/
structure AxisUnit where
  homing       : Homing
  originValid  : Bool
  originCursor : Cursor
  originPos    : Int
  pc           : Int
  pf           : Int
  sPos         : Int
  move         : Option AxisMove
  op           : Option AxisOp
  excursion    : Bool
  clampFlag    : Bool
  dir          : Option Dir
  homeSwitch   : Bool
  driveFault   : Bool
deriving DecidableEq, Repr

/-- R107. -/
inductive SelState where
  | unknown
  | settled (p : Nat)
  | moving (target : Nat)
  | confirming (target : Nat)
  | jammed
deriving DecidableEq, Repr

/-- R105. -/
inductive NeedleState where
  | ready | disabled
deriving DecidableEq, Repr

/-- R105: an entry of the needle table. -/
structure Needle where
  state  : NeedleState
  breaks : Nat
  loose  : Nat
  tight  : Nat
deriving DecidableEq, Repr

/-- R106: the pending change of one needle. -/
structure PendingNeedle where
  state : Option NeedleState
  clear : Bool
deriving DecidableEq, Repr

/-- The selector unit (SLU), R103 to R120. -/
structure SelectorUnit where
  sel            : SelState
  counter        : Nat
  dir            : Dir
  moveLimit      : Timer
  settle         : Timer
  reMoved        : Bool
  lastCode       : Option Nat
  stepPulses     : Nat
  detent         : Bool
  trim           : Timer
  map            : Vector Nat 32
  needles        : Vector Needle 15
  pendingNeedles : Vector PendingNeedle 15
deriving DecidableEq, Repr

/-- R122. -/
inductive Participation where
  | enabled | off
deriving DecidableEq, Repr

/-- R127. -/
inductive Phase where
  | idle | downstroke | upstroke | sampling | stuck | dwell
deriving DecidableEq, Repr

/-- The stroke unit (STU), R122 to R133. `needleHeld` is the condition of NEEDLE-STUCK (R133). -/
structure StrokeUnit where
  participation : Participation
  pendingPart   : Option Participation
  C             : Nat
  tail          : Bool
  phase         : Phase
  recNo         : Nat
  copy          : Rec
  needle        : Nat
  tsWait        : Timer
  strokeLimit   : Timer
  downSeen      : Bool
  needleUp      : Bool
  needleDown    : Bool
  needleHeld    : Bool
deriving DecidableEq, Repr

/-- R129: the tension conversion. -/
inductive Conversion where
  | none | onTime | late
deriving DecidableEq, Repr

/-- R129: a tension sample and its LATE mark. -/
structure Sample where
  t    : Nat
  late : Bool
deriving DecidableEq, Repr

/-- The thread monitor (THM), R134 to R141. -/
structure ThreadMonitor where
  feed         : Nat
  surge        : Bool
  oneShot      : Timer
  conv         : Conversion
  sample       : Option Sample
  breakRun     : Nat
  snagRun      : Nat
  looseRun     : Nat
  tightRun     : Nat
  lastNeedle   : Nat
  firstSuspect : Option Nat
  bobbin       : Option Nat
  lastLoaded   : Option Nat
deriving DecidableEq, Repr

/-- R158: the action of a fault. -/
inductive Action where
  | halt | report | ignore
deriving DecidableEq, Repr

/-- R159: the fault codes, in the order of the fault table. -/
inductive FaultCode where
  | selfTest | duplicateNumber | supplyLow | needleStuck | driveFail | frameRoster | peerLost | notHomed | homeFail
  | originLost | limitStitch | selectorJam | needleUnmapped | threadBreak | threadSnag | bobbinEmpty | starved | limitJump
  | tensionLoose | tensionTight | bobbinLow | loadLockout | outOfStep | stall | supplyWarn
deriving DecidableEq, Repr

/-- R158: a fault record. The axis mark, which PEER-LOST alone has, is a field of the fault unit. -/
structure FaultRec where
  latched : Bool
  pending : Bool
  fresh   : Bool
  count   : Nat
  d1      : Byte
  d2      : Byte
  action  : Action
deriving DecidableEq, Repr

/-- R167. -/
inductive SupplyLevel where
  | normal | warn | low | cut
deriving DecidableEq, Repr

/-- The fault unit (FLT), R158, R167. -/
structure FaultUnit where
  recs     : Vector FaultRec 25
  axisMark : Bool
  supply   : SupplyLevel
deriving DecidableEq, Repr

/-- R180, R184: waiting for an idle line, hunting on an idle line, or with a frame in progress. -/
inductive Framer where
  | waitIdle | hunting | inFrame
deriving DecidableEq, Repr

/-- R186: the two transmit slots. -/
inductive Slot where
  | urgent | beacon
deriving DecidableEq, Repr

/-- A transmission in flight: the slot, the octets of the whole frame, the faults an urgent frame lists (R165), and whether
a beacon fell due during a beacon attempt (R186). -/
structure Transmission where
  slot   : Slot
  octets : List Byte
  listed : List FaultCode
  again  : Bool
deriving DecidableEq, Repr

/-- The line interface (LIU), R180 to R186. -/
structure LineInterface where
  framer      : Framer
  tx          : Option Transmission
  beaconDue   : Bool
  collisions  : Nat
  beaconTimer : Timer
deriving DecidableEq, Repr

/-- R173: the refusal codes. -/
inductive RefusalCode where
  | notStopped | halted | badArg | wrongRole | lockout | range | designEnd | noOrigin | setupClosed | notJammed
deriving DecidableEq, Repr

/-- The order decoder (ORD), R173, R174. -/
structure OrderDecoder where
  counter     : Byte
  lastRefusal : Option (RefusalCode × Byte)
  setupOpen   : Bool
deriving DecidableEq, Repr

/-- R175: the setup parameters, each in the step of its range (R189). -/
structure Params where
  retain       : Nat
  moveShare    : Nat
  traverseRate : Nat
  starveLimit  : Nat
  stallTime    : Nat
  pw           : Nat
  nw           : Nat
  p            : Nat
  vmax         : Nat
  lmin         : Int
  lmax         : Int
  homeDir      : Nat
  homeRate     : Nat
  homeOffset   : Int
  homeTravel   : Nat
  needles      : Nat
  selSettle    : Nat
  selLimit     : Nat
  trimPulse    : Nat
  sampleDelay  : Nat
  strokeLimit  : Nat
  tl           : Nat
  th           : Nat
  surgeRef     : Nat
  ka           : Nat
  kb           : Nat
  delta        : Nat
  breakRun     : Nat
  snagRun      : Nat
  looseRun     : Nat
  tightRun     : Nat
  overlap      : Nat
  kl           : Nat
  kbob         : Nat
  bobbinWarn   : Nat
deriving DecidableEq, Repr

/-- The whole state of a station, with the queue of commands that wait. -/
structure State where
  pending    : List Instr
  number     : Station
  role       : Option Role
  selfTesting : Bool
  resultCode : Byte
  params     : Params
  liu        : LineInterface
  ord        : OrderDecoder
  ptb        : PeerTable
  pcu        : PaceUnit
  dld        : Loader
  drg        : Ring
  axu        : AxisUnit
  slu        : SelectorUnit
  stu        : StrokeUnit
  thm        : ThreadMonitor
  flt        : FaultUnit
  free       : Nat
deriving DecidableEq, Repr

/-- The defaults of R175. -/
def Params.defaults : Params where
  retain := 512
  moveShare := 7
  traverseRate := 1000
  starveLimit := 20
  stallTime := 30
  pw := 8
  nw := 8
  p := 640
  vmax := 200
  lmin := -1800
  lmax := 1800
  homeDir := 0
  homeRate := 20
  homeOffset := -1800
  homeTravel := 200000
  needles := 12
  selSettle := 15
  selLimit := 20
  trimPulse := 30
  sampleDelay := 20
  strokeLimit := 30
  tl := 150
  th := 700
  surgeRef := 220
  ka := 40
  kb := 320
  delta := 6
  breakRun := 3
  snagRun := 2
  looseRun := 8
  tightRun := 8
  overlap := 2
  kl := 6
  kbob := 10
  bobbinWarn := 5

/-- A cursor at the first step of record `n`. -/
def Cursor.at (n : Nat) : Cursor := ⟨n, .first⟩

/-- R186. -/
def LineInterface.initial : LineInterface where
  framer := .waitIdle
  tx := none
  beaconDue := false
  collisions := 0
  beaconTimer := .stopped

/-- R173, R174. -/
def OrderDecoder.initial : OrderDecoder where
  counter := 0
  lastRefusal := none
  setupOpen := true

/-- R43: an ABSENT record with age 100 ms, no stop cursor and the qualified mark clear. -/
def Peer.initial : Peer where
  presence := .absent
  role := .head
  run := .joining
  cursor := Cursor.at 0
  ready := false
  stopCursor := none
  qualified := false
  age := 100

/-- R43. -/
def PeerTable.initial : PeerTable where
  peers := Vector.replicate 32 Peer.initial
  joined := false

/-- R41. -/
def PaceUnit.initial : PaceUnit where
  run := .joining
  win := .preparing
  openW := none
  next := none
  cursor := Cursor.at 0
  preparePending := false
  pendingStop := none
  stopReason := .joined
  setRate := 600
  workRate := 600
  starve := .stopped
  stall := .stopped
  haltWait := .stopped
  haltPulse := .stopped
  listen := .stopped
  edge := .settled
  pace := true
  armed := true
  haltSeen := false
  traversal := none
  agreement := .stopped
  joinAgreement := false

/-- R77. -/
def Loader.initial : Loader where
  state := .opened
  v := 0
  resend := false
  designId := 0
  lockReason := .none
  waitCause := .none

/-- R17. -/
def Ring.initial : Ring where
  F := 0
  recs := []
  trail := []
  base := 0

/-- R101. -/
def AxisUnit.initial : AxisUnit where
  homing := .unhomed
  originValid := false
  originCursor := Cursor.at 0
  originPos := 0
  pc := 0
  pf := 0
  sPos := 0
  move := none
  op := none
  excursion := false
  clampFlag := false
  dir := none
  homeSwitch := false
  driveFault := false

/-- R120, after reset. -/
def SelectorUnit.initial : SelectorUnit where
  sel := .unknown
  counter := 0
  dir := .negative
  moveLimit := .stopped
  settle := .stopped
  reMoved := false
  lastCode := none
  stepPulses := 0
  detent := false
  trim := .stopped
  map := Vector.replicate 32 0
  needles := Vector.replicate 15 ⟨.ready, 0, 0, 0⟩
  pendingNeedles := Vector.replicate 15 ⟨none, false⟩

/-- R143. -/
def StrokeUnit.initial : StrokeUnit where
  participation := .enabled
  pendingPart := none
  C := 0
  tail := false
  phase := .idle
  recNo := 0
  copy := ⟨0, 0, 0⟩
  needle := 0
  tsWait := .stopped
  strokeLimit := .stopped
  downSeen := false
  needleUp := false
  needleDown := false
  needleHeld := false

/-- R143, after reset. -/
def ThreadMonitor.initial : ThreadMonitor where
  feed := 0
  surge := false
  oneShot := .stopped
  conv := .none
  sample := none
  breakRun := 0
  snagRun := 0
  looseRun := 0
  tightRun := 0
  lastNeedle := 0
  firstSuspect := none
  bobbin := none
  lastLoaded := none

/-- A fault record with nothing raised and this action (R170). -/
def FaultRec.clearedWith (a : Action) : FaultRec where
  latched := false
  pending := false
  fresh := false
  count := 0
  d1 := 0
  d2 := 0
  action := a

/-- The default actions of R159, in the order of the table. -/
def defaultActions : Vector Action 25 :=
  #v[.halt, .halt, .halt, .halt, .halt, .halt, .halt, .halt, .halt, .halt, .halt, .halt, .halt, .halt, .halt, .halt, .halt,
     .report, .report, .report, .report, .report, .report, .report, .report]

/-- R170, after reset. -/
def FaultUnit.initial : FaultUnit where
  recs := vmap FaultRec.clearedWith defaultActions
  axisMark := false
  supply := .normal

/-- The station at the release of the reset input, with these straps and this queue (R176, R177): every block holds its reset
value, and with a pacing role the self-test has begun. -/
def State.ofStraps (queue : List Instr) (number : Station) (role : Option Role) : State where
  pending := queue
  number := number
  role := role
  selfTesting := role.isSome
  resultCode := 0
  params := Params.defaults
  liu := LineInterface.initial
  ord := OrderDecoder.initial
  ptb := PeerTable.initial
  pcu := PaceUnit.initial
  dld := Loader.initial
  drg := Ring.initial
  axu := AxisUnit.initial
  slu := SelectorUnit.initial
  stu := StrokeUnit.initial
  thm := ThreadMonitor.initial
  flt := FaultUnit.initial
  free := 0

/-- The machine right after reset: number 0 and role HEAD on the straps (DESIGN CHOICE, unsafe, log entry 2), the self-test
running, no command waiting. -/
def State.reset : State := State.ofStraps [] 0 (some .head)

end Sys2Proof.Machine
end

