-- ==== Sys2Proof/Machine/Operands.lean ====
section
/-! DEFINITION. Every operand form: stitch records (R1 to R3), order arguments (R189), segment bodies (R188), beacon bodies
(R187), straps (R176), position codes (R108) and supply levels (R167). -/

namespace Sys2Proof.Machine

/-! ### Octets -/

/-- Two octets, high first (Layouts). -/
def be16 (a b : Byte) : Nat := a.toNat * 256 + b.toNat

/-- Three octets, high first. -/
def be24 (a b c : Byte) : Nat := be16 a b * 256 + c.toNat

/-- Four octets, high first. -/
def be32 (a b c d : Byte) : Nat := be24 a b c * 256 + d.toNat

/-- Two octets as a signed number in two's complement. -/
def signed16 (a b : Byte) : Int := (BitVec.ofNat 16 (be16 a b)).toInt

/-- Four octets as a signed number in two's complement. -/
def signed32 (a b c d : Byte) : Int := (BitVec.ofNat 32 (be32 a b c d)).toInt

/-- The octet of a flag: 0x00 clear, 0x01 set; any other is a failure of form (R189). -/
def flagOf (b : Byte) : Option Bool := if b = 0 then some false else if b = 1 then some true else none

/-- The octet of a number, saturated at 255. -/
def octetSat (n : Nat) : Byte := BitVec.ofNat 8 (min n 255)

/-! ### Stitch records -/

/-- R1: the record kinds. -/
inductive Kind where
  | stitch | jump | trim | color | stop | designEnd
deriving DecidableEq, Repr

/-- R1: the kind a kind octet selects; octets 0 and 7 to 255 select none (R3). -/
def kindOf (b : Byte) : Option Kind :=
  if b = 1 then some .stitch
  else if b = 2 then some .jump
  else if b = 3 then some .trim
  else if b = 4 then some .color
  else if b = 5 then some .stop
  else if b = 6 then some .designEnd
  else none

/-- The kind of a record. -/
def recKind (r : Rec) : Option Kind := kindOf r.kind

def isStitch (r : Rec) : Bool := recKind r == some .stitch

def isColor (r : Rec) : Bool := recKind r == some .color

def isEnd (r : Rec) : Bool := recKind r == some .designEnd

/-- R2: STITCH and JUMP are the displacement records. -/
def isDisplacement (r : Rec) : Bool := recKind r == some .stitch || recKind r == some .jump

/-- R2: the displacement a record gives an axis, dx to AXIS-X and dy to AXIS-Y, zero for every other kind of record. A head
has no displacement. -/
def displacement (role : Option Role) (r : Rec) : Int :=
  if isDisplacement r then
    match role with
    | some .axisX => r.o1.toInt
    | some .axisY => r.o2.toInt
    | _ => 0
  else 0

/-- The sum of the displacements of a run of records. -/
def displacementSum (role : Option Role) (rs : List Rec) : Int := (rs.map (displacement role)).sum

/-- R3, R62: why the record numbered `n` is invalid, if it is. A record numbered 16,777,215 whose kind or colour index is
invalid too gives BAD-RECORD: which reason wins the spec leaves open (DESIGN CHOICE, log entry 38). -/
def recordInvalid (n : Nat) (r : Rec) : Option LockReason :=
  match recKind r with
  | none => some .badRecord
  | some k =>
    if k = .color ∧ 32 ≤ r.o1.toNat then some .badRecord
    else if n = Config.maxRecord ∧ k ≠ .designEnd then some .range
    else none

/-- R62 step 2: the reason of the first invalid record of a run that starts at record `n`. -/
def recordsInvalid : Nat → List Rec → Option LockReason
  | _, [] => none
  | n, r :: rs =>
    match recordInvalid n r with
    | some reason => some reason
    | none => recordsInvalid (n + 1) rs

/-- R62: why a segment whose first record number is `r0` is invalid, if it is. -/
def segmentInvalid (r0 : Nat) (rs : List Rec) : Option LockReason :=
  if Config.maxRecord + 1 < r0 + rs.length then some .range else recordsInvalid r0 rs

/-! ### Segments (R60, R188) -/

/-- A design segment: the header and the records. -/
structure Segment where
  designId : BitVec 16
  number   : Byte
  r0       : Nat
  records  : List Rec
deriving DecidableEq, Repr

/-- The records of a segment body from octet 7. -/
def parseRecords : List Byte → Option (List Rec)
  | [] => some []
  | k :: a :: b :: rest => (parseRecords rest).map (fun rs => ⟨k, a, b⟩ :: rs)
  | _ => none

/-- R60, R188: the segment of a body, or none for a malformed one: a count of 0 or above 64, or a body of another length than
7 + 3 × count octets. -/
def parseSegment : List Byte → Option Segment
  | i1 :: i0 :: v :: a :: b :: c :: count :: rest =>
    if count.toNat = 0 ∨ 64 < count.toNat ∨ rest.length ≠ 3 * count.toNat then none
    else (parseRecords rest).map fun rs => ⟨BitVec.ofNat 16 (be16 i1 i0), v, be24 a b c, rs⟩
  | _ => none

/-! ### Beacons (R187) -/

/-- R187: the code of a pacing role. -/
def roleCode : Role → Byte
  | .head => 0
  | .axisX => 1
  | .axisY => 2

/-- R44: the pacing role a role octet gives. -/
def roleOfCode (b : Byte) : Option Role :=
  if b = 0 then some .head else if b = 1 then some .axisX else if b = 2 then some .axisY else none

/-- R187: the code of a run state. -/
def runCode : RunState → Byte
  | .joining => 0
  | .stopped => 1
  | .running => 2
  | .traversingBack => 3
  | .traversingForward => 4
  | .stopping => 5
  | .cut => 6

/-- The run state of a code; a value above 6 is outside the codes (R44). -/
def runOfCode (b : Byte) : Option RunState :=
  if b = 0 then some .joining else if b = 1 then some .stopped else if b = 2 then some .running
  else if b = 3 then some .traversingBack else if b = 4 then some .traversingForward
  else if b = 5 then some .stopping else if b = 6 then some .cut else none

/-- The step of a code (R187). -/
def stepOfCode (b : Byte) : Option Step :=
  if b = 0 then some .first else if b = 1 then some .stroke else none

/-- R187: the least length of a beacon body with this pacing role. -/
def beaconLength : Role → Nat
  | .head => 43
  | _ => 37

/-- What the peer table takes of a beacon that it records (R43, R44). -/
structure BeaconView where
  role   : Role
  run    : RunState
  cursor : Cursor
  ready  : Bool
deriving DecidableEq, Repr

/-- What a beacon is to the peer table (R44, R185). -/
inductive BeaconClass where
  /-- Too short, or with a field outside its codes: it refreshes the age and does nothing else. -/
  | ageOnly
  /-- A role other than the three pacing roles. -/
  | otherRole
  /-- A beacon to record. -/
  | pacing (v : BeaconView)
deriving DecidableEq, Repr

/-- R44, R185: how the peer table takes a beacon body. -/
def classifyBeacon (body : List Byte) : BeaconClass :=
  if body.length < 32 then .ageOnly
  else
    match roleOfCode (body.getD 1 0) with
    | none => .otherRole
    | some role =>
      if body.length < beaconLength role then .ageOnly
      else
        match runOfCode (body.getD 2 0), stepOfCode (body.getD 7 0), flagOf (body.getD 8 0) with
        | some run, some step, some ready =>
          .pacing ⟨role, run, ⟨be24 (body.getD 4 0) (body.getD 5 0) (body.getD 6 0), step⟩, ready⟩
        | _, _, _ => .ageOnly

/-! ### Order arguments (R189): each gives the arguments, or none where length or form fails -/

/-- R189: the order codes of the catalogue. -/
def inCatalogue (code : Byte) : Bool := decide (1 ≤ code.toNat ∧ code.toNat ≤ 19)

/-- An order that takes no argument. -/
def parseNone : List Byte → Option Unit
  | [] => some ()
  | _ => none

/-- RATE, BACK, FORWARD: two octets. -/
def parseU16 : List Byte → Option Nat
  | [a, b] => some (be16 a b)
  | _ => none

/-- MOVETO: two octets, signed. -/
def parseS16 : List Byte → Option Int
  | [a, b] => some (signed16 a b)
  | _ => none

/-- BOBBIN: three octets. -/
def parseU24 : List Byte → Option Nat
  | [a, b, c] => some (be24 a b c)
  | _ => none

/-- SETMAP: pairs of colour and needle; an odd number of octets fails. -/
def parsePairs : List Byte → Option (List (Nat × Nat))
  | [] => some []
  | a :: b :: rest => (parsePairs rest).map (fun ps => (a.toNat, b.toNat) :: ps)
  | [_] => none

/-- SETNEEDLE: needle, state, clear-counts flag. -/
structure SetNeedle where
  needle : Nat
  state  : NeedleState
  clear  : Bool
deriving DecidableEq, Repr

def parseSetNeedle : List Byte → Option SetNeedle
  | [n, st, c] =>
    match flagOf st, flagOf c with
    | some d, some clear => some ⟨n.toNat, if d then .disabled else .ready, clear⟩
    | _, _ => none
  | _ => none

/-- SETSEG: design id, v, r, base colour, NEW flag. -/
structure SetSeg where
  designId : BitVec 16
  v        : Byte
  r        : Nat
  base     : Nat
  new      : Bool
deriving DecidableEq, Repr

def parseSetSeg : List Byte → Option SetSeg
  | [i1, i0, v, a, b, c, col, new] =>
    (flagOf new).map fun n => ⟨BitVec.ofNat 16 (be16 i1 i0), v, be24 a b c, col.toNat, n⟩
  | _ => none

/-- R159: the code number of a fault. -/
def faultNumber : FaultCode → Nat
  | .selfTest => 1
  | .duplicateNumber => 2
  | .supplyLow => 3
  | .needleStuck => 4
  | .driveFail => 5
  | .frameRoster => 6
  | .peerLost => 7
  | .notHomed => 8
  | .homeFail => 9
  | .originLost => 10
  | .limitStitch => 11
  | .selectorJam => 12
  | .needleUnmapped => 13
  | .threadBreak => 14
  | .threadSnag => 15
  | .bobbinEmpty => 16
  | .starved => 17
  | .limitJump => 18
  | .tensionLoose => 19
  | .tensionTight => 20
  | .bobbinLow => 21
  | .loadLockout => 22
  | .outOfStep => 23
  | .stall => 24
  | .supplyWarn => 25

/-- The 25 fault codes in the order of the fault table (R158, R159). -/
def allFaults : List FaultCode :=
  [.selfTest, .duplicateNumber, .supplyLow, .needleStuck, .driveFail, .frameRoster, .peerLost, .notHomed, .homeFail,
   .originLost, .limitStitch, .selectorJam, .needleUnmapped, .threadBreak, .threadSnag, .bobbinEmpty, .starved, .limitJump,
   .tensionLoose, .tensionTight, .bobbinLow, .loadLockout, .outOfStep, .stall, .supplyWarn]

/-- The fault of a code octet; octets outside 1..25 name none. -/
def faultOfOctet (b : Byte) : Option FaultCode := if b = 0 then none else allFaults[b.toNat - 1]?

/-- The faults a CLEAR names, or "all" (R161). -/
inductive ClearSet where
  | all
  | codes (cs : List FaultCode)
deriving DecidableEq, Repr

/-- R161, R189: the single octet 0xFF is "all"; any octet outside 1..25 beside or instead of codes, or no octet, is refused. -/
def parseClear : List Byte → Option ClearSet
  | [] => none
  | bs => if bs = [0xFF] then some .all else (bs.mapM faultOfOctet).map .codes

/-- R187: the action of an action code. -/
def actionOfCode (b : Byte) : Option Action :=
  if b = 0 then some .halt else if b = 1 then some .report else if b = 2 then some .ignore else none

/-- R159: the actions SETACTION may give a fault; a fixed fault allows none. -/
def allowedActions : FaultCode → List Action
  | .peerLost | .limitStitch | .threadBreak | .threadSnag | .bobbinEmpty | .starved => [.halt, .report]
  | .limitJump | .tensionLoose | .tensionTight | .bobbinLow | .loadLockout | .supplyWarn => [.halt, .report, .ignore]
  | .outOfStep | .stall => [.report, .ignore]
  | _ => []

/-- R162, R189: SETACTION's fault code and action, refused unless the fault table allows that action for that code. -/
def parseSetAction : List Byte → Option (FaultCode × Action)
  | [c, a] =>
    match faultOfOctet c, actionOfCode a with
    | some code, some act => if act ∈ allowedActions code then some (code, act) else none
    | _, _ => none
  | _ => none

/-! ### SETUP (R175, R189) -/

/-- The 35 parameters, in the order in which R189 numbers them from 1. -/
inductive Param where
  | retain | moveShare | traverseRate | starveLimit | stallTime | pw | nw | p | vmax | lmin | lmax | homeDir | homeRate
  | homeOffset | homeTravel | needles | selSettle | selLimit | trimPulse | sampleDelay | strokeLimit | tl | th | surgeRef
  | ka | kb | delta | breakRun | snagRun | looseRun | tightRun | overlap | kl | kbob | bobbinWarn
deriving DecidableEq, Repr

def allParams : List Param :=
  [.retain, .moveShare, .traverseRate, .starveLimit, .stallTime, .pw, .nw, .p, .vmax, .lmin, .lmax, .homeDir, .homeRate,
   .homeOffset, .homeTravel, .needles, .selSettle, .selLimit, .trimPulse, .sampleDelay, .strokeLimit, .tl, .th, .surgeRef,
   .ka, .kb, .delta, .breakRun, .snagRun, .looseRun, .tightRun, .overlap, .kl, .kbob, .bobbinWarn]

/-- The parameter an entry's parameter number names. -/
def paramOfOctet (b : Byte) : Option Param := if b = 0 then none else allParams[b.toNat - 1]?

/-- The range of a parameter, in the step of its range (R175, R189). -/
def paramRange : Param → Int × Int
  | .retain => (0, 2048)
  | .moveShare => (1, 15)
  | .traverseRate => (100, 1200)
  | .starveLimit => (1, 255)
  | .stallTime => (1, 255)
  | .pw => (1, 255)
  | .nw => (0, 255)
  | .p => (1, 65535)
  | .vmax => (1, 400)
  | .lmin => (-32768, 32767)
  | .lmax => (-32768, 32767)
  | .homeDir => (0, 1)
  | .homeRate => (1, 100)
  | .homeOffset => (-32768, 32767)
  | .homeTravel => (1, 16777215)
  | .needles => (1, 15)
  | .selSettle => (1, 255)
  | .selLimit => (1, 255)
  | .trimPulse => (5, 255)
  | .sampleDelay => (0, 255)
  | .strokeLimit => (1, 255)
  | .tl => (0, 1023)
  | .th => (0, 1023)
  | .surgeRef => (0, 255)
  | .ka => (0, 255)
  | .kb => (0, 4095)
  | .delta => (1, 15)
  | .breakRun => (1, 7)
  | .snagRun => (1, 7)
  | .looseRun => (1, 15)
  | .tightRun => (1, 15)
  | .overlap => (0, 15)
  | .kl => (0, 63)
  | .kbob => (0, 255)
  | .bobbinWarn => (0, 255)

/-- The parameter set with one parameter written. -/
def setParam (ps : Params) (q : Param) (v : Int) : Params :=
  match q with
  | .retain => { ps with retain := v.toNat }
  | .moveShare => { ps with moveShare := v.toNat }
  | .traverseRate => { ps with traverseRate := v.toNat }
  | .starveLimit => { ps with starveLimit := v.toNat }
  | .stallTime => { ps with stallTime := v.toNat }
  | .pw => { ps with pw := v.toNat }
  | .nw => { ps with nw := v.toNat }
  | .p => { ps with p := v.toNat }
  | .vmax => { ps with vmax := v.toNat }
  | .lmin => { ps with lmin := v }
  | .lmax => { ps with lmax := v }
  | .homeDir => { ps with homeDir := v.toNat }
  | .homeRate => { ps with homeRate := v.toNat }
  | .homeOffset => { ps with homeOffset := v }
  | .homeTravel => { ps with homeTravel := v.toNat }
  | .needles => { ps with needles := v.toNat }
  | .selSettle => { ps with selSettle := v.toNat }
  | .selLimit => { ps with selLimit := v.toNat }
  | .trimPulse => { ps with trimPulse := v.toNat }
  | .sampleDelay => { ps with sampleDelay := v.toNat }
  | .strokeLimit => { ps with strokeLimit := v.toNat }
  | .tl => { ps with tl := v.toNat }
  | .th => { ps with th := v.toNat }
  | .surgeRef => { ps with surgeRef := v.toNat }
  | .ka => { ps with ka := v.toNat }
  | .kb => { ps with kb := v.toNat }
  | .delta => { ps with delta := v.toNat }
  | .breakRun => { ps with breakRun := v.toNat }
  | .snagRun => { ps with snagRun := v.toNat }
  | .looseRun => { ps with looseRun := v.toNat }
  | .tightRun => { ps with tightRun := v.toNat }
  | .overlap => { ps with overlap := v.toNat }
  | .kl => { ps with kl := v.toNat }
  | .kbob => { ps with kbob := v.toNat }
  | .bobbinWarn => { ps with bobbinWarn := v.toNat }

/-- One entry of a SETUP list: the octet that numbers the parameter, and the signed value. -/
abbrev SetupEntry := Byte × Int

/-- R189: the entries of five octets; another length fails the form check. -/
def parseEntries : List Byte → Option (List SetupEntry)
  | [] => some []
  | q :: a :: b :: c :: d :: rest => (parseEntries rest).map (fun es => (q, signed32 a b c d) :: es)
  | _ => none

/-- One entry names a parameter of the table with a value within its range. -/
def entryOk (e : SetupEntry) : Bool :=
  match paramOfOctet e.1 with
  | some q => decide ((paramRange q).1 ≤ e.2 ∧ e.2 ≤ (paramRange q).2)
  | none => false

/-- R175 check 3: the list is well formed. -/
def setupWellFormed (es : List SetupEntry) : Bool :=
  !es.isEmpty && es.all entryOk && decide (es.map Prod.fst).Nodup

/-- The parameter set that a list of entries gives. -/
def applySetup : Params → List SetupEntry → Params
  | ps, [] => ps
  | ps, e :: es =>
    match paramOfOctet e.1 with
    | some q => applySetup (setParam ps q e.2) es
    | none => applySetup ps es

/-- R175 check 4. -/
def setupConsistent (ps : Params) : Bool :=
  decide (ps.pw + ps.nw ≤ 256) && decide (ps.lmin < ps.lmax) && decide (ps.tl < ps.th)
    && decide (ps.lmin ≤ ps.homeOffset ∧ ps.homeOffset ≤ ps.lmax)

/-- The list names one of these parameters. -/
def setupNames (es : List SetupEntry) (qs : List Param) : Bool :=
  es.any fun e => match paramOfOctet e.1 with
    | some q => decide (q ∈ qs)
    | none => false

/-- R84: the parameters whose setting makes an axis UNHOMED. -/
def homingParams : List Param := [.p, .lmin, .lmax, .homeDir, .homeRate, .homeOffset, .homeTravel]

/-! ### Straps, position code and supply -/

/-- R176: the role of the role pins. -/
def roleOfPins (pins : BitVec 2) : Option Role :=
  if pins = 0 then some .head else if pins = 1 then some .axisX else if pins = 2 then some .axisY else none

/-- R108: the number the code lines give; they are active low, so a line pulled low reads as a 1. -/
def codeOfLines (lines : CodeLines) : Nat := (~~~lines).toNat

/-- R108: the valid code read, if the selector is in detent and the code lies in 1..NEEDLES. -/
def readCode (needles : Nat) (detent : Bool) (lines : CodeLines) : Option Nat :=
  if detent && decide (1 ≤ codeOfLines lines) && decide (codeOfLines lines ≤ needles) then some (codeOfLines lines) else none

/-- R167: the level of a supply measured against the exit levels, in mV. -/
def startingLevel (mv : Nat) : SupplyLevel :=
  if 21800 < mv then .normal else if 19900 < mv then .warn else if 16300 < mv then .low else .cut

end Sys2Proof.Machine
end

