-- ==== Sys2Proof/WellFormed.lean ====
section
/-! DEFINITION. Which commands are events the station can meet: the bounds that the frame layouts put on their operands (R184,
R189). -/

namespace Sys2Proof

/-- R189: an order body has a destination before any argument, and 221 octets at most, two of them code and destination. -/
def OrderFrame.wf (f : OrderFrame) : Bool :=
  (f.dest.isSome || f.args.isEmpty) && decide (f.args.length ≤ 219)

/-- R184: a body has 1 to 221 octets. -/
def bodyWf (body : List Byte) : Bool := decide (1 ≤ body.length ∧ body.length ≤ 221)

/-- The command is well formed. -/
def Instr.wf : Instr → Bool
  | .reset _ _ => true
  | .selfTestEnd _ _ _ _ => true
  | .joiningListenEnd _ => true
  | .run f => f.wf
  | .stop f => f.wf
  | .rate f => f.wf
  | .back f => f.wf
  | .forward f => f.wf
  | .home f _ => f.wf
  | .moveto f => f.wf
  | .origin f => f.wf
  | .setmap f => f.wf
  | .setneedle f => f.wf
  | .headOn f => f.wf
  | .headOff f => f.wf
  | .bobbin f => f.wf
  | .setseg f => f.wf
  | .resumeLoad f => f.wf
  | .clear f _ => f.wf
  | .setaction f => f.wf
  | .setup f => f.wf
  | .restart f _ => f.wf
  | .unknownOrder code f => !Machine.inCatalogue code && f.wf
  | .designSegment _ body => bodyWf body
  | .beaconReceived _ body => bodyWf body
  | .urgentReceived _ body => bodyWf body
  | .peerAgeExpiry _ => true
  | .beaconTimer => true
  | .transmitAttempt => true
  | .arbitrationLost => true
  | .collision => true
  | .frameSent => true
  | .crossing _ => true
  | .guardEnd => true
  | .minAssertionEnd => true
  | .haltSeenAsserted => true
  | .haltSeenReleased => true
  | .haltWaitExpiry => true
  | .haltPulseEnd => true
  | .starveTimerExpiry => true
  | .stallTimerExpiry => true
  | .agreementTimerExpiry => true
  | .windowMoveStep => true
  | .homingStep => true
  | .homeSwitchSeenClosed => true
  | .homingFail => true
  | .movetoStep => true
  | .driveFaultAsserted => true
  | .driveFaultReleased => true
  | .trimPulseEnd _ => true
  | .detentPulse => true
  | .detentReleased => true
  | .selMoveLimitExpiry => true
  | .selSettleExpiry _ => true
  | .needleDownSeen => true
  | .needleDownReleased => true
  | .needleUpSeen => true
  | .needleUpReleased => true
  | .strokeLimitExpiry => true
  | .sampleOneShotEnd => true
  | .conversionEnd _ => true
  | .dwellEnd => true
  | .feedPulse => true
  | .surge => true
  | .supplyFallWarn => true
  | .supplyRiseNormal => true
  | .supplyFallLow => true
  | .supplyRiseWarn => true
  | .supplyFallCut => true
  | .supplyRecovery => true
  | .frameAbandoned => true
  | .lineIdle => true

end Sys2Proof
end

