-- ==== Sys2Proof/Decode.lean ====
section
/-! DEFINITION. From the octets on the station line to the command they are (R180 to R185, R189), and back. No row of
spec/opcode_table.json gives bits, so no table word spells a command (log entry 36). -/

namespace Sys2Proof

/-- No row of the table gives bits: no word spells a command. -/
def decodeTableWord (_nbits _w : Nat) : Option Instr := none

/-- The inputs that the rules of a received order read at the moment it is taken (log entry 3). -/
structure Sampled where
  lines        : CodeLines
  switchClosed : Bool
  supplyMv     : Nat
deriving DecidableEq, Repr

/-- R189: the order a code names. -/
def orderOf (x : Sampled) (code : Byte) (f : OrderFrame) : Instr :=
  match code.toNat with
  | 1 => .run f
  | 2 => .stop f
  | 3 => .rate f
  | 4 => .back f
  | 5 => .forward f
  | 6 => .home f x.switchClosed
  | 7 => .moveto f
  | 8 => .origin f
  | 9 => .setmap f
  | 10 => .setneedle f
  | 11 => .headOn f
  | 12 => .headOff f
  | 13 => .bobbin f
  | 14 => .setseg f
  | 15 => .resumeLoad f
  | 16 => .clear f x.lines
  | 17 => .setaction f
  | 18 => .setup f
  | 19 => .restart f x.supplyMv
  | _ => .unknownOrder code f

/-- R185, R189: the command of an accepted frame. An accepted frame has a body (R184). -/
def commandOf (x : Sampled) (cls : Machine.FrameClass) (src : Station) (body : List Byte) : Instr :=
  match cls with
  | .urgent => .urgentReceived src body
  | .beacon => .beaconReceived src body
  | .design => .designSegment src body
  | .order =>
    match body with
    | [] => .frameAbandoned
    | [code] => orderOf x code ⟨src, none, []⟩
    | code :: dest :: args => orderOf x code ⟨src, some dest, args⟩

/-- The command that the octets on the line are, after idle and from the sync on: a frame that is abandoned or discarded is FRAME_ABANDONED. -/
def decodeLine (x : Sampled) (octets : List Byte) : Instr :=
  match Machine.receiveFrame octets with
  | .accepted cls src body => commandOf x cls src body
  | .abandoned => .frameAbandoned

/-- R189: the body of an order. -/
def orderBody (code : Byte) (f : OrderFrame) : List Byte := code :: f.dest.toList ++ f.args

/-- The octets of an order frame. -/
def encodeOrder (code : Byte) (f : OrderFrame) : Option (List Byte) :=
  some (Machine.buildFrame .order f.src (orderBody code f))

/-- The octets on the line of a command that is a received frame; none for every other command. -/
def encodeLine : Instr → Option (List Byte)
  | .run f => encodeOrder 1 f
  | .stop f => encodeOrder 2 f
  | .rate f => encodeOrder 3 f
  | .back f => encodeOrder 4 f
  | .forward f => encodeOrder 5 f
  | .home f _ => encodeOrder 6 f
  | .moveto f => encodeOrder 7 f
  | .origin f => encodeOrder 8 f
  | .setmap f => encodeOrder 9 f
  | .setneedle f => encodeOrder 10 f
  | .headOn f => encodeOrder 11 f
  | .headOff f => encodeOrder 12 f
  | .bobbin f => encodeOrder 13 f
  | .setseg f => encodeOrder 14 f
  | .resumeLoad f => encodeOrder 15 f
  | .clear f _ => encodeOrder 16 f
  | .setaction f => encodeOrder 17 f
  | .setup f => encodeOrder 18 f
  | .restart f _ => encodeOrder 19 f
  | .unknownOrder code f => encodeOrder code f
  | .designSegment src body => some (Machine.buildFrame .design src body)
  | .beaconReceived src body => some (Machine.buildFrame .beacon src body)
  | .urgentReceived src body => some (Machine.buildFrame .urgent src body)
  | .reset _ _ | .selfTestEnd _ _ _ _ | .joiningListenEnd _ | .peerAgeExpiry _ | .beaconTimer | .transmitAttempt
  | .arbitrationLost | .collision | .frameSent | .crossing _ | .guardEnd | .minAssertionEnd | .haltSeenAsserted
  | .haltSeenReleased | .haltWaitExpiry | .haltPulseEnd | .starveTimerExpiry | .stallTimerExpiry | .agreementTimerExpiry
  | .windowMoveStep | .homingStep | .homeSwitchSeenClosed | .homingFail | .movetoStep | .driveFaultAsserted
  | .driveFaultReleased | .trimPulseEnd _ | .detentPulse | .detentReleased | .selMoveLimitExpiry | .selSettleExpiry _
  | .needleDownSeen | .needleDownReleased | .needleUpSeen | .needleUpReleased | .strokeLimitExpiry | .sampleOneShotEnd
  | .conversionEnd _ | .dwellEnd | .feedPulse | .surge | .supplyFallWarn | .supplyRiseNormal | .supplyFallLow
  | .supplyRiseWarn | .supplyFallCut | .supplyRecovery | .frameAbandoned | .lineIdle => none

/-- The inputs that a command was taken with, where it carries any. -/
def sampledOf : Instr → Sampled
  | .home _ c => ⟨0, c, 0⟩
  | .clear _ l => ⟨l, false, 0⟩
  | .restart _ mv => ⟨0, false, mv⟩
  | _ => ⟨0, false, 0⟩

end Sys2Proof
end

