-- ==== Sys2Proof/Machine/Ring.lean ====
section
/-! DEFINITION. The design ring (R5 to R16), the order of cursors (R4), the place of a cursor among the displacement records
(R55, R147) and the counting of traversal targets (R147, R148). -/

namespace Sys2Proof.Machine

/-- R4: record numbers first, then MOVE before STROKE. -/
def cursorLt (a b : Cursor) : Bool :=
  decide (a.n < b.n) || (decide (a.n = b.n) && a.step == .first && b.step == .stroke)

/-- L: the number of the next record the loader expects (R5, log entry 12). -/
def ringL (r : Ring) : Nat := r.F + r.recs.length

/-- R9. -/
def ringRoom (r : Ring) : Nat := Config.ringPlaces - r.recs.length

/-- R6: the record numbered `n`, if F ≤ n < L. -/
def ringGet (r : Ring) (n : Nat) : Option Rec := if r.F ≤ n then r.recs[n - r.F]? else none

/-- R10: the trail entries of a run of records that starts at record `n`. -/
def colorEntries : Nat → List Rec → List (Nat × Nat)
  | _, [] => []
  | n, r :: rs => if isColor r then (n, r.o1.toNat) :: colorEntries (n + 1) rs else colorEntries (n + 1) rs

/-- R11, R12: the colour of the last of some trail entries, or this base colour if there is none. -/
def lastColor (base : Nat) (es : List (Nat × Nat)) : Nat :=
  match es.getLast? with
  | some e => e.2
  | none => base

/-- R12: the colour in force at record `n`. -/
def colorInForce (r : Ring) (n : Nat) : Nat := lastColor r.base (r.trail.filter fun e => decide (e.1 < n))

/-- R8, R10, R11: F raised to `f`, with the records and trail entries below it leaving; nothing when `f` is not above F. -/
def raiseF (f : Nat) (r : Ring) : Ring :=
  if r.F < f then
    { F := f
      recs := r.recs.drop (f - r.F)
      trail := r.trail.filter fun e => decide (f ≤ e.1)
      base := lastColor r.base (r.trail.filter fun e => decide (e.1 < f)) }
  else r

/-- R8: retention against cursor record `n`. -/
def retainAt (n retain : Nat) (r : Ring) : Ring := raiseF (min (n - retain) (ringL r)) r

/-- R7: the records and their trail entries join at the front. -/
def appendRecs (rs : List Rec) (r : Ring) : Ring :=
  { r with recs := r.recs ++ rs, trail := r.trail ++ colorEntries (ringL r) rs }

/-- The number of COLOR records of a segment. -/
def colorCount (rs : List Rec) : Nat := rs.countP isColor

/-- R13: pruning for a segment with `k` COLOR records, with the cursor at record `n`. -/
def prune (n k : Nat) (r : Ring) : Ring :=
  if r.trail.length + k ≤ Config.trailPlaces then r
  else
    let bound := min n (ringL r)
    match r.trail[r.trail.length + k - Config.trailPlaces - 1]? with
    | some e => if e.1 < bound then raiseF (e.1 + 1) r else raiseF bound r
    | none => raiseF bound r

/-- R15, R16: the ring emptied at record `n` with this base colour. -/
def emptiedAt (n base : Nat) : Ring := ⟨n, [], [], base⟩

/-- R55, R147: the lowest record number that is not behind the cursor. A cursor with step STROKE has the record it names
behind it, even where the record is absent (R4, log entry 13); only a record that is present and no STITCH is not. -/
def frontier (r : Ring) (c : Cursor) : Nat :=
  match c.step with
  | .first => c.n
  | .stroke =>
    match ringGet r c.n with
    | some x => if isStitch x then c.n + 1 else c.n
    | none => c.n + 1

/-- The records numbered `lo` to `hi` − 1, if the ring holds them all. -/
def ringSlice (r : Ring) (lo hi : Nat) : Option (List Rec) :=
  if hi ≤ lo then some []
  else if r.F ≤ lo ∧ hi ≤ ringL r then some ((r.recs.drop (lo - r.F)).take (hi - lo)) else none

/-- R55: a cursor with step STROKE asks whether the record it names is a STITCH, so that record is needed; with the first step
none is. -/
def placeKnown (r : Ring) (c : Cursor) : Bool := c.step == .first || (ringGet r c.n).isSome

/-- R55: the change of Pc from one cursor to another, or none if a record it needs is absent (R56). A cursor below F or beyond L
always lacks one. -/
def pcChange (role : Option Role) (r : Ring) (old new : Cursor) : Option Int :=
  if r.F ≤ new.n ∧ new.n ≤ ringL r ∧ placeKnown r old = true ∧ placeKnown r new = true then
    let a := frontier r old
    let b := frontier r new
    if a ≤ b then (ringSlice r a b).map (displacementSum role)
    else (ringSlice r b a).map fun rs => - displacementSum role rs
  else none

/-! ### Traversal -/

/-- The held records behind a cursor, highest number first, as far as they are held without a gap (R147). -/
def behindDesc (r : Ring) (c : Cursor) : List Rec :=
  if frontier r c ≤ ringL r then (r.recs.take (frontier r c - r.F)).reverse else []

/-- The held records that are not behind a cursor, lowest number first (R148). -/
def aheadAsc (r : Ring) (c : Cursor) : List Rec :=
  if r.F ≤ frontier r c then r.recs.drop (frontier r c - r.F) else []

/-- R147: count `k` displacement records downward from record `m`; the number of the last one counted. -/
def countBack : Nat → Nat → List Rec → Option Nat → Option Nat
  | _, _, [], last => last
  | k, m, x :: xs, last =>
    if k = 0 then last
    else if isDisplacement x then countBack (k - 1) (m - 1) xs (some m)
    else countBack k (m - 1) xs last

/-- R148: count `k` displacement records upward from record `m`; the cursor just after the move of the last one counted, and
whether an END stopped the count. -/
def countForward : Nat → Nat → List Rec → Option Cursor → Option Cursor × Bool
  | _, _, [], last => (last, false)
  | k, m, x :: xs, last =>
    if k = 0 then (last, false)
    else if isEnd x then (last, true)
    else if isStitch x then countForward (k - 1) (m + 1) xs (some ⟨m, .stroke⟩)
    else if isDisplacement x then countForward (k - 1) (m + 1) xs (some (Cursor.at (m + 1)))
    else countForward k (m + 1) xs last

/-- R147: the target of BACK k. -/
def backTarget (r : Ring) (c : Cursor) (k : Nat) : Cursor :=
  match countBack k (frontier r c - 1) (behindDesc r c) none with
  | some m => Cursor.at m
  | none => c

/-- R148: the target of FORWARD k and its END-limited flag. -/
def forwardTarget (r : Ring) (c : Cursor) (k : Nat) : Cursor × Bool :=
  match countForward k (frontier r c) (aheadAsc r c) none with
  | (some t, lim) => (t, lim)
  | (none, lim) => (c, lim)

/-- The first displacement record of a run that goes down from record `m`. -/
def firstBack : Nat → List Rec → Option (Nat × Rec)
  | _, [] => none
  | m, x :: xs => if isDisplacement x then some (m, x) else firstBack (m - 1) xs

/-- The first displacement record of a run that goes up from record `m`. -/
def firstForward : Nat → List Rec → Option (Nat × Rec)
  | _, [] => none
  | m, x :: xs => if isDisplacement x then some (m, x) else firstForward (m + 1) xs

/-- R150: the record of the next RETREAT window. -/
def nextBack (r : Ring) (c : Cursor) : Option (Nat × Rec) := firstBack (frontier r c - 1) (behindDesc r c)

/-- R151: the record of the next ADVANCE window. -/
def nextForward (r : Ring) (c : Cursor) : Option (Nat × Rec) := firstForward (frontier r c) (aheadAsc r c)

/-- R151: the cursor just after the move of displacement record `m`. -/
def afterMove (m : Nat) (x : Rec) : Cursor := if isStitch x then ⟨m, .stroke⟩ else Cursor.at (m + 1)

/-! ### The choice of agreement (R53) -/

/-- How many of the stations taking part hold this cursor. -/
def holders (cs : List Cursor) (c : Cursor) : Nat := cs.countP fun x => decide (x = c)

/-- R53: the cursor held by the greatest number, and among those the smallest. -/
def chooseFrom (cs : List Cursor) : List Cursor → Cursor → Cursor
  | [], best => best
  | c :: rest, best =>
    if holders cs best < holders cs c ∨ (holders cs best = holders cs c ∧ cursorLt c best = true)
    then chooseFrom cs rest c
    else chooseFrom cs rest best

/-- R53: the chosen cursor of a group with the member `c` and the others `cs`. -/
def chooseCursor (c : Cursor) (cs : List Cursor) : Cursor := chooseFrom (c :: cs) cs c

end Sys2Proof.Machine
end

