-- ==== Sys2Proof/Machine/Timing.lean ====
section
/-! DEFINITION. Derived times (R39), positions and steps of an axis (R79, R88 to R92), step schedules (R82, R86, R92). -/

namespace Sys2Proof.Machine

/-- R39: the stitch period T, µs. -/
def stitchPeriod (rate : Nat) : Nat := 60000000 / rate

/-- R39: the move time Tm, µs. -/
def moveTime (rate share : Nat) : Nat := stitchPeriod rate * share / 16

/-- R39: the stroke time Ts, µs. -/
def strokeTime (rate share : Nat) : Nat := stitchPeriod rate - moveTime rate share

/-- R39: the traversal move time, µs. -/
def traverseTime (rate : Nat) : Nat := 60000000 / rate

/-- R38: a rate clamped into 100..1,200. -/
def clampRate (r : Nat) : Nat := max 100 (min r 1200)

/-- R79: a position clamped to the travel limits. -/
def clampPos (ps : Params) (x : Int) : Int := min ps.lmax (max x ps.lmin)

/-- R90: the step position of a frame position; the division rounds toward minus infinity. -/
def toSteps (ps : Params) (x : Int) : Int := x * ps.p / 100

/-- R55, R88: a commanded position saturated at ±1,000,000,000 du. -/
def satPc (x : Int) : Int := max (-Config.pcBound) (min x Config.pcBound)

/-- Division that rounds upward (R91). -/
def ceilDiv (a b : Nat) : Nat := (a + b - 1) / b

/-- R91: the move time of a step change, from its base time, the highest speed and the return from an excursion. -/
def moveDuration (ps : Params) (base : Nat) (excursion : Bool) (delta : Int) : Nat :=
  max base (max (ceilDiv (delta.natAbs * 1000) ps.vmax)
    (if excursion then ceilDiv (delta.natAbs * 1000) ps.homeRate else 0))

/-- R92: the time of the k-th step of a window move, µs after the opening. -/
def moveStepTime (tmove : Nat) (delta : Int) (k : Nat) : Nat := k * tmove / delta.natAbs

/-- R82, R86: the time of the k-th step of homing or MOVETO, µs after the acceptance. -/
def rateStepTime (homeRate k : Nat) : Nat := k * 1000 / homeRate

/-- The sign of a step change as a direction (R80). -/
def dirOf (delta : Int) : Dir := if delta < 0 then .negative else .positive

/-- R82: HOME_DIR as a direction. -/
def homeDirOf (ps : Params) : Dir := if ps.homeDir = 0 then .negative else .positive

/-- Tenths of a second in µs (STARVE_LIMIT, STALL_TIME; R175, R189). -/
def tenthsUs (n : Nat) : Nat := n * 100000

/-- Milliseconds in µs (SEL_SETTLE, TRIM_PULSE). -/
def msUs (n : Nat) : Nat := n * 1000

/-- Tens of milliseconds in µs (SEL_LIMIT, STROKE_LIMIT). -/
def tensMsUs (n : Nat) : Nat := n * 10000

/-- Tenths of a millisecond in µs (SAMPLE_DELAY). -/
def tenthsMsUs (n : Nat) : Nat := n * 100

/-- A timer that is running. -/
def isRunning : Timer → Bool
  | .running _ => true
  | _ => false

end Sys2Proof.Machine
end

