-- ==== Sys2Proof/Machine/Thread.lean ====
section
/-! DEFINITION. The arithmetic of the thread monitor: stitch length, feed band, classification (R135, R136), bobbin thread
(R141). -/

namespace Sys2Proof.Machine

/-- R135: the stitch length Ls of a record. -/
def stitchLength (r : Rec) : Nat :=
  let a := r.o1.toInt.natAbs
  let b := r.o2.toInt.natAbs
  max a b + 3 * min a b / 8

/-- R135: the expected feed e. -/
def expectedFeed (ps : Params) (ls : Nat) : Nat := (ps.ka * ls + ps.kb) / 64

/-- R135: the band. -/
def feedBand (ps : Params) (e : Nat) : Nat := max 1 (e * ps.delta / 16)

/-- R135: the feed of a stroke against its band. -/
inductive Feed where
  | short | normal | long
deriving DecidableEq, Repr

/-- R135: SHORT below lo = e − band, LONG above hi = e + band. -/
def feedClass (ps : Params) (r : Rec) (p : Nat) : Feed :=
  let e := expectedFeed ps (stitchLength r)
  if p + feedBand ps e < e then .short else if e + feedBand ps e < p then .long else .normal

/-- R136. -/
inductive Tension where
  | low | mid | high
deriving DecidableEq, Repr

/-- R136: HIGH if t is above TH or the surge latch is set, LOW if t is below TL, MID otherwise. -/
def tensionClass (ps : Params) (t : Nat) (surge : Bool) : Tension :=
  if ps.th < t ∨ surge = true then .high else if t < ps.tl then .low else .mid

/-- R136: the classes of a stroke. -/
inductive StrokeClass where
  | breakSuspect | snagSuspect | good | tight | loose
deriving DecidableEq, Repr

/-- R136: the table of classes. -/
def strokeClass : Feed → Tension → StrokeClass
  | .short, .high => .snagSuspect
  | .short, _ => .breakSuspect
  | .normal, .high => .tight
  | .normal, _ => .good
  | .long, _ => .loose

/-- R141: the bobbin thread of a stroke, du. -/
def bobbinThread (ps : Params) (r : Rec) : Nat := stitchLength r * ps.kl / 16 + ps.kbob

/-- R140, R141: the warning level, du. -/
def bobbinWarnLevel (ps : Params) : Nat := ps.bobbinWarn * 10000

/-- R141: whole metres of bobbin thread, saturated at 255. -/
def bobbinMetres (b : Nat) : Byte := octetSat (b / 10000)

end Sys2Proof.Machine
end

