-- ==== Sys2Proof/Machine/Flags.lean ====
section
/-! DEFINITION. What the station computes from its state: fault conditions (R158, R159), withholding (R163), the HALT request
(R164), the roster (R48), the peers (R43, R37), readiness (R26), and the head's look-ups (R103, R105). -/

namespace Sys2Proof.Machine

/-- The station takes events: it has a pacing role (R176) and its self-test has ended (R177). -/
def inService (s : State) : Bool := s.role.isSome && !s.selfTesting

def isHead (s : State) : Bool := s.role == some .head

def isAxis (s : State) : Bool := s.role == some .axisX || s.role == some .axisY

/-! ### The roster -/

/-- R48: how many PRESENT records, the own entry counted, have this role. -/
def rosterCount (r : Role) (s : State) : Nat :=
  (List.finRange 32).countP fun i =>
    if i = s.number then s.role == some r
    else s.ptb.peers[i].presence == .present && s.ptb.peers[i].role == r

/-- R48. -/
def rosterRight (s : State) : Bool := rosterCount .axisX s == 1 && rosterCount .axisY s == 1

/-! ### Fault records -/

/-- The place of a fault in the table of records. -/
def faultIdx (c : FaultCode) : Fin 25 := ⟨faultNumber c - 1, by cases c <;> decide⟩

/-- The record of a fault. -/
def faultRec (c : FaultCode) (s : State) : FaultRec := s.flt.recs[faultIdx c]

/-- R159: the lasting condition of a fault; absent at every moment for a fault that has none. -/
def condition (c : FaultCode) (s : State) : Bool :=
  match c with
  | .selfTest => (faultRec .selfTest s).latched
  | .duplicateNumber => (faultRec .duplicateNumber s).latched
  | .supplyLow => s.flt.supply == .low || s.flt.supply == .cut
  | .needleStuck => s.stu.needleHeld
  | .driveFail => isAxis s && s.axu.driveFault
  | .frameRoster => !rosterRight s
  | .notHomed => isAxis s && s.axu.homing != .homed
  | .originLost => isAxis s && !s.axu.originValid
  | .selectorJam => s.slu.sel == .jammed
  | .bobbinEmpty => s.thm.bobbin == some 0
  | .bobbinLow =>
    match s.thm.bobbin with
    | some b => decide (b < bobbinWarnLevel s.params)
    | none => false
  | .loadLockout => s.dld.state == .lockout
  | .supplyWarn => s.flt.supply != .normal
  | _ => false

/-- R163: the faults that are withheld while the head is OFF. -/
def withholdable : FaultCode → Bool
  | .threadBreak | .threadSnag | .tensionLoose | .tensionTight | .bobbinLow | .bobbinEmpty | .selectorJam
  | .needleUnmapped | .driveFail => true
  | _ => false

/-- R163: the participation that counts for withholding. -/
def withholdingPart (s : State) : Participation := s.stu.pendingPart.getD s.stu.participation

/-- R163. -/
def withheld (c : FaultCode) (s : State) : Bool := isHead s && withholdable c && withholdingPart s == .off

/-- R164: the fault counts toward the HALT request. -/
def countsToHalt (c : FaultCode) (s : State) : Bool :=
  (faultRec c s).latched
    && ((faultRec c s).action == .halt || (c == .peerLost && s.flt.axisMark))
    && !withheld c s

/-- R164, R176: the station's HALT request. -/
def haltRequest (s : State) : Bool :=
  allFaults.any (fun c => countsToHalt c s) || isRunning s.pcu.haltPulse || s.pcu.run == .joining || s.pcu.run == .cut
    || s.role.isNone

/-- R81 check 2: the station's own HALT request has no source other than NOT-HOMED and ORIGIN-LOST. -/
def ownHaltAllowsHome (s : State) : Bool :=
  !(allFaults.any fun c => countsToHalt c s && c != .notHomed && c != .originLost)
    && !isRunning s.pcu.haltPulse && s.pcu.run != .joining && s.pcu.run != .cut

/-! ### Peers -/

/-- R43: the own entry of the peer table, always the station's own current values. -/
def ownPeer (role : Role) (s : State) : Peer where
  presence := .present
  role := role
  run := s.pcu.run
  cursor := s.pcu.cursor
  ready := s.pcu.win == .ready
  stopCursor := none
  qualified := false
  age := 0

/-- R43: the pacing peers, by station number. -/
def pacingPeers (s : State) : List (Station × Peer) :=
  (List.finRange 32).filterMap fun i =>
    if i ≠ s.number ∧ s.ptb.peers[i].presence = .present then some (i, s.ptb.peers[i]) else none

/-- R53: every pacing peer has its qualified mark set. -/
def allQualified (s : State) : Bool := (pacingPeers s).all fun p => p.2.qualified

/-- R53: the stop cursors of the pacing peers whose qualified mark is set. -/
def qualifiedCursors (s : State) : List Cursor :=
  (pacingPeers s).filterMap fun p => if p.2.qualified then p.2.stopCursor else none

/-- R51 step 1: the cursors of the pacing peers whose last recorded beacon reports STOPPED. -/
def stoppedCursors (s : State) : List Cursor :=
  (pacingPeers s).filterMap fun p => if p.2.run = .stopped then some p.2.cursor else none

/-- R37: the stations that hold the machine up, by number. -/
def holdingPeers (s : State) : List Station :=
  (pacingPeers s).filterMap fun p => if p.2.ready = false ∨ p.2.run = .stopped then some p.1 else none

/-! ### Pacing -/

/-- R52: agreement is waiting. -/
def agreementWaiting (s : State) : Bool := isRunning s.pcu.agreement

/-- RUNNING or a traversal state (R33, R37). -/
def isMoving (r : RunState) : Bool := r == .running || r == .traversingBack || r == .traversingForward

/-- R6: the record at N. -/
def recAtN (s : State) : Option Rec := ringGet s.drg s.pcu.cursor.n

/-- R36: the station starves. -/
def starving (s : State) : Bool :=
  s.pcu.run == .running && s.pcu.win == .preparing && s.pcu.pendingStop.isNone && (recAtN s).isNone

/-- R118: a trim pulse is in flight. -/
def trimming (s : State) : Bool := isRunning s.slu.trim

/-- R107: the selector is MOVING or CONFIRMING. -/
def selectorBusy (s : State) : Bool :=
  match s.slu.sel with
  | .moving _ | .confirming _ => true
  | _ => false

/-- R127: a stroke is in flight. -/
def strokeInFlight (s : State) : Bool := s.stu.phase != .idle

/-- R127: the needle drive output. -/
def needleDrive (s : State) : Bool := s.stu.phase == .downstroke || s.stu.phase == .upstroke

/-- R134: the surge reference output. -/
def surgeReference (s : State) : Nat := s.params.surgeRef * 4

/-- R134: the surge comparator is watched from the opening of a stroke to its NEEDLE-UP, in STUCK too: R133 stops sampling and
counting, and not this. After DRIVE-FAIL and in CUT it is not watched (DESIGN CHOICE, log entry 40). -/
def watchesSurge (s : State) : Bool := needleDrive s || s.stu.phase == .stuck

/-- R25: a block still has work of the open window. -/
def workInFlight (s : State) : Bool := s.axu.move.isSome || trimming s || selectorBusy s || strokeInFlight s

/-- R29, R145, R146: at an axis the origin is valid. -/
def originGiven (s : State) : Bool := !isAxis s || s.axu.originValid

/-- R26: what the role blocks ask before the station becomes READY. -/
def roleReady (s : State) : Bool :=
  if isHead s then s.stu.needleUp && !strokeInFlight s && !trimming s && !selectorBusy s
  else s.axu.move.isNone && s.axu.op.isNone

/-- R26, but for the record at N and the next window. -/
def mayBecomeReady (s : State) : Bool :=
  s.pcu.win == .preparing && isMoving s.pcu.run && s.pcu.pendingStop.isNone && !s.pcu.haltSeen && !agreementWaiting s
    && s.pcu.edge == .settled && roleReady s

/-- R180, R182: the receive framer can take in a frame: the line has been idle since the last one ended, so that a frame may
have begun, and the station's own transmission is not the frame in progress. -/
def listening (s : State) : Bool := s.liu.tx.isNone && s.liu.framer != .waitIdle

/-- R165, R186: the urgent slot is due. -/
def urgentDue (s : State) : Bool := s.pcu.run != .cut && allFaults.any fun c => (faultRec c s).pending

/-- R165: the faults an urgent frame lists: the first eight pending ones in table order. -/
def urgentList (s : State) : List FaultCode := (allFaults.filter fun c => (faultRec c s).pending).take 8

/-! ### Needles -/

/-- R103: the needle the colour map gives for a colour; an entry above NEEDLES is read as 0. -/
def mapNeedle (colour : Nat) (s : State) : Nat :=
  let n := s.slu.map.toList.getD colour 0
  if n ≤ s.params.needles then n else 0

/-- R105: the table entry of a needle, 1 to 15. -/
def needleEntry (n : Nat) (s : State) : Needle := s.slu.needles.toList.getD (n - 1) ⟨.ready, 0, 0, 0⟩

/-- R114, R124: there is a needle and it is READY. -/
def needleUsable (n : Nat) (s : State) : Bool := n != 0 && (needleEntry n s).state == .ready

/-- R12: the colour in force at the cursor. -/
def colorAtN (s : State) : Nat := colorInForce s.drg s.pcu.cursor.n

end Sys2Proof.Machine
end

