-- ==== Sys2Proof/Machine/FaultUnit.lean ====
section
/-! DEFINITION. Raising and releasing faults (R160, R161, R46) and the records at a restart (R169, R170). -/

namespace Sys2Proof.Machine

/-- Write the record of a fault. -/
def setFault (c : FaultCode) (r : FaultRec) (s : State) : State :=
  { s with flt := { s.flt with recs := s.flt.recs.set (faultIdx c) r } }

/-- R160: a record after a cause with this detail, taken with this action. -/
def raisedRec (act : Action) (d1 d2 : Byte) (r : FaultRec) : FaultRec :=
  let r' := { r with count := min 255 (r.count + 1), d1 := d1, d2 := d2 }
  match act with
  | .ignore => r'
  | _ => { r' with latched := true, pending := true, fresh := true }

/-- R160: a cause taken with a given action. -/
def raiseAs (act : Action) (c : FaultCode) (d1 d2 : Byte) (s : State) : State :=
  setFault c (raisedRec act d1 d2 (faultRec c s)) s

/-- R160: a cause taken with the action in force. -/
def raise (c : FaultCode) (d1 d2 : Byte) (s : State) : State := raiseAs (faultRec c s).action c d1 d2 s

/-- The octet of a station number. -/
def stationOctet (n : Station) : Byte := BitVec.ofNat 8 n.val

/-- R46, R160: the loss of a peer with this role; an axis peer is taken with action HALT and sets the axis mark. -/
def raisePeerLost (n : Station) (role : Role) (s : State) : State :=
  match role with
  | .head => raise .peerLost (stationOctet n) (roleCode role) s
  | _ =>
    let t := raiseAs .halt .peerLost (stationOctet n) (roleCode role) s
    { t with flt := { t.flt with axisMark := true } }

/-- R161: unlatch one fault; PEER-LOST loses its axis mark with it. -/
def unlatch (c : FaultCode) (s : State) : State :=
  let t := setFault c { faultRec c s with latched := false } s
  if c = .peerLost then { t with flt := { t.flt with axisMark := false } } else t

/-- R161: take one fault a CLEAR names. -/
def clearOne (c : FaultCode) (s : State) : State :=
  if (faultRec c s).latched && !condition c s then unlatch c s else s

/-- R161: take the faults a CLEAR names, in turn. -/
def clearList : List FaultCode → State → State
  | [], s => s
  | c :: cs, s => clearList cs (clearOne c s)

/-- R170: SELF-TEST and DUPLICATE-NUMBER through a restart: kept, and made pending if latched (log entry 23). -/
def keptRec (r : FaultRec) : FaultRec := { r with pending := r.pending || r.latched }

/-- R169, R170: a record after a restart, which is the recovery from CUT or not. The recovery makes SUPPLY-LOW and SUPPLY-WARN
pending, latched or not. -/
def restartRec (fromCut : Bool) (c : FaultCode) (r : FaultRec) : FaultRec :=
  match c with
  | .selfTest | .duplicateNumber => keptRec r
  | .supplyLow | .supplyWarn => if fromCut then { r with pending := true } else FaultRec.clearedWith r.action
  | _ => FaultRec.clearedWith r.action

/-- R170: the fault unit after a restart, with the supply level it takes. -/
def restartFaults (fromCut : Bool) (level : SupplyLevel) (f : FaultUnit) : FaultUnit where
  recs := ⟨(List.zipWith (restartRec fromCut) allFaults f.recs.toList).toArray, by simp [allFaults]⟩
  axisMark := false
  supply := level

/-- R167: the supply faults that a starting level raises. -/
def raiseStartingLevel (s : State) : State :=
  match s.flt.supply with
  | .normal => s
  | .warn => raise .supplyWarn 0 0 s
  | _ => raise .supplyLow 0 0 (raise .supplyWarn 0 0 s)

end Sys2Proof.Machine
end

