-- ==== Sys2Proof/Machine/Frames.lean ====
section
/-! DEFINITION. The bodies the station sends: the beacon (R187, with R18, R42, R76, R102, R121, R144) and the urgent body
(R188, R165), and the codes of R187. -/

namespace Sys2Proof.Machine

/-- A number in two octets, high first. -/
def octets2 (n : Nat) : List Byte := [BitVec.ofNat 8 (n / 256), BitVec.ofNat 8 n]

/-- A number in three octets, high first. -/
def octets3 (n : Nat) : List Byte := BitVec.ofNat 8 (n / 65536) :: octets2 n

/-- A number in four octets, high first. -/
def octets4 (n : Nat) : List Byte := BitVec.ofNat 8 (n / 16777216) :: octets3 n

/-- A signed number in two octets, two's complement, high first. -/
def signedOctets2 (x : Int) : List Byte := octets2 (BitVec.ofInt 16 x).toNat

/-- A flag octet. -/
def flagOctet (b : Bool) : Byte := if b then 1 else 0

def stopReasonCode : StopReason → Byte
  | .joined => 0
  | .stopOrder => 1
  | .halted => 2
  | .programmedStop => 3
  | .designEnd => 4
  | .traverseDone => 5

def loaderCode : LoaderState → Byte
  | .opened => 0
  | .wait => 1
  | .lockout => 2

def lockCode : LockReason → Byte
  | .none => 0
  | .window => 1
  | .gap => 2
  | .badRecord => 3
  | .range => 4
  | .rebase => 5

def waitCode : WaitCause → Byte
  | .none => 0
  | .room => 1
  | .trail => 2

def refusalOctet : RefusalCode → Byte
  | .notStopped => 1
  | .halted => 2
  | .badArg => 3
  | .wrongRole => 4
  | .lockout => 5
  | .range => 6
  | .designEnd => 7
  | .noOrigin => 8
  | .setupClosed => 9
  | .notJammed => 10

def homingCode : Homing → Byte
  | .unhomed => 0
  | .homing => 1
  | .homed => 2

/-- R187: the code of a selector state and, as R121 gives it, the needle number. -/
def selectorOctets : SelState → List Byte
  | .unknown => [0, 0]
  | .settled p => [1, BitVec.ofNat 8 p]
  | .moving p => [2, BitVec.ofNat 8 p]
  | .confirming p => [3, BitVec.ofNat 8 p]
  | .jammed => [4, 0]

/-- The step octet of a cursor. -/
def stepOctet : Step → Byte
  | .first => 0
  | .stroke => 1

/-- A cursor in four octets: the record number, then the step. -/
def cursorOctets (c : Cursor) : List Byte := octets3 c.n ++ [stepOctet c.step]

/-- R164, R187: the halt-request set as a 32-bit value. -/
def haltSet (s : State) : Nat :=
  (allFaults.map fun c => if countsToHalt c s then 2 ^ faultNumber c else 0).sum
    + (if isRunning s.pcu.haltPulse then 2 ^ 26 else 0)
    + (if s.pcu.run = .joining then 2 ^ 27 else 0)

/-- R173, R187: the two octets of the last refusal. -/
def refusalOctets (s : State) : List Byte :=
  match s.ord.lastRefusal with
  | some (c, kind) => [refusalOctet c, kind]
  | none => [0, 0]

/-- R187: octets 0 to 31 of the beacon. -/
def beaconCommon (role : Role) (s : State) : List Byte :=
  [stationOctet s.number, roleCode role, runCode s.pcu.run, stopReasonCode s.pcu.stopReason]
    ++ cursorOctets s.pcu.cursor
    ++ [flagOctet (s.pcu.win == .ready)]
    ++ octets4 (haltSet s)
    ++ octets2 s.pcu.setRate
    ++ [loaderCode s.dld.state, s.dld.v, flagOctet s.dld.resend, lockCode s.dld.lockReason, waitCode s.dld.waitCause]
    ++ octets4 (ringL s.drg)
    ++ octets2 (ringRoom s.drg)
    ++ octets2 s.dld.designId.toNat
    ++ [s.ord.counter]
    ++ refusalOctets s
    ++ [s.resultCode]

/-- R121, R144: the role part of a head. -/
def beaconHead (s : State) : List Byte :=
  [if s.stu.participation = .enabled then 1 else 0]
    ++ octets4 s.stu.C
    ++ selectorOctets s.slu.sel
    ++ [BitVec.ofNat 8 (colorAtN s), flagOctet s.thm.bobbin.isSome]
    ++ octets2 (s.thm.bobbin.getD 0 / 10000)

/-- R102: the role part of an axis. -/
def beaconAxis (s : State) : List Byte :=
  [homingCode s.axu.homing, flagOctet s.axu.originValid] ++ signedOctets2 s.axu.pf ++ [flagOctet s.axu.clampFlag]

/-- R187: the beacon body of a station with this role. -/
def beaconBody (role : Role) (s : State) : List Byte :=
  match role with
  | .head => beaconCommon role s ++ beaconHead s
  | _ => beaconCommon role s ++ beaconAxis s

/-- R188: one entry of an urgent body. -/
def urgentEntry (s : State) (c : FaultCode) : List Byte :=
  [BitVec.ofNat 8 (faultNumber c), octetSat (faultRec c s).count, (faultRec c s).d1, (faultRec c s).d2]

/-- R165, R188: the urgent body that lists these faults. -/
def urgentBody (listed : List FaultCode) (s : State) : List Byte :=
  cursorOctets s.pcu.cursor ++ [BitVec.ofNat 8 listed.length] ++ listed.flatMap (urgentEntry s)

end Sys2Proof.Machine
end

