-- ==== Sys2Proof/Machine/Ops.lean ====
section
/-! DEFINITION. The shared operations: changes of the cursor and what they do to ring and loader, entering STOPPED, agreement,
traversal targets, the READY test, frames taken in, joining, restart and CUT. -/

namespace Sys2Proof.Machine

/-! ### The ring and the loader follow the cursor (R8, R14, R67) -/

/-- R8: retention at the cursor's record. -/
def retainRing (s : State) : State := { s with drg := retainAt s.pcu.cursor.n s.params.retain s.drg }

/-- R14: the forced release of a loader in WAIT whose ring the cursor has reached the front of. -/
def releaseRing (s : State) : State :=
  if s.dld.state = .wait ∧ ringL s.drg ≤ s.pcu.cursor.n then { s with drg := raiseF (ringL s.drg) s.drg } else s

/-- R67: the loader leaves WAIT when room is at least 64 and the trail has 16 free entries. -/
def leaveWait (s : State) : State :=
  if s.dld.state = .wait ∧ 64 ≤ ringRoom s.drg ∧ s.drg.trail.length ≤ 48 then
    { s with dld := { s.dld with state := .opened, waitCause := .none } }
  else s

/-- What each change of N does to the ring and the loader. -/
def followCursor (s : State) : State := leaveWait (releaseRing (retainRing s))

/-- The cursor is written. -/
def writeCursor (c : Cursor) (s : State) : State := { s with pcu := { s.pcu with cursor := c } }

/-- Move the cursor; a change of N is a change to the ring and the loader (R8, R14, R67, log entry 14). -/
def setCursor (c : Cursor) (s : State) : State :=
  if c.n = s.pcu.cursor.n then writeCursor c s else followCursor (writeCursor c s)

/-- R68: the loader enters LOCKOUT, and LOAD-LOCKOUT is raised with the reason and this segment number. -/
def enterLockout (reason : LockReason) (segNo : Byte) (s : State) : State :=
  raise .loadLockout (lockCode reason) segNo
    { s with dld := { s.dld with state := .lockout, lockReason := reason, waitCause := .none } }

/-- R16, R70: rebase at a cursor below F. -/
def rebase (c : Cursor) (s : State) : State :=
  enterLockout .rebase s.dld.v { writeCursor c s with drg := emptiedAt c.n s.drg.base }

/-- R5, R23: the cursor of an opening. Where pruning has raised F above it since the station was READY, the ring is rebased, so
that F stays at or below N (DESIGN CHOICE, log entry 20). -/
def advanceCursor (c : Cursor) (s : State) : State := if c.n < s.drg.F then rebase c s else setCursor c s

/-! ### Slots and pulses -/

/-- R47, R186: a beacon falls due. In CUT no slot becomes due; during a beacon attempt the slot becomes due again at its
success. -/
def beaconFallsDue (s : State) : State :=
  if s.pcu.run = .cut then s
  else
    match s.liu.tx with
    | some tx =>
      if tx.slot = .beacon then { s with liu := { s.liu with tx := some { tx with again := true } } }
      else { s with liu := { s.liu with beaconDue := true } }
    | none => { s with liu := { s.liu with beaconDue := true } }

/-- R32: start a HALT pulse, or restart the one that runs. -/
def startPulse (s : State) : State := { s with pcu := { s.pcu with haltPulse := .running Config.haltPulseUs } }

/-! ### The roster (R48) -/

/-- R48: the roster check, from the completion of joining onward. -/
def rosterCheck (s : State) : State :=
  if s.ptb.joined then
    if rosterRight s then unlatch .frameRoster s
    else raise .frameRoster (octetSat (rosterCount .axisX s)) (octetSat (rosterCount .axisY s)) s
  else s

/-! ### Entering STOPPED and agreement (R35, R52 to R57) -/

/-- R52, R53: begin agreement. Without a pacing peer it completes at once, and then the station's own cursor is the only one
and nothing changes. -/
def beginAgreement (s : State) : State :=
  { s with
    ptb := { s.ptb with peers := vmap (fun p => { p with qualified := false }) s.ptb.peers }
    pcu := { s.pcu with
      agreement := if (pacingPeers s).isEmpty then .stopped else .running Config.agreementUs
      joinAgreement := false } }

/-- R153: the cursor stands at the target of the traversal in progress. -/
def traversalDone (s : State) : Bool :=
  match s.pcu.traversal with
  | some t => t.target == some s.pcu.cursor
  | none => false

/-- R35, R153: what an entry into STOPPED does in the pace unit. -/
def stopPace (reason : StopReason) (s : State) : State :=
  { s with
    pcu := { s.pcu with
      run := .stopped
      win := .preparing
      openW := none
      next := none
      preparePending := false
      pendingStop := none
      stopReason := s.pcu.pendingStop.getD reason
      starve := .stopped
      stall := .stopped
      haltWait := .stopped
      pace := true
      armed := true
      traversal := none
      haltPulse := if traversalDone s then .running Config.haltPulseUs else s.pcu.haltPulse } }

/-- R35: enter STOPPED. The reason given is the reason where no stop is pending. A completed traversal starts its HALT pulse
(R149, R153); then the beacon falls due and agreement begins. -/
def enterStopped (reason : StopReason) (s : State) : State := beginAgreement (beaconFallsDue (stopPace reason s))

/-- R55, R56: an axis with a valid origin follows an adopted cursor, or loses its origin. -/
def axisFollow (new : Cursor) (s : State) : State :=
  if isAxis s && s.axu.originValid then
    match pcChange s.role s.drg s.pcu.cursor new with
    | some d => { s with axu := { s.axu with pc := satPc (s.axu.pc + d), excursion := true } }
    | none => raise .originLost 0 0 { s with axu := { s.axu with originValid := false } }
  else s

/-- R54: adopt a cursor; the axis follows first, with the ring as it stands. Every adoption is a change of N, one that moves the
step alone too. -/
def adoptCursor (c : Cursor) (s : State) : State :=
  if c.n < s.drg.F then rebase c (axisFollow c s) else followCursor (writeCursor c (axisFollow c s))

/-- R146, R149: fix the target of a traversal whose target is unfixed. A target equal to the cursor stops the station at
once. -/
def fixTarget (s : State) : State :=
  match s.pcu.traversal with
  | none => s
  | some t =>
    if t.target.isSome then s
    else
      let f : Cursor × Bool :=
        match t.dir with
        | .back => (backTarget s.drg s.pcu.cursor t.k, false)
        | .forward => forwardTarget s.drg s.pcu.cursor t.k
      let s' := { s with pcu := { s.pcu with traversal := some { t with target := some f.1, endLimited := f.2 } } }
      if f.1 = s.pcu.cursor then enterStopped (if f.2 then .designEnd else .traverseDone) s' else s'

/-- R54: take up the chosen cursor where it differs from the station's own. At the first agreement after joining a head's
covered mark follows (R51). -/
def takeChosen (s : State) : State :=
  let own := s.pcu.cursor
  let others := qualifiedCursors s
  let c := chooseCursor own others
  let t := { s with pcu := { s.pcu with agreement := .stopped, joinAgreement := false } }
  if c = own then t
  else
    let u := adoptCursor c
      (raise .outOfStep (octetSat (holders (own :: others) c)) (octetSat (others.length + 1)) t)
    if s.pcu.joinAgreement && isHead s then { u with stu := { u.stu with C := c.n } } else u

/-! ### The READY test (R24 to R27, R36, R150, R151) -/

/-- R25: the window's work is finished once every block has reported and the minimum assertion has passed. With a stop pending
the station enters STOPPED (R22, log entry 18). -/
def tryFinish (s : State) : State :=
  if s.pcu.win = .opened ∧ s.pcu.edge = .settled ∧ workInFlight s = false then
    if s.pcu.pendingStop.isSome then enterStopped .halted s
    else { s with pcu := { s.pcu with win := .preparing, openW := none } }
  else s

/-- R24: the window of a record and step in RUNNING; none for STOP and END, which R27 takes. The step counts for a STITCH alone:
with step STROKE, which agreement can adopt at a record of another kind, that record has the window of the first step (DESIGN
CHOICE, log entry 39). -/
def windowFor (r : Rec) (c : Cursor) : Option Window :=
  match recKind r with
  | some .stitch => if c.step = .first then some (.move c.n) else some (.stroke c.n)
  | some .jump => some (.move c.n)
  | some .trim => some (.trim c.n)
  | some .color => some (.change c.n)
  | _ => none

/-- R23, R24, R37: become READY for this window: PACE released, the stall timer from zero. -/
def becomeReady (w : WindowRec) (s : State) : State :=
  { s with pcu := { s.pcu with
      win := .ready, next := some w, pace := false, stall := .running (tenthsUs s.params.stallTime) } }

/-- R27: the programmed stop and the design end. -/
def programmedStop (r : Rec) (s : State) : State :=
  match recKind r with
  | some .stop => enterStopped .programmedStop (setCursor (Cursor.at (s.pcu.cursor.n + 1)) s)
  | some .designEnd => enterStopped .designEnd s
  | _ => s

/-- R150, R151: the next window of a traversal whose target is fixed; none at an axis whose origin is lost, which HALT stops
before its first window (R146). Where pruning (R13), or retention under a RETAIN lowered before the traversal (R8), has given up
the records down to the target since, there is none, and the station stays PREPARING (DESIGN CHOICE, log entry 41). -/
def traversalWindow (s : State) : Option WindowRec :=
  match s.pcu.traversal with
  | some t =>
    if t.target.isSome && !traversalDone s && originGiven s then
      match t.dir with
      | .back => (nextBack s.drg s.pcu.cursor).map fun m => ⟨.retreat (m.1 + 1), m.2⟩
      | .forward => (nextForward s.drg s.pcu.cursor).map fun m => ⟨.advance m.1, m.2⟩
    else none
  | none => none

/-- R26, R27: a PREPARING station whose conditions hold becomes READY, or stops at a STOP or END record. -/
def tryReady (s : State) : State :=
  if mayBecomeReady s then
    if s.pcu.run = .running then
      match recAtN s with
      | none => s
      | some r =>
        if s.pcu.preparePending then becomeReady ⟨.prepare, r⟩ s
        else
          match windowFor r s.pcu.cursor with
          | some w => becomeReady ⟨w, r⟩ s
          | none => programmedStop r s
    else
      match traversalWindow s with
      | some w => becomeReady w s
      | none => s
  else s

/-- R36: the starve timer starts when the station begins to starve, and stops when the record at N has arrived or the station
has left RUNNING (log entry 19). -/
def starveWatch (s : State) : State :=
  if s.pcu.run ≠ .running ∨ (recAtN s).isSome = true then { s with pcu := { s.pcu with starve := .stopped } }
  else if starving s ∧ s.pcu.starve = .stopped then
    { s with pcu := { s.pcu with starve := .running (tenthsUs s.params.starveLimit) } }
  else s

/-- What follows an event in which a condition of R25, R26, R27 or R36 may have changed. -/
def settle (s : State) : State := starveWatch (tryReady (tryFinish s))

/-- R53, R54, R146, R26: agreement completes. -/
def completeAgreement (s : State) : State := settle (fixTarget (takeChosen s))

/-- R53: the test of agreement completion at a change of the peer table or the recording of a beacon. -/
def testAgreement (s : State) : State :=
  if agreementWaiting s && allQualified s then completeAgreement s else s

/-! ### Frames taken in (R44, R49, R185) -/

/-- Write a peer record. -/
def setPeer (n : Station) (p : Peer) (s : State) : State :=
  { s with ptb := { s.ptb with peers := s.ptb.peers.set n p } }

/-- R44, R49, R185: a frame of any class accepted from this source, which the station did not send. A source equal to the
station's own number raises DUPLICATE-NUMBER; any other has its age set to 0. The framer then waits for an idle line. -/
def frameTaken (src : Station) (s : State) : State :=
  let t := { s with liu := { s.liu with framer := .waitIdle } }
  if src = s.number then raise .duplicateNumber 1 0 t
  else setPeer src { s.ptb.peers[src] with age := 0 } t

/-! ### Lifecycle (R40, R50, R168, R169, R178) -/

/-- R50, R47: joining begins: the listen runs and the beacon period starts. -/
def beginJoining (s : State) : State :=
  { s with
    pcu := { s.pcu with listen := .running Config.listenUs }
    liu := { s.liu with beaconTimer := .running (Config.beaconOffsetUs s.number) } }

/-- R168 at the pace unit: CUT, PACE asserted, no window, and what runs is dropped. -/
def cutPace (p : PaceUnit) : PaceUnit :=
  { p with
    run := .cut
    win := .preparing
    openW := none
    next := none
    pace := true
    armed := true
    edge := .settled
    starve := .stopped
    stall := .stopped
    haltWait := .stopped
    haltPulse := .stopped
    listen := .stopped
    agreement := .stopped
    joinAgreement := false
    traversal := none }

/-- R100: a move or operation in flight is dropped; positions keep their values. The direction output keeps its level, which no rule
gives in CUT (log entry 17). -/
def cutAxis (a : AxisUnit) : AxisUnit := { a with move := none, op := none }

/-- R120, R107: trim pulse and selector move are dropped, and every selector state is left (log entry 17). -/
def cutSelector (u : SelectorUnit) : SelectorUnit :=
  { u with sel := .unknown, moveLimit := .stopped, settle := .stopped, trim := .stopped }

/-- R142: the stroke is dropped. With the phase IDLE the surge comparator is no longer watched, on which R142 is silent (DESIGN CHOICE,
log entry 40). -/
def cutStroke (u : StrokeUnit) : StrokeUnit :=
  { u with phase := .idle, tsWait := .stopped, strokeLimit := .stopped }

/-- R142: the thread monitor stops counting, sampling and converting. -/
def cutThread (m : ThreadMonitor) : ThreadMonitor := { m with oneShot := .stopped, conv := .none }

/-- R168, R186: both slots are emptied and a transmission in flight breaks off. The framer goes on with the frame in progress
(R184). -/
def cutLine (l : LineInterface) : LineInterface := { l with tx := none, beaconDue := false }

/-- R168: entry into CUT. -/
def enterCut (s : State) : State :=
  { s with
    pcu := cutPace s.pcu
    axu := cutAxis s.axu
    slu := cutSelector s.slu
    stu := cutStroke s.stu
    thm := cutThread s.thm
    liu := cutLine s.liu }

/-- R17, R41, R43, R77, R101, R120, R143, R170, R174, R178: every item at its restart value. -/
def restartValues (fromCut : Bool) (level : SupplyLevel) (s : State) : State :=
  { State.ofStraps s.pending s.number s.role with
    selfTesting := s.selfTesting
    resultCode := s.resultCode
    params := s.params
    ord := { s.ord with setupOpen := true }
    slu := { SelectorUnit.initial with map := s.slu.map, needles := s.slu.needles }
    thm := { ThreadMonitor.initial with bobbin := s.thm.bobbin, lastLoaded := s.thm.lastLoaded }
    flt := restartFaults fromCut level s.flt
    free := s.free }

/-- R178, R167: a restart by order, with the supply level as it stands. A level of CUT returns the station to CUT at once. -/
def restartByOrder (supplyMv : Nat) (s : State) : State :=
  let t := raiseStartingLevel (beginJoining (restartValues false (startingLevel supplyMv) s))
  if startingLevel supplyMv = .cut then enterCut t else t

/-- R169: the restart of the recovery from CUT. -/
def restartFromCut (s : State) : State := beginJoining (restartValues true .low s)

/-! ### Events and their outcome -/

/-- A command acts on a station in service. With role pins 11 (R176) and during the self-test (R177) the blocks keep their
reset values and no frame is taken: nothing happens. -/
def onService (f : State → State) (s : State) : Host.Outcome State Fault Refusal :=
  .next (if inService s then f s else s)

/-- R180, R185: a frame that the framer accepts is taken in and its body handed on; one that could not have begun, since the line
has not been idle or the station itself is sending, is not received (log entry 10). -/
def onFrame (src : Station) (f : State → State) (s : State) : Host.Outcome State Fault Refusal :=
  onService (fun s => if listening s then f (frameTaken src s) else s) s

end Sys2Proof.Machine
end

