-- ==== Sys2Proof/Machine/Selector.lean ====
section
/-! DEFINITION. The selector unit: look-up (R114), selector moves (R110 to R113), the trimmer (R118), head work of PREPARE,
CHANGE and TRIM windows (R115 to R117), pending needle changes (R106). -/

namespace Sys2Proof.Machine

/-- R106: a needle entry with its pending change applied. -/
def applyPendingNeedle (n : Needle) (p : PendingNeedle) : Needle :=
  let n' := { n with state := p.state.getD n.state }
  if p.clear then { n' with breaks := 0, loose := 0, tight := 0 } else n'

/-- R106: every pending change applied. -/
def applyPendingNeedles (u : SelectorUnit) : SelectorUnit :=
  { u with
    needles := ⟨(List.zipWith applyPendingNeedle u.needles.toList u.pendingNeedles.toList).toArray, by simp⟩
    pendingNeedles := Vector.replicate 15 ⟨none, false⟩ }

/-- Change one entry of the needle table (R105). -/
def modifyNeedle (n : Nat) (f : Needle → Needle) (s : State) : State :=
  { s with slu := { s.slu with needles := s.slu.needles.setIfInBounds (n - 1) (f (needleEntry n s)) } }

/-- R113: the selector becomes JAMMED and SELECTOR-JAM is raised with the target and the last valid code of the move. -/
def jam (target : Nat) (s : State) : State :=
  raise .selectorJam (BitVec.ofNat 8 target) (BitVec.ofNat 8 (s.slu.lastCode.getD 0))
    { s with slu := { s.slu with sel := .jammed, moveLimit := .stopped, settle := .stopped } }

/-- The distance of two needle numbers in pitches. -/
def pitches (p q : Nat) : Nat := (p - q) + (q - p)

/-- R111: driving begins from a counter value toward a target. -/
def driveFrom (q p : Nat) (s : State) : State :=
  { s with slu := { s.slu with
      sel := .moving p
      counter := q
      dir := if q < p then .positive else .negative
      moveLimit := .running (pitches p q * tensMsUs s.params.selLimit)
      settle := .stopped
      stepPulses := s.slu.stepPulses + 1 } }

/-- R110: the start of a move to a target. -/
def startMove (p : Nat) (lines : CodeLines) (s : State) : State :=
  let fresh := { s with slu := { s.slu with reMoved := false, lastCode := none, stepPulses := 0 } }
  match s.slu.sel with
  | .settled q =>
    if q = p then { s with slu := { s.slu with counter := p } } else driveFrom q p fresh
  | .unknown =>
    match readCode s.params.needles s.slu.detent lines with
    | some q =>
      let t := { fresh with slu := { fresh.slu with lastCode := some q, counter := q } }
      if q = p then { t with slu := { t.slu with sel := .settled p } } else driveFrom q p t
    | none => jam p fresh
  | .jammed => s
  | .moving _ => s
  | .confirming _ => s

/-- R114: the look-up for a colour, and the move to the needle found or NEEDLE-UNMAPPED. -/
def windowSelect (colour : Nat) (lines : CodeLines) (s : State) : State :=
  let n := mapNeedle colour s
  if needleUsable n s then startMove n lines s
  else raise .needleUnmapped (BitVec.ofNat 8 colour) (BitVec.ofNat 8 n) s

/-- R118: fire the trimmer; a request during a pulse is ignored. -/
def fireTrim (s : State) : State :=
  if trimming s then s else { s with slu := { s.slu with trim := .running (msUs s.params.trimPulse) } }

/-- R115, R117: a trim is due: the head is ENABLED and the tail flag is set. -/
def trimDue (s : State) : Bool := s.stu.participation == .enabled && s.stu.tail

/-- R115, R116: the trim, if due, and otherwise the selector part at once. -/
def trimThenSelect (colour : Nat) (lines : CodeLines) (s : State) : State :=
  if trimDue s then fireTrim s else windowSelect colour lines s

/-- R115, R116: the selector part that follows the trim pulse of the open window. -/
def selectAfterTrim (lines : CodeLines) (s : State) : State :=
  match s.pcu.openW with
  | some w =>
    match w.kind with
    | .prepare => windowSelect (colorAtN s) lines s
    | .change _ => windowSelect w.copy.o1.toNat lines s
    | _ => s
  | none => s

/-- R108: the position counter after a detent pulse, and whether it lies in 1..NEEDLES. Counting up from 15 or down from 0
leaves a value the spec does not give (log entry 9). -/
def countDetent (s : State) : State × Bool :=
  let up := s.slu.dir == .positive
  let inRange : Bool :=
    if up then decide (s.slu.counter + 1 ≤ s.params.needles)
    else decide (2 ≤ s.slu.counter ∧ s.slu.counter - 1 ≤ s.params.needles)
  if (if up then decide (15 ≤ s.slu.counter) else s.slu.counter == 0) then
    ({ s with slu := { s.slu with counter := (Config.counterOutOfRange s.free).val }, free := s.free + 1 }, inRange)
  else
    ({ s with slu := { s.slu with counter := if up then s.slu.counter + 1 else s.slu.counter - 1 } }, inRange)

/-- R111: a detent pulse while MOVING. -/
def detentWhileMoving (p : Nat) (s : State) : State :=
  let c := countDetent s
  if !c.2 then jam p c.1
  else if c.1.slu.counter = p then
    { c.1 with slu := { c.1.slu with
        sel := .confirming p, moveLimit := .stopped, settle := .running (msUs s.params.selSettle) } }
  else { c.1 with slu := { c.1.slu with stepPulses := c.1.slu.stepPulses + 1 } }

/-- R112: a detent pulse while CONFIRMING. -/
def detentWhileConfirming (p : Nat) (s : State) : State :=
  let c := countDetent s
  if c.2 then c.1 else jam p c.1

/-- R112: the code read at the end of the settle wait. -/
def settleRead (p : Nat) (lines : CodeLines) (s : State) : State :=
  match readCode s.params.needles s.slu.detent lines with
  | none => jam p s
  | some q =>
    let t := { s with slu := { s.slu with lastCode := some q, settle := .stopped } }
    if q = p then { t with slu := { t.slu with sel := .settled p, counter := p } }
    else if s.slu.reMoved then jam p { t with slu := { t.slu with counter := q } }
    else driveFrom q p { t with slu := { t.slu with reMoved := true } }

/-- R109, R113: the selector read without moving: SETTLED at a valid code in detent. -/
def settleAt (q : Nat) (s : State) : State := { s with slu := { s.slu with sel := .settled q, counter := q } }

/-- R109: the read at the completion of joining. -/
def readAtJoining (lines : CodeLines) (s : State) : State :=
  if isHead s then
    match readCode s.params.needles s.slu.detent lines with
    | some q => settleAt q s
    | none => s
  else s

/-- TRIM_PULSE_END: R118. -/
def execTrimPulseEnd (lines : CodeLines) (s : State) : Host.Outcome State Fault Refusal :=
  onService (fun s =>
    if trimming s then
      settle (selectAfterTrim lines
        { s with slu := { s.slu with trim := .stopped }, stu := { s.stu with tail := false } })
    else s) s

/-- DETENT_PULSE: R108, R111, R112; the detent input of an axis station is inactive. -/
def execDetentPulse (s : State) : Host.Outcome State Fault Refusal :=
  onService (fun s =>
    if isHead s then
      let t := { s with slu := { s.slu with detent := true } }
      match s.slu.sel with
      | .moving p => settle (detentWhileMoving p t)
      | .confirming p => settle (detentWhileConfirming p t)
      | _ => t
    else s) s

/-- DETENT_RELEASED: R108, R109. -/
def execDetentReleased (s : State) : Host.Outcome State Fault Refusal :=
  onService (fun s =>
    if isHead s then
      let t := { s with slu := { s.slu with detent := false } }
      match s.slu.sel with
      | .settled _ => settle { t with slu := { t.slu with sel := .unknown } }
      | _ => t
    else s) s

/-- SEL_MOVE_LIMIT_EXPIRY: R111. -/
def execSelMoveLimitExpiry (s : State) : Host.Outcome State Fault Refusal :=
  onService (fun s =>
    match s.slu.sel with
    | .moving p => if isRunning s.slu.moveLimit then settle (jam p s) else s
    | _ => s) s

/-- SEL_SETTLE_EXPIRY: R112. -/
def execSelSettleExpiry (lines : CodeLines) (s : State) : Host.Outcome State Fault Refusal :=
  onService (fun s =>
    match s.slu.sel with
    | .confirming p => if isRunning s.slu.settle then settle (settleRead p lines s) else s
    | _ => s) s

end Sys2Proof.Machine
end

