-- ==== Sys2Proof/Machine/Lifecycle.lean ====
section
/-! DEFINITION. Reset and the self-test (R176, R177), the end of the joining listen (R51), and the supply crossings (R167 to
R169). -/

namespace Sys2Proof.Machine

/-! ### Reset and self-test -/

/-- RESET: R176, R177. It acts in every state; the queue is the model's own and is kept (log entry 1). -/
def execReset (number : Station) (rolePins : BitVec 2) (s : State) : Host.Outcome State Fault Refusal :=
  .next (State.ofStraps s.pending number (roleOfPins rolePins))

/-- R177: the role check fails: at a head when all four code lines read high, at an axis when the drive-fault input is
asserted. -/
def roleCheckFails (role : Role) (lines : CodeLines) (driveFault : Bool) : Bool :=
  match role with
  | .head => codeOfLines lines == 0
  | _ => driveFault

/-- R177: the result code of the self-test. -/
def selfTestResult (role : Role) (ringFailed roleFailed : Bool) : Byte :=
  if ringFailed then 1
  else if roleFailed then (match role with
    | .head => 2
    | _ => 3)
  else 0

/-- R177: how many parts of the self-test failed. -/
def failedParts (ringFailed roleFailed : Bool) : Byte :=
  if ringFailed && roleFailed then 2 else if ringFailed || roleFailed then 1 else 0

/-- R177: the result code is set, and SELF-TEST is raised unless the self-test passed. -/
def recordSelfTest (role : Role) (ringFailed roleFailed : Bool) (s : State) : State :=
  let code := selfTestResult role ringFailed roleFailed
  let t := { s with selfTesting := false, resultCode := code }
  if code = 0 then t else raise .selfTest code (failedParts ringFailed roleFailed) t

/-- R167, R170: the supply level is taken from the supply as it stands, and its faults are raised. -/
def takeSupply (supplyMv : Nat) (s : State) : State :=
  raiseStartingLevel { s with flt := { s.flt with supply := startingLevel supplyMv } }

/-- R167, R177, R50: the end of reset: joining begins, or CUT where the supply stands that low. -/
def endSelfTest (role : Role) (ringFailed roleFailed : Bool) (supplyMv : Nat) (s : State) : State :=
  let t := beginJoining (takeSupply supplyMv (recordSelfTest role ringFailed roleFailed s))
  if startingLevel supplyMv = .cut then enterCut t else t

/-- SELF_TEST_END: R177. -/
def execSelfTestEnd (ringFailed : Bool) (lines : CodeLines) (driveFault : Bool) (supplyMv : Nat) (s : State) :
    Host.Outcome State Fault Refusal :=
  .next (
    match s.role with
    | some role =>
      if s.selfTesting then endSelfTest role ringFailed (roleCheckFails role lines driveFault) supplyMv s else s
    | none => s)

/-! ### Joining (R51) -/

/-- R51 step 1: the cursor taken from the stopped peers, or (0, first step). -/
def joiningCursor (s : State) : Cursor :=
  match stoppedCursors s with
  | [] => Cursor.at 0
  | c :: cs => chooseCursor c cs

/-- R51 step 3. -/
def coverAtJoining (s : State) : State :=
  if isHead s then { s with stu := { s.stu with C := s.pcu.cursor.n } } else s

/-- R84: at the completion of joining an axis that is not HOMED raises NOT-HOMED. -/
def raiseNotHomed (s : State) : State :=
  if isAxis s && s.axu.homing != .homed then raise .notHomed 0 0 s else s

/-- R51 step 4, R48: the entry into STOPPED, whose agreement is the first after joining, and the roster check. -/
def stopJoined (s : State) : State :=
  let t := enterStopped .joined s
  rosterCheck { t with
    pcu := { t.pcu with joinAgreement := agreementWaiting t }
    ptb := { t.ptb with joined := true } }

/-- R51: joining completes. -/
def completeJoining (lines : CodeLines) (s : State) : State :=
  let t := setCursor (joiningCursor s) { s with pcu := { s.pcu with listen := .stopped } }
  raiseNotHomed (stopJoined (readAtJoining lines (coverAtJoining t)))

/-- JOINING_LISTEN_END: R51. -/
def execJoiningListenEnd (lines : CodeLines) (s : State) : Host.Outcome State Fault Refusal :=
  onService (fun s =>
    if s.pcu.run = .joining ∧ isRunning s.pcu.listen = true then completeJoining lines s else s) s

/-! ### The supply (R167) -/

/-- The supply level is written. -/
def setSupply (level : SupplyLevel) (s : State) : State := { s with flt := { s.flt with supply := level } }

/-- SUPPLY_FALL_WARN: R167. -/
def execSupplyFallWarn (s : State) : Host.Outcome State Fault Refusal :=
  onService (fun s => if s.flt.supply = .normal then raise .supplyWarn 0 0 (setSupply .warn s) else s) s

/-- SUPPLY_RISE_NORMAL: R167. -/
def execSupplyRiseNormal (s : State) : Host.Outcome State Fault Refusal :=
  onService (fun s => if s.flt.supply = .warn then setSupply .normal s else s) s

/-- SUPPLY_FALL_LOW: R167. -/
def execSupplyFallLow (s : State) : Host.Outcome State Fault Refusal :=
  onService (fun s => if s.flt.supply = .warn then raise .supplyLow 0 0 (setSupply .low s) else s) s

/-- SUPPLY_RISE_WARN: R167. -/
def execSupplyRiseWarn (s : State) : Host.Outcome State Fault Refusal :=
  onService (fun s => if s.flt.supply = .low then setSupply .warn s else s) s

/-- SUPPLY_FALL_CUT: R167, R168. -/
def execSupplyFallCut (s : State) : Host.Outcome State Fault Refusal :=
  onService (fun s => if s.flt.supply = .low then enterCut (setSupply .cut s) else s) s

/-- SUPPLY_RECOVERY: R167, R169. -/
def execSupplyRecovery (s : State) : Host.Outcome State Fault Refusal :=
  onService (fun s => if s.flt.supply = .cut then restartFromCut s else s) s

end Sys2Proof.Machine
end

