-- ==== Sys2Proof/Machine/Line.lean ====
section
/-! DEFINITION. The line interface's events: the beacon timer (R47), transmission attempts and their ends (R49, R165, R166, R182,
R186), the framer (R180, R184). -/

namespace Sys2Proof.Machine

/-- R165: the fresh mark of each listed fault is cleared when the urgent frame is built. -/
def clearFresh : List FaultCode → State → State
  | [], s => s
  | c :: cs, s => clearFresh cs (setFault c { faultRec c s with fresh := false } s)

/-- R166: a listed fault stops pending unless it is fresh. -/
def deliverFaults : List FaultCode → State → State
  | [], s => s
  | c :: cs, s =>
    deliverFaults cs (if (faultRec c s).fresh then s else setFault c { faultRec c s with pending := false } s)

/-- R182, R186: a transmission begins. -/
def startTx (tx : Transmission) (s : State) : State :=
  { s with liu := { s.liu with tx := some tx, framer := .inFrame } }

/-- R165, R186: the urgent frame is built from the pending records as they stand. -/
def attemptUrgent (s : State) : State :=
  let listed := urgentList s
  startTx ⟨.urgent, buildFrame .urgent s.number (urgentBody listed s), listed, false⟩ (clearFresh listed s)

/-- R47, R186: the beacon is built from the state at that moment. -/
def attemptBeacon (role : Role) (s : State) : State :=
  startTx ⟨.beacon, buildFrame .beacon s.number (beaconBody role s), [], false⟩ s

/-- BEACON_TIMER: R47. -/
def execBeaconTimer (s : State) : Host.Outcome State Fault Refusal :=
  onService (fun s =>
    beaconFallsDue { s with liu := { s.liu with beaconTimer := .running Config.beaconPeriodUs } }) s

/-- TRANSMIT_ATTEMPT: R182, R186: on an idle line, the urgent slot if due, and the beacon slot otherwise; none in CUT. -/
def execTransmitAttempt (s : State) : Host.Outcome State Fault Refusal :=
  onService (fun s =>
    if s.liu.framer = .hunting ∧ s.liu.tx = none ∧ s.pcu.run ≠ .cut then
      if urgentDue s then attemptUrgent s
      else
        match s.role with
        | some role => if s.liu.beaconDue then attemptBeacon role s else s
        | none => s
    else s) s

/-- ARBITRATION_LOST: R182; the slot stays due, and the framer takes in the rest of the other frame. -/
def execArbitrationLost (s : State) : Host.Outcome State Fault Refusal :=
  onService (fun s =>
    match s.liu.tx with
    | some _ => { s with liu := { s.liu with tx := none, framer := .inFrame } }
    | none => s) s

/-- COLLISION: R49, R182; at 2 collisions in a row DUPLICATE-NUMBER is raised and the counter returns to 0. The framer goes on
taking groups of the frame that is broken off (R184). -/
def execCollision (s : State) : Host.Outcome State Fault Refusal :=
  onService (fun s =>
    match s.liu.tx with
    | some _ =>
      let n := s.liu.collisions + 1
      let t := { s with liu := { s.liu with tx := none, framer := .inFrame, collisions := if 2 ≤ n then 0 else n } }
      if 2 ≤ n then raise .duplicateNumber 2 0 t else t
    | none => s) s

/-- FRAME_SENT: R166, R182, R186. -/
def execFrameSent (s : State) : Host.Outcome State Fault Refusal :=
  onService (fun s =>
    match s.liu.tx with
    | some tx =>
      let t := { s with liu := { s.liu with tx := none, framer := .waitIdle, collisions := 0 } }
      match tx.slot with
      | .urgent => deliverFaults tx.listed t
      | .beacon => { t with liu := { t.liu with beaconDue := tx.again } }
    | none => s) s

/-- FRAME_ABANDONED: R180, R184; what was received is dropped and no block sees it. -/
def execFrameAbandoned (s : State) : Host.Outcome State Fault Refusal :=
  onService (fun s =>
    if s.liu.tx.isSome then s else { s with liu := { s.liu with framer := .waitIdle } }) s

/-- LINE_IDLE: R180; read only while no frame is in progress. -/
def execLineIdle (s : State) : Host.Outcome State Fault Refusal :=
  onService (fun s =>
    if s.liu.framer = .inFrame then s else { s with liu := { s.liu with framer := .hunting } }) s

end Sys2Proof.Machine
end

