-- ==== Sys2Proof/Machine/Loading.lean ====
section
/-! DEFINITION. The design loader: judging a segment (R60 to R66) and the DESIGN frame. -/

namespace Sys2Proof.Machine

/-- R61: the bands of a segment number. -/
inductive Band where
  | expected | positive | negative | outside
deriving DecidableEq, Repr

/-- R61: the band of a segment number against V, with the widths PW and NW. -/
def bandOf (pw nw : Nat) (v seg : Byte) : Band :=
  let d := (seg - v).toNat
  if d = 0 then .expected
  else if d < pw then .positive
  else if 256 - nw ≤ d then .negative
  else .outside

/-- R66, R14: the loader enters WAIT. A release at the entry raises F, and so makes the test of R67; without one the test waits
for the next change of N (log entry 37). -/
def enterWait (cause : WaitCause) (s : State) : State :=
  let t := { s with dld := { s.dld with state := .wait, resend := true, waitCause := cause } }
  if ringL s.drg ≤ s.pcu.cursor.n then leaveWait (releaseRing t) else t

/-- R7, R8, R64, R26: the segment is appended, the loader expects the next, and the READY test follows. -/
def appendSegment (seg : Segment) (s : State) : State :=
  settle (retainRing
    { s with
      drg := appendRecs seg.records s.drg
      dld := { s.dld with v := s.dld.v + 1, resend := false } })

/-- R13, R64: the ring test of a segment in OPEN. -/
def ringTest (seg : Segment) (s : State) : State :=
  let k := colorCount seg.records
  let t := { s with drg := prune s.pcu.cursor.n k s.drg }
  if Config.trailPlaces < t.drg.trail.length + k then enterWait .trail t
  else if ringRoom t.drg < seg.records.length then enterWait .room t
  else appendSegment seg t

/-- R63: the loader judges a well-formed segment. -/
def judgeSegment (seg : Segment) (s : State) : State :=
  if seg.designId ≠ s.dld.designId ∨ s.dld.state = .lockout then s
  else
    match bandOf s.params.pw s.params.nw s.dld.v seg.number with
    | .expected =>
      if seg.r0 ≠ ringL s.drg then enterLockout .gap seg.number s
      else
        match segmentInvalid seg.r0 seg.records with
        | some reason => enterLockout reason seg.number s
        | none => if s.dld.state = .opened then ringTest seg s else s
    | .positive =>
      if s.dld.state = .opened then { s with dld := { s.dld with resend := true } } else s
    | .negative => s
    | .outside => enterLockout .window seg.number s

/-- R60: the loader judges a frame of class DESIGN. -/
def judgeDesign (body : List Byte) (s : State) : State :=
  if s.pcu.run = .cut then s
  else
    match parseSegment body with
    | some seg => judgeSegment seg s
    | none => s

/-- DESIGN_SEGMENT: R44, R60, R185. -/
def execDesignSegment (src : Station) (body : List Byte) (s : State) : Host.Outcome State Fault Refusal :=
  onFrame src (judgeDesign body) s

end Sys2Proof.Machine
end

