-- ==== Sys2Proof/Machine/Axis.lean ====
section
/-! DEFINITION. The axis unit: window moves (R88 to R95), homing (R82, R83), MOVETO (R86), the drive-fault input (R98). -/

namespace Sys2Proof.Machine

/-- R93: the end of a window move. -/
def endMove (pcNew pt st : Int) (s : State) : State :=
  { s with axu := { s.axu with sPos := st, pf := pt, pc := pcNew, move := none, excursion := false } }

/-- R94, R95: the limit fault of a clamped MOVE, with the limit met and the excess. -/
def limitFault (c : FaultCode) (pcNew pt : Int) (s : State) : State :=
  raise c (if pt < pcNew then 1 else 2) (octetSat (pcNew - pt).natAbs) s

/-- R88 to R93: the window move to this commanded position, with this base time, raising this fault where it is clamped. -/
def windowMove (pcRaw : Int) (base : Nat) (fault : Option FaultCode) (s : State) : State :=
  let pcNew := satPc pcRaw
  let pt := clampPos s.params pcNew
  let st := toSteps s.params pt
  let delta := st - s.axu.sPos
  let t := { s with axu := { s.axu with clampFlag := decide (pt ≠ pcNew) } }
  let u := match fault with
    | some c => if pt ≠ pcNew then limitFault c pcNew pt t else t
    | none => t
  if delta = 0 then endMove pcNew pt st u
  else
    { u with axu := { u.axu with
        dir := some (dirOf delta)
        move := some ⟨pcNew, pt, st, delta, moveDuration s.params base s.axu.excursion delta, 0⟩ } }

/-- R94, R95: the limit fault of a MOVE over this record. -/
def moveFault (r : Rec) : FaultCode := if isStitch r then .limitStitch else .limitJump

/-- R25, R88: the work a window gives an axis. -/
def axisWork (w : WindowRec) (s : State) : State :=
  let d := displacement s.role w.copy
  match w.kind with
  | .move _ => windowMove (s.axu.pc + d) (moveTime s.pcu.workRate s.params.moveShare) (some (moveFault w.copy)) s
  | .prepare => windowMove s.axu.pc (traverseTime s.params.traverseRate) none s
  | .retreat _ => windowMove (s.axu.pc - d) (traverseTime s.params.traverseRate) none s
  | .advance _ => windowMove (s.axu.pc + d) (traverseTime s.params.traverseRate) none s
  | .stroke _ => s
  | .trim _ => s
  | .change _ => s

/-- R82: homing succeeds. -/
def homingSuccess (s : State) : State :=
  unlatch .notHomed
    { s with axu := { s.axu with
        pf := s.params.homeOffset
        sPos := toSteps s.params s.params.homeOffset
        homing := .homed
        op := none
        excursion := true } }

/-- R86: the end of a MOVETO. -/
def movetoEnd (pt st : Int) (s : State) : State :=
  { s with axu := { s.axu with sPos := st, pf := pt, op := none, excursion := true } }

/-- R98: a window move, homing or MOVETO is in flight. -/
def axisInFlight (s : State) : Bool := s.axu.move.isSome || s.axu.op.isSome

/-- WINDOW_MOVE_STEP: R92, R93. -/
def execWindowMoveStep (s : State) : Host.Outcome State Fault Refusal :=
  onService (fun s =>
    match s.axu.move with
    | none => s
    | some m =>
      if m.issued + 1 < m.delta.natAbs then
        { s with axu := { s.axu with move := some { m with issued := m.issued + 1 } } }
      else settle (endMove m.pcNew m.pt m.st s)) s

/-- HOMING_STEP: R82; no step after the HOME_TRAVEL-th (R83). -/
def execHomingStep (s : State) : Host.Outcome State Fault Refusal :=
  onService (fun s =>
    match s.axu.op with
    | some (.homing k) =>
      if k < s.params.homeTravel then { s with axu := { s.axu with op := some (.homing (k + 1)) } } else s
    | _ => s) s

/-- HOME_SWITCH_SEEN_CLOSED: R82; read only during homing (R99); a head has no home switch. -/
def execHomeSwitchSeenClosed (s : State) : Host.Outcome State Fault Refusal :=
  onService (fun s =>
    if isAxis s then
      let t := { s with axu := { s.axu with homeSwitch := true } }
      match s.axu.op with
      | some (.homing _) => settle (homingSuccess t)
      | _ => t
    else s) s

/-- HOMING_FAIL: R83, once HOME_TRAVEL steps have been issued. -/
def execHomingFail (s : State) : Host.Outcome State Fault Refusal :=
  onService (fun s =>
    match s.axu.op with
    | some (.homing k) =>
      if s.params.homeTravel ≤ k then
        settle (raise .homeFail (BitVec.ofNat 8 s.params.homeDir) 0
          { s with axu := { s.axu with homing := .unhomed, op := none } })
      else s
    | _ => s) s

/-- MOVETO_STEP: R86. -/
def execMovetoStep (s : State) : Host.Outcome State Fault Refusal :=
  onService (fun s =>
    match s.axu.op with
    | some (.moveto pt st delta k) =>
      if k + 1 < delta.natAbs then { s with axu := { s.axu with op := some (.moveto pt st delta (k + 1)) } }
      else settle (movetoEnd pt st s)
    | _ => s) s

/-- DRIVE_FAULT_ASSERTED: R98; a head has no drive-fault input. -/
def execDriveFaultAsserted (s : State) : Host.Outcome State Fault Refusal :=
  onService (fun s =>
    if isAxis s then
      raise .driveFail (if axisInFlight s then 1 else 0) 0 { s with axu := { s.axu with driveFault := true } }
    else s) s

/-- DRIVE_FAULT_RELEASED: R98. -/
def execDriveFaultReleased (s : State) : Host.Outcome State Fault Refusal :=
  onService (fun s => if isAxis s then { s with axu := { s.axu with driveFault := false } } else s) s

end Sys2Proof.Machine
end

