-- ==== Sys2Proof/Machine/Peers.lean ====
section
/-! DEFINITION. The peer table's events: beacons (R44, R45, R52, R53), urgent frames (R185), silence (R46). -/

namespace Sys2Proof.Machine

/-- R44, R52: a peer record after a beacon that is recorded. A record that qualified, left PRESENT and returns within the same
wait keeps its mark and its stop cursor: R53 and R45 leave it open (DESIGN CHOICE, log entry 42). -/
def recordedPeer (waiting : Bool) (v : BeaconView) (p : Peer) : Peer where
  presence := .present
  role := v.role
  run := v.run
  cursor := v.cursor
  ready := v.ready
  stopCursor := if v.run = .stopped then some v.cursor else p.stopCursor
  qualified := p.qualified || (waiting && v.run == .stopped)
  age := p.age

/-- R45: the roster check that follows each change of the peer table. -/
def rosterIfChanged (changed : Bool) (s : State) : State := if changed then rosterCheck s else s

/-- R44, R45, R53: the peer table records a beacon. -/
def recordBeacon (src : Station) (v : BeaconView) (s : State) : State :=
  let p := s.ptb.peers[src]
  let t := setPeer src (recordedPeer (agreementWaiting s) v p) s
  testAgreement (rosterIfChanged (p.presence != .present || p.role != v.role) t)

/-- R44, R45, R53: a beacon with a role other than the three pacing roles: a PRESENT record becomes ABSENT. -/
def dropPeer (src : Station) (s : State) : State :=
  let p := s.ptb.peers[src]
  if p.presence = .present then
    testAgreement (rosterCheck (setPeer src { p with presence := .absent } s))
  else s

/-- R44: the peer table takes a beacon body from another station. -/
def takeBeacon (src : Station) (body : List Byte) (s : State) : State :=
  match classifyBeacon body with
  | .ageOnly => s
  | .otherRole => dropPeer src s
  | .pacing v => recordBeacon src v s

/-- R46: a PRESENT peer falls silent. -/
def silencePeer (n : Station) (s : State) : State :=
  let p := s.ptb.peers[n]
  let t := setPeer n { p with presence := .silent, age := Config.silentAgeMs } s
  testAgreement (rosterCheck (raisePeerLost n p.role t))

/-- R46: every SILENT record becomes ABSENT, at a CLEAR that names PEER-LOST. They are one change of the peer table, with one
roster check (R48; DESIGN CHOICE, log entry 43). -/
def forgetSilent (s : State) : State :=
  let t := { s with ptb := { s.ptb with
    peers := vmap (fun p => if p.presence = .silent then { p with presence := .absent } else p) s.ptb.peers } }
  if (List.finRange 32).any fun i => s.ptb.peers[i].presence == .silent then testAgreement (rosterCheck t) else t

/-- BEACON_RECEIVED: R44, R45, R49, R52, R53. A foreign frame with the station's own number is not recorded. -/
def execBeaconReceived (src : Station) (body : List Byte) (s : State) : Host.Outcome State Fault Refusal :=
  onFrame src (fun s => if src = s.number then s else takeBeacon src body s) s

/-- URGENT_RECEIVED: R185: the age refresh and the duplicate test alone. -/
def execUrgentReceived (src : Station) (_body : List Byte) (s : State) : Host.Outcome State Fault Refusal :=
  onFrame src id s

/-- PEER_AGE_EXPIRY: R45, R46; the own entry is never aged (R43). The age of a record that is not PRESENT runs up too, and
saturates at 100 ms (R43). -/
def execPeerAgeExpiry (n : Station) (s : State) : Host.Outcome State Fault Refusal :=
  onService (fun s =>
    if n = s.number then s
    else if s.ptb.peers[n].presence = .present then silencePeer n s
    else setPeer n { s.ptb.peers[n] with age := Config.silentAgeMs } s) s

end Sys2Proof.Machine
end

