-- ==== Sys2Proof/Machine/Stroke.lean ====
section
/-! DEFINITION. The stroke unit and the thread monitor: the stroke decision (R124, R125), the phases of a stroke (R127 to
R133), the end of a stroke (R131, R136 to R139, R141), the needle, feed and surge inputs (R126, R134). -/

namespace Sys2Proof.Machine

/-- R122, R106: pending participation and pending needle changes are applied at an opening. -/
def applyPending (s : State) : State :=
  { s with
    stu := { s.stu with participation := s.stu.pendingPart.getD s.stu.participation, pendingPart := none }
    slu := applyPendingNeedles s.slu }

/-- R127: a stroke begins at record `n` with this needle. -/
def startStroke (n needle : Nat) (r : Rec) (s : State) : State :=
  { s with
    stu := { s.stu with
      phase := .downstroke
      recNo := n
      copy := r
      needle := needle
      tsWait := .running (strokeTime s.pcu.workRate s.params.moveShare)
      strokeLimit := .running (tensMsUs s.params.strokeLimit)
      downSeen := false }
    thm := { s.thm with feed := 0, surge := false, oneShot := .stopped, conv := .none, sample := none } }

/-- R124 conditions 3 and 4: the selector is SETTLED at the needle mapped for the colour in force, and that needle is READY. -/
def needleInPlace (needle : Nat) (s : State) : Bool :=
  needleUsable needle s && s.slu.sel == .settled needle

/-- R124, R125: stroke or ride at record `n`; a head kept from its stitch by the needle alone raises NEEDLE-UNMAPPED. -/
def strokeWork (n : Nat) (r : Rec) (s : State) : State :=
  let colour := colorAtN s
  let needle := mapNeedle colour s
  if s.stu.participation = .enabled ∧ s.stu.C ≤ n then
    if needleInPlace needle s then startStroke n needle r s
    else raise .needleUnmapped (BitVec.ofNat 8 colour) (BitVec.ofNat 8 needle) s
  else s

/-- R25: the work a window gives a head. -/
def headWork (lines : CodeLines) (w : WindowRec) (s : State) : State :=
  match w.kind with
  | .prepare => trimThenSelect (colorAtN s) lines s
  | .change _ => trimThenSelect w.copy.o1.toNat lines s
  | .trim _ => if trimDue s then fireTrim s else s
  | .stroke n => strokeWork n w.copy s
  | .move _ => s
  | .retreat _ => s
  | .advance _ => s

/-- The stroke's work is finished: the phase is IDLE (R127). -/
def strokeIdle (s : State) : State :=
  { s with stu := { s.stu with phase := .idle, tsWait := .stopped, strokeLimit := .stopped } }

/-- R138, R139: the first detail octet of a run fault: the needle, plus 0x80 for a LATE sample. -/
def runDetail (s : State) : Byte :=
  BitVec.ofNat 8 (s.stu.needle + if (s.thm.sample.map Sample.late).getD false then 128 else 0)

/-- R137: the runs start anew where the stroke's needle is not the last one. -/
def runsForNeedle (s : State) : State :=
  if s.stu.needle = s.thm.lastNeedle then s
  else { s with thm := { s.thm with
    breakRun := 0, snagRun := 0, looseRun := 0, tightRun := 0, lastNeedle := s.stu.needle } }

/-- R138: the thread is taken as broken. The rewind goes to the first suspect record, also where a SETSEG with NEW in the same run has
set C below it, so that the rewind raises C, which R123 excludes (DESIGN CHOICE, log entry 44). -/
def threadBreak (s : State) : State :=
  let t := modifyNeedle s.stu.needle (fun n => { n with breaks := min 255 (n.breaks + 1) }) s
  let u := { t with
    stu := { t.stu with C := s.thm.firstSuspect.getD 0 - s.params.overlap }
    thm := { t.thm with breakRun := 0 } }
  raise .threadBreak (runDetail s) (octetSat (needleEntry s.stu.needle t).breaks) u

/-- R137, R138: a BREAK-SUSPECT stroke. -/
def countBreak (s : State) : State :=
  let first := if s.thm.breakRun = 0 then some s.stu.recNo else s.thm.firstSuspect
  let t := { s with thm := { s.thm with
    breakRun := s.thm.breakRun + 1, snagRun := 0, looseRun := 0, tightRun := 0, firstSuspect := first } }
  if s.params.breakRun ≤ t.thm.breakRun then threadBreak t else t

/-- R137, R139: a SNAG-SUSPECT stroke. -/
def countSnag (s : State) : State :=
  let run := s.thm.snagRun + 1
  let t := { s with thm := { s.thm with breakRun := 0, snagRun := run, looseRun := 0, tightRun := 0 } }
  if s.params.snagRun ≤ run then
    raise .threadSnag (runDetail s) (octetSat run) { t with thm := { t.thm with snagRun := 0 } }
  else t

/-- R136, R137, R139: a LOOSE stroke. -/
def countLoose (s : State) : State :=
  let run := s.thm.looseRun + 1
  let t := modifyNeedle s.stu.needle (fun n => { n with loose := min 255 (n.loose + 1) })
    { s with thm := { s.thm with breakRun := 0, snagRun := 0, looseRun := run, tightRun := 0 } }
  if s.params.looseRun ≤ run then
    raise .tensionLoose (runDetail s) (octetSat (needleEntry s.stu.needle t).loose)
      { t with thm := { t.thm with looseRun := 0 } }
  else t

/-- R136, R137, R139: a TIGHT stroke. -/
def countTight (s : State) : State :=
  let run := s.thm.tightRun + 1
  let t := modifyNeedle s.stu.needle (fun n => { n with tight := min 255 (n.tight + 1) })
    { s with thm := { s.thm with breakRun := 0, snagRun := 0, looseRun := 0, tightRun := run } }
  if s.params.tightRun ≤ run then
    raise .tensionTight (runDetail s) (octetSat (needleEntry s.stu.needle t).tight)
      { t with thm := { t.thm with tightRun := 0 } }
  else t

/-- R137: a GOOD stroke. -/
def countGood (s : State) : State :=
  { s with thm := { s.thm with breakRun := 0, snagRun := 0, looseRun := 0, tightRun := 0 } }

/-- R131 step 3: the fault runs, the needle counts and any break rewind. -/
def updateRuns (k : StrokeClass) (s : State) : State :=
  let t := runsForNeedle s
  match k with
  | .breakSuspect => countBreak t
  | .snagSuspect => countSnag t
  | .loose => countLoose t
  | .tight => countTight t
  | .good => countGood t

/-- R141: the bobbin thread of the stroke. -/
def subtractBobbin (s : State) : State :=
  match s.thm.bobbin with
  | none => s
  | some b =>
    let b' := b - bobbinThread s.params s.stu.copy
    let t := { s with thm := { s.thm with bobbin := some b' } }
    let u :=
      if bobbinWarnLevel s.params ≤ b ∧ b' < bobbinWarnLevel s.params then raise .bobbinLow (bobbinMetres b') 0 t else t
    if b' = 0 then raise .bobbinEmpty (bobbinMetres b') 0 u else u

/-- R131 step 1, R136: the class of the stroke that ends. -/
def classOfStroke (s : State) : StrokeClass :=
  strokeClass (feedClass s.params s.stu.copy s.thm.feed)
    (tensionClass s.params ((s.thm.sample.map Sample.t).getD 0) s.thm.surge)

/-- R131 step 2. -/
def markStroked (s : State) : State :=
  { s with stu := { s.stu with C := s.stu.recNo + 1, tail := true } }

/-- R131 step 5: DWELL, which ends at once where Ts has already passed. -/
def beginDwell (s : State) : State :=
  if s.stu.tsWait = .expired then strokeIdle s else { s with stu := { s.stu with phase := .dwell } }

/-- R131: the end of a stroke. -/
def strokeEnd (s : State) : State := beginDwell (subtractBobbin (updateRuns (classOfStroke s) (markStroked s)))

/-- R133: the needle is held. -/
def needleStuck (s : State) : State :=
  raise .needleStuck (BitVec.ofNat 8 s.stu.needle) (if s.stu.downSeen then 1 else 0)
    { s with
      stu := { s.stu with phase := .stuck, strokeLimit := .stopped, needleHeld := true }
      thm := { s.thm with oneShot := .stopped, conv := .none } }

/-- R132: the drive did not turn. The thread monitor stops with the stroke: when it does, where no NEEDLE-UP of R130 follows,
the spec leaves open (DESIGN CHOICE, log entry 40). -/
def driveDidNotTurn (s : State) : State :=
  raise .driveFail 1 (BitVec.ofNat 8 s.stu.needle)
    (strokeIdle { s with thm := { s.thm with oneShot := .stopped, conv := .none } })

/-- R128: NEEDLE-DOWN in DOWNSTROKE. -/
def needleReachesBottom (s : State) : State :=
  { s with
    stu := { s.stu with
      phase := .upstroke, strokeLimit := .running (tensMsUs s.params.strokeLimit), downSeen := true }
    thm :=
      if s.params.sampleDelay = 0 then { s.thm with conv := .onTime }
      else { s.thm with oneShot := .running (tenthsMsUs s.params.sampleDelay) } }

/-- R129, R130: NEEDLE-UP in UPSTROKE. -/
def needleReachesTop (s : State) : State :=
  let t := { s with stu := { s.stu with strokeLimit := .stopped } }
  match s.thm.sample with
  | some _ => strokeEnd t
  | none =>
    { t with
      stu := { t.stu with phase := .sampling }
      thm := { t.thm with
        oneShot := .stopped
        conv := if s.thm.conv = .none then .late else s.thm.conv } }

/-- R133: NEEDLE-UP in STUCK. -/
def stuckReleased (s : State) : State := strokeIdle { s with stu := { s.stu with tail := true } }

/-- NEEDLE_DOWN_SEEN: R126, R128; the needle inputs of an axis station are inactive. -/
def execNeedleDownSeen (s : State) : Host.Outcome State Fault Refusal :=
  onService (fun s =>
    if isHead s then
      let t := { s with stu := { s.stu with needleDown := true } }
      if s.stu.phase = .downstroke then needleReachesBottom t else t
    else s) s

/-- NEEDLE_DOWN_RELEASED: R126. -/
def execNeedleDownReleased (s : State) : Host.Outcome State Fault Refusal :=
  onService (fun s => if isHead s then { s with stu := { s.stu with needleDown := false } } else s) s

/-- NEEDLE_UP_SEEN: R126, R130, R133; the condition of NEEDLE-STUCK ends. -/
def execNeedleUpSeen (s : State) : Host.Outcome State Fault Refusal :=
  onService (fun s =>
    if isHead s then
      let t := { s with stu := { s.stu with needleUp := true, needleHeld := false } }
      match s.stu.phase with
      | .upstroke => settle (needleReachesTop t)
      | .stuck => settle (stuckReleased t)
      | _ => settle t
    else s) s

/-- NEEDLE_UP_RELEASED: R126. -/
def execNeedleUpReleased (s : State) : Host.Outcome State Fault Refusal :=
  onService (fun s => if isHead s then { s with stu := { s.stu with needleUp := false } } else s) s

/-- STROKE_LIMIT_EXPIRY: R132, R133. -/
def execStrokeLimitExpiry (s : State) : Host.Outcome State Fault Refusal :=
  onService (fun s =>
    if isRunning s.stu.strokeLimit then
      match s.stu.phase with
      | .downstroke => if s.stu.needleUp then settle (driveDidNotTurn s) else needleStuck s
      | .upstroke => needleStuck s
      | _ => s
    else s) s

/-- SAMPLE_ONE_SHOT_END: R129. -/
def execSampleOneShotEnd (s : State) : Host.Outcome State Fault Refusal :=
  onService (fun s =>
    if isRunning s.thm.oneShot then { s with thm := { s.thm with oneShot := .stopped, conv := .onTime } } else s) s

/-- CONVERSION_END: R129, R130. -/
def execConversionEnd (v : BitVec 10) (s : State) : Host.Outcome State Fault Refusal :=
  onService (fun s =>
    if s.thm.conv = .none then s
    else
      let t := { s with thm := { s.thm with conv := .none, sample := some ⟨v.toNat, s.thm.conv == .late⟩ } }
      if s.stu.phase = .sampling then settle (strokeEnd t) else t) s

/-- DWELL_END: R131; Ts has passed since the opening. Before DWELL it is kept until the stroke ends. -/
def execDwellEnd (s : State) : Host.Outcome State Fault Refusal :=
  onService (fun s =>
    if isRunning s.stu.tsWait then
      if s.stu.phase = .dwell then settle (strokeIdle s)
      else { s with stu := { s.stu with tsWait := .expired } }
    else s) s

/-- FEED_PULSE: R134. -/
def execFeedPulse (s : State) : Host.Outcome State Fault Refusal :=
  onService (fun s =>
    if needleDrive s then { s with thm := { s.thm with feed := min 1023 (s.thm.feed + 1) } } else s) s

/-- SURGE: R134. -/
def execSurge (s : State) : Host.Outcome State Fault Refusal :=
  onService (fun s => if watchesSurge s then { s with thm := { s.thm with surge := true } } else s) s

end Sys2Proof.Machine
end

