-- ==== Sys2Proof/Machine/Orders.lean ====
section
/-! DEFINITION. The order decoder: destinations and roles (R172), judging (R173), the setup window (R174), and the orders of the
catalogue with their owners' acceptance conditions and effects (R29, R31, R38, R71 to R74, R81, R85, R86, R104, R106, R122, R140,
R145, R161, R162, R175, R178). -/

namespace Sys2Proof.Machine

/-! ### Destination and role (R172, R189) -/

/-- R172: the stations an order fits. -/
inductive RoleFit where
  | all | headOnly | axisOnly
deriving DecidableEq, Repr

/-- R172: the order fits the station's role. -/
def fitsRole (fit : RoleFit) (s : State) : Bool :=
  match fit with
  | .all => true
  | .headOnly => isHead s
  | .axisOnly => isAxis s

/-- R172: what a destination makes of an order at this station. -/
inductive Reach where
  | judged | wrongRole | ignored
deriving DecidableEq, Repr

/-- R172, R189: a station number 0 to 31, 0x40 for ALL, 0x41 for HEADS, 0x42 for AXES; any other value, or none, is ignored. -/
def reach (fit : RoleFit) (dest : Option Byte) (s : State) : Reach :=
  match dest with
  | none => .ignored
  | some d =>
    if d.toNat < 32 then
      if d.toNat = s.number.val then (if fitsRole fit s then .judged else .wrongRole) else .ignored
    else if d = 0x40 then (if fitsRole fit s then .judged else .ignored)
    else if d = 0x41 then (if isHead s && fitsRole fit s then .judged else .ignored)
    else if d = 0x42 then (if isAxis s && fitsRole fit s then .judged else .ignored)
    else .ignored

/-! ### Judging (R173) -/

/-- What an owner answers: the state after its acceptance, or the refusal code. -/
abbrev Verdict := Except RefusalCode State

/-- An owner's check: the first that fails gives the refusal code. -/
def require (ok : Bool) (code : RefusalCode) (next : Verdict) : Verdict := if ok then next else .error code

/-- R173 step 1: arguments of the wrong length or form are refused with BAD-ARG. -/
def withArgs {α : Type} (args : Option α) (owner : α → State → Verdict) (s : State) : Verdict :=
  match args with
  | some a => owner a s
  | none => .error .badArg

/-- R173: the last refusal is replaced; the counter is not changed. -/
def refuse (kind : Byte) (code : RefusalCode) (s : State) : State :=
  { s with ord := { s.ord with lastRefusal := some (code, kind) } }

/-- R173: the order counter rises by 1, modulo 256. -/
def countAccepted (s : State) : State := { s with ord := { s.ord with counter := s.ord.counter + 1 } }

/-- R172, R173: the order decoder and the owner take an order. -/
def judgeOrder (kind : Byte) (fit : RoleFit) (dest : Option Byte) (owner : State → Verdict) (s : State) : State :=
  match reach fit dest s with
  | .ignored => s
  | .wrongRole => refuse kind .wrongRole s
  | .judged =>
    match owner s with
    | .ok t => countAccepted t
    | .error code => refuse kind code s

/-- R44, R172, R185: an accepted frame of class ORDER. -/
def takeOrder (kind : Byte) (fit : RoleFit) (f : OrderFrame) (owner : State → Verdict) (s : State) :
    Host.Outcome State Fault Refusal :=
  onFrame f.src (judgeOrder kind fit f.dest owner) s

/-- R174: the setup window closes. -/
def closeSetup (s : State) : State := { s with ord := { s.ord with setupOpen := false } }

def isStopped (s : State) : Bool := s.pcu.run == .stopped

/-- R81, R85, R86 check 1: STOPPED, with no homing or MOVETO in flight. -/
def axisIdle (s : State) : Bool := isStopped s && s.axu.op.isNone

/-! ### The pace unit's orders -/

/-- R29: the record at N is a present END record. -/
def atEnd (s : State) : Bool :=
  match recAtN s with
  | some r => isEnd r
  | none => false

/-- R29: the effect of an accepted RUN, but for the test of R26. -/
def startRun (s : State) : State :=
  closeSetup { s with pcu := { s.pcu with
    run := .running, win := .preparing, preparePending := true, pendingStop := none, starve := .stopped, stall := .stopped } }

/-- R29. -/
def ownerRun (_ : Unit) (s : State) : Verdict :=
  require (isStopped s) .notStopped <|
  require (!s.pcu.haltSeen) .halted <|
  require (!atEnd s) .designEnd <|
  require (originGiven s) .noOrigin <|
  .ok (settle (startRun s))

/-- R31: the effect of an accepted STOP. -/
def acceptStop (s : State) : State :=
  let t := startPulse s
  if isMoving s.pcu.run then
    { t with pcu := { t.pcu with pendingStop := some (s.pcu.pendingStop.getD .stopOrder) } }
  else t

/-- R31. -/
def ownerStop (_ : Unit) (s : State) : Verdict :=
  require (s.pcu.run != .joining && s.pcu.run != .cut) .halted <| .ok (acceptStop s)

/-- R38. -/
def ownerRate (r : Nat) (s : State) : Verdict := .ok { s with pcu := { s.pcu with setRate := clampRate r } }

/-- R145: the run state of a traversal. -/
def travRun : TravDir → RunState
  | .back => .traversingBack
  | .forward => .traversingForward

/-- R145: the effect of an accepted BACK or FORWARD, but for the target. -/
def startTraversal (dir : TravDir) (k : Nat) (s : State) : State :=
  closeSetup { s with pcu := { s.pcu with
    run := travRun dir, win := .preparing, pendingStop := none, traversal := some ⟨dir, k, none, false⟩ } }

/-- R146: the target is fixed at once unless agreement is waiting. -/
def fixUnlessWaiting (s : State) : State := if agreementWaiting s then s else fixTarget s

/-- R145, R146. -/
def ownerTraverse (dir : TravDir) (k : Nat) (s : State) : Verdict :=
  require (isStopped s) .notStopped <|
  require (!s.pcu.haltSeen) .halted <|
  require (decide (1 ≤ k ∧ k ≤ 4095)) .badArg <|
  require (originGiven s) .noOrigin <|
  .ok (settle (fixUnlessWaiting (startTraversal dir k s)))

/-! ### The axis unit's orders -/

/-- R82, R84: NOT-HOMED is raised where the axis leaves HOMED. -/
def leaveHomed (s : State) : State := if s.axu.homing = .homed then raise .notHomed 0 0 s else s

/-- R82: the homing operation begins. -/
def startHoming (switchClosed : Bool) (s : State) : State :=
  let t := leaveHomed (closeSetup s)
  { t with axu := { t.axu with
      homing := .homing, op := some (.homing 0), dir := some (homeDirOf s.params), homeSwitch := switchClosed } }

/-- R81, R82: homing succeeds at once where the switch is already seen closed. -/
def ownerHome (switchClosed : Bool) (_ : Unit) (s : State) : Verdict :=
  require (axisIdle s) .notStopped <|
  require (!s.pcu.haltSeen || ownHaltAllowsHome s) .halted <|
  .ok (let t := startHoming switchClosed s
       if switchClosed then homingSuccess t else t)

/-- R86: the MOVETO operation begins; it ends at once where it needs no step. -/
def startMoveto (position : Int) (s : State) : State :=
  let pt := clampPos s.params position
  let st := toSteps s.params pt
  let delta := st - s.axu.sPos
  let t := closeSetup s
  if delta = 0 then movetoEnd pt st t
  else { t with axu := { t.axu with op := some (.moveto pt st delta 0), dir := some (dirOf delta) } }

/-- R86. -/
def ownerMoveto (position : Int) (s : State) : Verdict :=
  require (axisIdle s) .notStopped <|
  require (!s.pcu.haltSeen) .halted <|
  .ok (startMoveto position s)

/-- R85: the effect of an accepted ORIGIN. -/
def setOrigin (s : State) : State :=
  unlatch .originLost { s with axu := { s.axu with
    pc := s.axu.pf
    originPos := s.axu.pf
    originCursor := s.pcu.cursor
    originValid := true
    excursion := false
    clampFlag := false } }

/-- R85. -/
def ownerOrigin (_ : Unit) (s : State) : Verdict :=
  require (axisIdle s) .notStopped <|
  require (s.axu.homing == .homed) .halted <|
  .ok (setOrigin s)

/-! ### The head's orders -/

/-- R104: the pairs are written in list order. -/
def writeMap : List (Nat × Nat) → Vector Nat 32 → Vector Nat 32
  | [], m => m
  | p :: ps, m => writeMap ps (m.setIfInBounds p.1 p.2)

/-- R104: 1 to 32 pairs, each a colour up to 31 and a needle up to NEEDLES. -/
def mapPairsOk (needles : Nat) (ps : List (Nat × Nat)) : Bool :=
  decide (1 ≤ ps.length ∧ ps.length ≤ 32) && ps.all fun p => decide (p.1 ≤ 31 ∧ p.2 ≤ needles)

/-- R104. -/
def ownerSetmap (ps : List (Nat × Nat)) (s : State) : Verdict :=
  require (isStopped s) .notStopped <|
  require (mapPairsOk s.params.needles ps) .badArg <|
  .ok { s with slu := { s.slu with map := writeMap ps s.slu.map } }

/-- R106: the pending change of a needle after one more SETNEEDLE. -/
def pendNeedle (q : SetNeedle) (p : PendingNeedle) : PendingNeedle := ⟨some q.state, p.clear || q.clear⟩

/-- R106. -/
def ownerSetneedle (q : SetNeedle) (s : State) : Verdict :=
  require (decide (1 ≤ q.needle ∧ q.needle ≤ s.params.needles)) .badArg <|
  .ok { s with slu := { s.slu with
    pendingNeedles := s.slu.pendingNeedles.setIfInBounds (q.needle - 1)
      (pendNeedle q (s.slu.pendingNeedles.toList.getD (q.needle - 1) ⟨none, false⟩)) } }

/-- R122. -/
def ownerHead (p : Participation) (_ : Unit) (s : State) : Verdict :=
  .ok { s with stu := { s.stu with pendingPart := some p } }

/-- R140: the bobbin counter is loaded and both bobbin faults are unlatched. -/
def loadBobbin (b : Nat) (s : State) : State :=
  unlatch .bobbinEmpty (unlatch .bobbinLow { s with thm := { s.thm with bobbin := some b, lastLoaded := some b } })

/-- R140. -/
def ownerBobbin (b : Nat) (s : State) : Verdict :=
  require (decide (1 ≤ b)) .badArg <|
  .ok (if b < bobbinWarnLevel s.params then raise .bobbinLow (bobbinMetres b) 0 (loadBobbin b s) else loadBobbin b s)

/-! ### The loader's orders -/

/-- R15, R72: the ring and the loader are seated at r. -/
def reseat (q : SetSeg) (s : State) : State :=
  { s with
    drg := emptiedAt q.r q.base
    dld := { s.dld with state := .opened, waitCause := .none, v := q.v, designId := q.designId, resend := false } }

/-- R73, R96: a head's covered mark becomes r; an axis loses its origin. -/
def newDesignRole (r : Nat) (s : State) : State :=
  if isHead s then { s with stu := { s.stu with C := r } }
  else if isAxis s then raise .originLost 0 0 { s with axu := { s.axu with originValid := false } }
  else s

/-- R57, R73: what SETSEG with NEW does beside seating. -/
def newDesign (r : Nat) (s : State) : State := beginAgreement (newDesignRole r (setCursor (Cursor.at r) s))

/-- R71 to R73. -/
def ownerSetseg (q : SetSeg) (s : State) : Verdict :=
  require (isStopped s) .notStopped <|
  require (s.dld.state != .lockout) .lockout <|
  require (decide (q.base ≤ 31)) .badArg <|
  require (q.new || decide (q.r ≤ s.pcu.cursor.n)) .range <|
  .ok (if q.new then newDesign q.r (reseat q s) else reseat q s)

/-- R74: the effect of an accepted RESUME-LOAD. -/
def resumeLoader (s : State) : State :=
  let t := { s with dld := { s.dld with state := .opened, lockReason := .none, waitCause := .none, resend := false } }
  if s.dld.state = .lockout then unlatch .loadLockout t else t

/-- R74. -/
def ownerResume (_ : Unit) (s : State) : Verdict :=
  require (s.pcu.run != .cut) .halted <| .ok (resumeLoader s)

/-! ### The fault unit's orders -/

/-- R113: the test of a CLEAR: JAMMED, in detent, with a valid code. -/
def unjam (lines : CodeLines) (s : State) : Option State :=
  if s.slu.sel = .jammed then
    (readCode s.params.needles s.slu.detent lines).map fun q => settleAt q s
  else none

/-- R46, R161: the faults are taken in turn; a CLEAR that names PEER-LOST makes every SILENT record ABSENT. -/
def clearFaults (cs : List FaultCode) (s : State) : State :=
  let t := clearList cs s
  if .peerLost ∈ cs then forgetSilent t else t

/-- R113, R161: "all" leaves SELECTOR-JAM as it stands where the test fails. -/
def ownerClear (lines : CodeLines) (c : ClearSet) (s : State) : Verdict :=
  match c with
  | .codes cs =>
    if .selectorJam ∈ cs then
      match unjam lines s with
      | some t => .ok (clearFaults cs t)
      | none => .error .notJammed
    else .ok (clearFaults cs s)
  | .all =>
    match unjam lines s with
    | some t => .ok (clearFaults allFaults t)
    | none => .ok (clearFaults (allFaults.filter fun c => c != .selectorJam) s)

/-- R162. -/
def ownerSetaction (q : FaultCode × Action) (s : State) : Verdict :=
  .ok (setFault q.1 { faultRec q.1 s with action := q.2 } s)

/-! ### SETUP and RESTART -/

/-- R84: a SETUP of a homing parameter makes an axis UNHOMED. -/
def setupAxis (es : List SetupEntry) (s : State) : State :=
  if isAxis s && setupNames es homingParams then
    let t := leaveHomed s
    { t with axu := { t.axu with homing := .unhomed } }
  else s

/-- R107: a SETUP of NEEDLES makes the selector UNKNOWN. -/
def setupSelector (es : List SetupEntry) (s : State) : State :=
  if isHead s && setupNames es [.needles] then { s with slu := { s.slu with sel := .unknown } } else s

/-- R175. -/
def ownerSetup (es : List SetupEntry) (s : State) : Verdict :=
  require (isStopped s) .notStopped <|
  require s.ord.setupOpen .setupClosed <|
  require (setupWellFormed es) .badArg <|
  require (setupConsistent (applySetup s.params es)) .badArg <|
  .ok (setupSelector es (setupAxis es { s with params := applySetup s.params es }))

/-- R178. -/
def ownerRestart (supplyMv : Nat) (_ : Unit) (s : State) : Verdict := .ok (restartByOrder supplyMv s)

/-! ### The commands, with the order codes of R189 -/

/-- RUN: R29. -/
def execRun (f : OrderFrame) (s : State) : Host.Outcome State Fault Refusal :=
  takeOrder 1 .all f (withArgs (parseNone f.args) ownerRun) s

/-- STOP: R31. -/
def execStop (f : OrderFrame) (s : State) : Host.Outcome State Fault Refusal :=
  takeOrder 2 .all f (withArgs (parseNone f.args) ownerStop) s

/-- RATE: R38. -/
def execRate (f : OrderFrame) (s : State) : Host.Outcome State Fault Refusal :=
  takeOrder 3 .all f (withArgs (parseU16 f.args) ownerRate) s

/-- BACK: R145. -/
def execBack (f : OrderFrame) (s : State) : Host.Outcome State Fault Refusal :=
  takeOrder 4 .all f (withArgs (parseU16 f.args) (ownerTraverse .back)) s

/-- FORWARD: R145. -/
def execForward (f : OrderFrame) (s : State) : Host.Outcome State Fault Refusal :=
  takeOrder 5 .all f (withArgs (parseU16 f.args) (ownerTraverse .forward)) s

/-- HOME: R81. -/
def execHome (f : OrderFrame) (switchClosed : Bool) (s : State) : Host.Outcome State Fault Refusal :=
  takeOrder 6 .axisOnly f (withArgs (parseNone f.args) (ownerHome switchClosed)) s

/-- MOVETO: R86. -/
def execMoveto (f : OrderFrame) (s : State) : Host.Outcome State Fault Refusal :=
  takeOrder 7 .axisOnly f (withArgs (parseS16 f.args) ownerMoveto) s

/-- ORIGIN: R85. -/
def execOrigin (f : OrderFrame) (s : State) : Host.Outcome State Fault Refusal :=
  takeOrder 8 .axisOnly f (withArgs (parseNone f.args) ownerOrigin) s

/-- SETMAP: R104. -/
def execSetmap (f : OrderFrame) (s : State) : Host.Outcome State Fault Refusal :=
  takeOrder 9 .headOnly f (withArgs (parsePairs f.args) ownerSetmap) s

/-- SETNEEDLE: R106. -/
def execSetneedle (f : OrderFrame) (s : State) : Host.Outcome State Fault Refusal :=
  takeOrder 10 .headOnly f (withArgs (parseSetNeedle f.args) ownerSetneedle) s

/-- HEAD-ON: R122. -/
def execHeadOn (f : OrderFrame) (s : State) : Host.Outcome State Fault Refusal :=
  takeOrder 11 .headOnly f (withArgs (parseNone f.args) (ownerHead .enabled)) s

/-- HEAD-OFF: R122. -/
def execHeadOff (f : OrderFrame) (s : State) : Host.Outcome State Fault Refusal :=
  takeOrder 12 .headOnly f (withArgs (parseNone f.args) (ownerHead .off)) s

/-- BOBBIN: R140. -/
def execBobbin (f : OrderFrame) (s : State) : Host.Outcome State Fault Refusal :=
  takeOrder 13 .headOnly f (withArgs (parseU24 f.args) ownerBobbin) s

/-- SETSEG: R71. -/
def execSetseg (f : OrderFrame) (s : State) : Host.Outcome State Fault Refusal :=
  takeOrder 14 .all f (withArgs (parseSetSeg f.args) ownerSetseg) s

/-- RESUME-LOAD: R74. -/
def execResumeLoad (f : OrderFrame) (s : State) : Host.Outcome State Fault Refusal :=
  takeOrder 15 .all f (withArgs (parseNone f.args) ownerResume) s

/-- CLEAR: R161. -/
def execClear (f : OrderFrame) (lines : CodeLines) (s : State) : Host.Outcome State Fault Refusal :=
  takeOrder 16 .all f (withArgs (parseClear f.args) (ownerClear lines)) s

/-- SETACTION: R162. -/
def execSetaction (f : OrderFrame) (s : State) : Host.Outcome State Fault Refusal :=
  takeOrder 17 .all f (withArgs (parseSetAction f.args) ownerSetaction) s

/-- SETUP: R175. -/
def execSetup (f : OrderFrame) (s : State) : Host.Outcome State Fault Refusal :=
  takeOrder 18 .all f (withArgs (parseEntries f.args) ownerSetup) s

/-- RESTART: R178. -/
def execRestart (f : OrderFrame) (supplyMv : Nat) (s : State) : Host.Outcome State Fault Refusal :=
  takeOrder 19 .all f (withArgs (parseNone f.args) (ownerRestart supplyMv)) s

/-- UNKNOWN_ORDER: R172, R173; it fits every role and is refused with BAD-ARG. With a code of the catalogue it names no event
(log entry 22). -/
def execUnknownOrder (code : Byte) (f : OrderFrame) (s : State) : Host.Outcome State Fault Refusal :=
  if inCatalogue code then .next s else takeOrder code .all f (fun _ => .error .badArg) s

end Sys2Proof.Machine
end

