-- ==== Sys2Proof/Machine/Pacing.lean ====
section
/-! DEFINITION. The pace unit's events: the opening of a window (R23, R25, R153), guard and minimum assertion (R23), HALT (R33,
R34, R21), and the timers of the pace unit (R32, R34, R36, R37, R53). -/

namespace Sys2Proof.Machine

/-- R23, R150, R151: the cursor after the opening of a window. -/
def cursorAfter (w : WindowRec) (c : Cursor) : Cursor :=
  match w.kind with
  | .prepare => c
  | .move _ => if isStitch w.copy then { c with step := .stroke } else Cursor.at (c.n + 1)
  | .stroke _ => Cursor.at (c.n + 1)
  | .trim _ => Cursor.at (c.n + 1)
  | .change _ => Cursor.at (c.n + 1)
  | .retreat k => Cursor.at (k - 1)
  | .advance m => afterMove m w.copy

/-- R23, R38: MOVE and STROKE take up the set rate. -/
def takesRate : Window → Bool
  | .move _ => true
  | .stroke _ => true
  | _ => false

/-- R20, R23, R34: what an opening does in the pace unit, but for the cursor. -/
def openPace (w : WindowRec) (s : State) : State :=
  { s with pcu := { s.pcu with
      win := .opened
      openW := some w
      next := none
      edge := .inGuard
      armed := false
      stall := .stopped
      haltWait := .stopped
      run := if isRunning s.pcu.haltWait then .stopping else s.pcu.run
      workRate := if takesRate w.kind then s.pcu.setRate else s.pcu.workRate
      preparePending := if w.kind = .prepare then false else s.pcu.preparePending } }

/-- R153: a traversal window whose opening leaves the cursor at the target. -/
def reachTarget (s : State) : State :=
  if traversalDone s then
    { s with pcu := { s.pcu with
        run := .stopping
        pendingStop := some (s.pcu.pendingStop.getD
          (if (s.pcu.traversal.map Traversal.endLimited).getD false then .designEnd else .traverseDone)) } }
  else s

/-- R25: the blocks of the station's role begin the window's work. -/
def startWork (lines : CodeLines) (w : WindowRec) (s : State) : State :=
  if isHead s then headWork lines w s else axisWork w s

/-- R23: the opening of a window. -/
def openWindow (lines : CodeLines) (w : WindowRec) (s : State) : State :=
  startWork lines w (reachTarget (advanceCursor (cursorAfter w s.pcu.cursor) (openPace w (applyPending s))))

/-- CROSSING: R20, R23. The filter fires only while armed and READY. -/
def execCrossing (lines : CodeLines) (s : State) : Host.Outcome State Fault Refusal :=
  onService (fun s =>
    if s.pcu.win = .ready ∧ s.pcu.armed = true then
      match s.pcu.next with
      | some w => openWindow lines w s
      | none => s
    else s) s

/-- GUARD_END: R23. -/
def execGuardEnd (s : State) : Host.Outcome State Fault Refusal :=
  onService (fun s =>
    if s.pcu.edge = .inGuard then
      { s with pcu := { s.pcu with edge := .minAssertion, pace := true, armed := true } }
    else s) s

/-- MIN_ASSERTION_END: R23. -/
def execMinAssertionEnd (s : State) : Host.Outcome State Fault Refusal :=
  onService (fun s =>
    if s.pcu.edge = .minAssertion then settle { s with pcu := { s.pcu with edge := .settled } } else s) s

/-- R33: a stop becomes pending, with reason HALTED where none is. -/
def pendHalted (s : State) : State :=
  { s with pcu := { s.pcu with pendingStop := some (s.pcu.pendingStop.getD .halted) } }

/-- R33, R34: HALT seen asserted in RUNNING or a traversal. -/
def haltMoving (s : State) : State :=
  let t := pendHalted s
  match s.pcu.win with
  | .opened => { t with pcu := { t.pcu with run := .stopping } }
  | .preparing => enterStopped .halted t
  | .ready => { t with pcu := { t.pcu with haltWait := .running Config.haltWaitUs } }

/-- HALT_SEEN_ASSERTED: R21, R33. -/
def execHaltSeenAsserted (s : State) : Host.Outcome State Fault Refusal :=
  onService (fun s =>
    let t := { s with pcu := { s.pcu with haltSeen := true } }
    if isMoving s.pcu.run then haltMoving t else t) s

/-- HALT_SEEN_RELEASED: R21. -/
def execHaltSeenReleased (s : State) : Host.Outcome State Fault Refusal :=
  onService (fun s => settle { s with pcu := { s.pcu with haltSeen := false } }) s

/-- HALT_WAIT_EXPIRY: R34. -/
def execHaltWaitExpiry (s : State) : Host.Outcome State Fault Refusal :=
  onService (fun s =>
    if s.pcu.win = .ready ∧ isRunning s.pcu.haltWait = true then enterStopped .halted s else s) s

/-- HALT_PULSE_END: R32. -/
def execHaltPulseEnd (s : State) : Host.Outcome State Fault Refusal :=
  onService (fun s => { s with pcu := { s.pcu with haltPulse := .stopped } }) s

/-- STARVE_TIMER_EXPIRY: R36, R158: the detail is N modulo 65,536, high octet first. -/
def execStarveTimerExpiry (s : State) : Host.Outcome State Fault Refusal :=
  onService (fun s =>
    if isRunning s.pcu.starve then
      raise .starved (BitVec.ofNat 8 (s.pcu.cursor.n / 256)) (BitVec.ofNat 8 s.pcu.cursor.n)
        { s with pcu := { s.pcu with starve := .expired } }
    else s) s

/-- R37: the lowest station number of the holding peers, or 0xFF. -/
def lowestHolder (s : State) : Byte :=
  match holdingPeers s with
  | [] => 0xFF
  | n :: _ => stationOctet n

/-- STALL_TIMER_EXPIRY: R37. -/
def execStallTimerExpiry (s : State) : Host.Outcome State Fault Refusal :=
  onService (fun s =>
    if isRunning s.pcu.stall then
      raise .stall (octetSat (holdingPeers s).length) (lowestHolder s) { s with pcu := { s.pcu with stall := .expired } }
    else s) s

/-- AGREEMENT_TIMER_EXPIRY: R53. -/
def execAgreementTimerExpiry (s : State) : Host.Outcome State Fault Refusal :=
  onService (fun s => if agreementWaiting s then completeAgreement s else s) s

end Sys2Proof.Machine
end

