-- ==== Sys2Proof/Machine/Dispatch.lean ====
section
/-! DEFINITION. The meaning of every command, one arm per constructor. -/

namespace Sys2Proof.Machine

def exec (i : Instr) (s : State) : Host.Outcome State Fault Refusal :=
  match i with
  | .reset number rolePins => Sys2Proof.Machine.execReset number rolePins s
  | .selfTestEnd ringFailed lines driveFault supplyMv => Sys2Proof.Machine.execSelfTestEnd ringFailed lines driveFault supplyMv s
  | .joiningListenEnd lines => Sys2Proof.Machine.execJoiningListenEnd lines s
  | .run f => Sys2Proof.Machine.execRun f s
  | .stop f => Sys2Proof.Machine.execStop f s
  | .rate f => Sys2Proof.Machine.execRate f s
  | .back f => Sys2Proof.Machine.execBack f s
  | .forward f => Sys2Proof.Machine.execForward f s
  | .home f switchClosed => Sys2Proof.Machine.execHome f switchClosed s
  | .moveto f => Sys2Proof.Machine.execMoveto f s
  | .origin f => Sys2Proof.Machine.execOrigin f s
  | .setmap f => Sys2Proof.Machine.execSetmap f s
  | .setneedle f => Sys2Proof.Machine.execSetneedle f s
  | .headOn f => Sys2Proof.Machine.execHeadOn f s
  | .headOff f => Sys2Proof.Machine.execHeadOff f s
  | .bobbin f => Sys2Proof.Machine.execBobbin f s
  | .setseg f => Sys2Proof.Machine.execSetseg f s
  | .resumeLoad f => Sys2Proof.Machine.execResumeLoad f s
  | .clear f lines => Sys2Proof.Machine.execClear f lines s
  | .setaction f => Sys2Proof.Machine.execSetaction f s
  | .setup f => Sys2Proof.Machine.execSetup f s
  | .restart f supplyMv => Sys2Proof.Machine.execRestart f supplyMv s
  | .unknownOrder code f => Sys2Proof.Machine.execUnknownOrder code f s
  | .designSegment src body => Sys2Proof.Machine.execDesignSegment src body s
  | .beaconReceived src body => Sys2Proof.Machine.execBeaconReceived src body s
  | .urgentReceived src body => Sys2Proof.Machine.execUrgentReceived src body s
  | .peerAgeExpiry peer => Sys2Proof.Machine.execPeerAgeExpiry peer s
  | .beaconTimer => Sys2Proof.Machine.execBeaconTimer s
  | .transmitAttempt => Sys2Proof.Machine.execTransmitAttempt s
  | .arbitrationLost => Sys2Proof.Machine.execArbitrationLost s
  | .collision => Sys2Proof.Machine.execCollision s
  | .frameSent => Sys2Proof.Machine.execFrameSent s
  | .crossing lines => Sys2Proof.Machine.execCrossing lines s
  | .guardEnd => Sys2Proof.Machine.execGuardEnd s
  | .minAssertionEnd => Sys2Proof.Machine.execMinAssertionEnd s
  | .haltSeenAsserted => Sys2Proof.Machine.execHaltSeenAsserted s
  | .haltSeenReleased => Sys2Proof.Machine.execHaltSeenReleased s
  | .haltWaitExpiry => Sys2Proof.Machine.execHaltWaitExpiry s
  | .haltPulseEnd => Sys2Proof.Machine.execHaltPulseEnd s
  | .starveTimerExpiry => Sys2Proof.Machine.execStarveTimerExpiry s
  | .stallTimerExpiry => Sys2Proof.Machine.execStallTimerExpiry s
  | .agreementTimerExpiry => Sys2Proof.Machine.execAgreementTimerExpiry s
  | .windowMoveStep => Sys2Proof.Machine.execWindowMoveStep s
  | .homingStep => Sys2Proof.Machine.execHomingStep s
  | .homeSwitchSeenClosed => Sys2Proof.Machine.execHomeSwitchSeenClosed s
  | .homingFail => Sys2Proof.Machine.execHomingFail s
  | .movetoStep => Sys2Proof.Machine.execMovetoStep s
  | .driveFaultAsserted => Sys2Proof.Machine.execDriveFaultAsserted s
  | .driveFaultReleased => Sys2Proof.Machine.execDriveFaultReleased s
  | .trimPulseEnd lines => Sys2Proof.Machine.execTrimPulseEnd lines s
  | .detentPulse => Sys2Proof.Machine.execDetentPulse s
  | .detentReleased => Sys2Proof.Machine.execDetentReleased s
  | .selMoveLimitExpiry => Sys2Proof.Machine.execSelMoveLimitExpiry s
  | .selSettleExpiry lines => Sys2Proof.Machine.execSelSettleExpiry lines s
  | .needleDownSeen => Sys2Proof.Machine.execNeedleDownSeen s
  | .needleDownReleased => Sys2Proof.Machine.execNeedleDownReleased s
  | .needleUpSeen => Sys2Proof.Machine.execNeedleUpSeen s
  | .needleUpReleased => Sys2Proof.Machine.execNeedleUpReleased s
  | .strokeLimitExpiry => Sys2Proof.Machine.execStrokeLimitExpiry s
  | .sampleOneShotEnd => Sys2Proof.Machine.execSampleOneShotEnd s
  | .conversionEnd t => Sys2Proof.Machine.execConversionEnd t s
  | .dwellEnd => Sys2Proof.Machine.execDwellEnd s
  | .feedPulse => Sys2Proof.Machine.execFeedPulse s
  | .surge => Sys2Proof.Machine.execSurge s
  | .supplyFallWarn => Sys2Proof.Machine.execSupplyFallWarn s
  | .supplyRiseNormal => Sys2Proof.Machine.execSupplyRiseNormal s
  | .supplyFallLow => Sys2Proof.Machine.execSupplyFallLow s
  | .supplyRiseWarn => Sys2Proof.Machine.execSupplyRiseWarn s
  | .supplyFallCut => Sys2Proof.Machine.execSupplyFallCut s
  | .supplyRecovery => Sys2Proof.Machine.execSupplyRecovery s
  | .frameAbandoned => Sys2Proof.Machine.execFrameAbandoned s
  | .lineIdle => Sys2Proof.Machine.execLineIdle s

end Sys2Proof.Machine
end

