-- ==== Sys2Proof/Safety.lean ====
section
/-! DEFINITION. What counts as a safe station: the laws of the device that the spec names, as properties of one state, and the
words the statements use. -/

namespace Sys2Proof.Machine

/-- STOPPED, JOINING or CUT (R19, R22). -/
abbrev atRest (r : RunState) : Prop := r = .stopped ∨ r = .joining ∨ r = .cut

/-- TRAVERSING-BACK or TRAVERSING-FORWARD. -/
abbrev isTraversing (r : RunState) : Prop := r = .traversingBack ∨ r = .traversingForward

/-- R19, R20, R22, R23, R25, R80, R133: how run state, window state, PACE, the guard and the work in flight go together. -/
abbrev windowLaw (s : State) : Prop :=
  (atRest s.pcu.run → s.pcu.win = .preparing) ∧
  (s.pcu.win = .preparing →
    s.pcu.pace = true ∧ s.pcu.edge = .settled ∧ s.pcu.openW = none ∧ s.pcu.next = none) ∧
  (s.pcu.win = .ready →
    s.pcu.pace = false ∧ s.pcu.edge = .settled ∧ s.pcu.next.isSome = true ∧ isMoving s.pcu.run = true) ∧
  (s.pcu.win = .opened →
    s.pcu.openW.isSome = true ∧ s.pcu.next = none ∧ (isMoving s.pcu.run = true ∨ s.pcu.run = .stopping) ∧
      (s.pcu.pace = true ↔ s.pcu.edge ≠ .inGuard)) ∧
  (s.pcu.armed = true ↔ s.pcu.edge ≠ .inGuard) ∧
  (workInFlight s = true → s.pcu.win = .opened)

/-- R28, R34, R52, R145, R146, R177: what goes with STOPPING, the halt wait, a waiting agreement, a traversal and the
self-test. -/
abbrev runLaw (s : State) : Prop :=
  (s.pcu.run = .stopping → s.pcu.win = .opened ∧ s.pcu.pendingStop.isSome = true) ∧
  (isRunning s.pcu.haltWait = true → s.pcu.win = .ready ∧ s.pcu.pendingStop.isSome = true) ∧
  (agreementWaiting s = true → s.pcu.win = .preparing ∧ s.pcu.run ≠ .joining ∧ s.pcu.run ≠ .cut) ∧
  (isTraversing s.pcu.run → s.pcu.traversal.isSome = true) ∧
  (s.pcu.traversal.isSome = true → isTraversing s.pcu.run ∨ s.pcu.run = .stopping) ∧
  (s.pcu.traversal.map Traversal.target = some none → s.pcu.win = .preparing) ∧
  (s.selfTesting = true → s.pcu.run = .joining)

/-- The laws of the pace unit. -/
abbrev paceLaw (s : State) : Prop := windowLaw s ∧ runLaw s

/-- R3, R4, R5, R10, R11: the ring holds valid records, at most 4,096 and none past record 16,777,215, and the trail holds
exactly the entries of its COLOR records, at most 64. -/
abbrev ringForm (r : Ring) : Prop :=
  r.recs.length ≤ Config.ringPlaces ∧ r.trail = colorEntries r.F r.recs ∧ r.trail.length ≤ Config.trailPlaces ∧
    r.base ≤ 31 ∧ recordsInvalid r.F r.recs = none ∧ ringL r ≤ Config.maxRecord + 1

/-- R59, R66, R14: RESEND is set in WAIT, where the cursor has not reached L; the lockout reason and the wait cause go with
their states. -/
abbrev loaderLaw (s : State) : Prop :=
  (s.dld.state = .wait → s.dld.resend = true ∧ s.pcu.cursor.n < ringL s.drg) ∧
    (s.dld.state = .wait ↔ s.dld.waitCause ≠ .none) ∧ (s.dld.state = .lockout ↔ s.dld.lockReason ≠ .none)

/-- The ring and the loader. -/
abbrev loadingLaw (s : State) : Prop := ringForm s.drg ∧ loaderLaw s

/-- R5: the oldest record held is not above the cursor. During JOINING the cursor is still at record 0 (R41). -/
abbrev cursorLaw (s : State) : Prop := s.drg.F ≤ s.pcu.cursor.n ∧ (s.pcu.run = .joining → s.pcu.cursor.n = 0)

/-- R3, R4, R5: no record number passes 16,777,215: neither the cursor nor a cursor that it may take up, at the opening of the
next window or from a peer. -/
abbrev numberLaw (s : State) : Prop :=
  s.pcu.cursor.n ≤ Config.maxRecord ∧
    (∀ w ∈ s.pcu.next, (cursorAfter w s.pcu.cursor).n ≤ Config.maxRecord) ∧
    ∀ i : Station, s.ptb.peers[i].cursor.n ≤ Config.maxRecord ∧ ∀ c ∈ s.ptb.peers[i].stopCursor, c.n ≤ Config.maxRecord

/-- R88 to R92: what a window move in flight holds. -/
abbrev moveLaw (ps : Params) (sPos : Int) (m : AxisMove) : Prop :=
  m.pt = clampPos ps m.pcNew ∧ m.st = toSteps ps m.pt ∧ m.delta = m.st - sPos ∧ m.issued < m.delta.natAbs

/-- R82, R86: what an operation in flight holds. -/
def opLaw (ps : Params) (sPos : Int) : AxisOp → Prop
  | .homing issued => issued ≤ ps.homeTravel
  | .moveto pt st delta issued =>
    pt = clampPos ps pt ∧ st = toSteps ps pt ∧ delta = st - sPos ∧ issued < delta.natAbs

/-- R79, R87, R175: a HOMED axis has its frame position within the limits and its step position exactly there, and without an
excursion the frame stands at the clamped commanded position. -/
abbrev axisLaw (s : State) : Prop :=
  isAxis s = true →
    setupConsistent s.params = true ∧
    (s.axu.homing = .homed →
      s.axu.pf = clampPos s.params s.axu.pf ∧ s.axu.sPos = toSteps s.params s.axu.pf ∧
        (s.axu.excursion = false → s.axu.pf = clampPos s.params s.axu.pc)) ∧
    (∀ m ∈ s.axu.move, moveLaw s.params s.axu.sPos m) ∧
    (∀ o ∈ s.axu.op, opLaw s.params s.axu.sPos o ∧ s.ord.setupOpen = false ∧ s.pcu.win = .preparing)

/-- R158 to R160, R162: counts saturate, a fixed action is HALT and any other is one the fault table allows, a fresh fault is
pending, and the axis mark goes with a latched PEER-LOST. -/
abbrev faultLaw (s : State) : Prop :=
  (∀ c : FaultCode,
    (faultRec c s).count ≤ 255 ∧
    (if allowedActions c = [] then (faultRec c s).action = .halt else (faultRec c s).action ∈ allowedActions c) ∧
    ((faultRec c s).fresh = true → (faultRec c s).pending = true)) ∧
  (s.flt.axisMark = true → (faultRec .peerLost s).latched = true)

/-- R167, R168, R186: the run state is CUT exactly while the supply level is, and then nothing is sent or due. -/
abbrev cutLaw (s : State) : Prop :=
  (s.flt.supply = .cut ↔ s.pcu.run = .cut) ∧ (s.pcu.run = .cut → s.liu.tx = none ∧ s.liu.beaconDue = false)

/-- R141: a bobbin counter that is present lies between 0 and the value last loaded. -/
abbrev bobbinLaw (s : State) : Prop := ∀ b ∈ s.thm.bobbin, ∃ l ∈ s.thm.lastLoaded, b ≤ l

/-- The value a parameter holds, in the step of its range (R175). -/
def paramValue (ps : Params) : Param → Int
  | .retain => ps.retain
  | .moveShare => ps.moveShare
  | .traverseRate => ps.traverseRate
  | .starveLimit => ps.starveLimit
  | .stallTime => ps.stallTime
  | .pw => ps.pw
  | .nw => ps.nw
  | .p => ps.p
  | .vmax => ps.vmax
  | .lmin => ps.lmin
  | .lmax => ps.lmax
  | .homeDir => ps.homeDir
  | .homeRate => ps.homeRate
  | .homeOffset => ps.homeOffset
  | .homeTravel => ps.homeTravel
  | .needles => ps.needles
  | .selSettle => ps.selSettle
  | .selLimit => ps.selLimit
  | .trimPulse => ps.trimPulse
  | .sampleDelay => ps.sampleDelay
  | .strokeLimit => ps.strokeLimit
  | .tl => ps.tl
  | .th => ps.th
  | .surgeRef => ps.surgeRef
  | .ka => ps.ka
  | .kb => ps.kb
  | .delta => ps.delta
  | .breakRun => ps.breakRun
  | .snagRun => ps.snagRun
  | .looseRun => ps.looseRun
  | .tightRun => ps.tightRun
  | .overlap => ps.overlap
  | .kl => ps.kl
  | .kbob => ps.kbob
  | .bobbinWarn => ps.bobbinWarn

/-- R175: every parameter lies in its range, and the consistency checks hold. -/
abbrev paramsLaw (ps : Params) : Prop :=
  (∀ q : Param, (paramRange q).1 ≤ paramValue ps q ∧ paramValue ps q ≤ (paramRange q).2) ∧ setupConsistent ps = true

/-! ### Words of the statements -/

/-- R176, R177, R180: the station is in service and its framer can take in a frame. -/
abbrev hearsFrames (s : State) : Prop := inService s = true ∧ listening s = true

/-- R172: the order is received and judged at this station. -/
abbrev judgedAt (fit : RoleFit) (f : OrderFrame) (s : State) : Prop := hearsFrames s ∧ reach fit f.dest s = .judged

/-- R172: the role of an order code; a code outside the catalogue fits every role. -/
def fitOfCode (code : Byte) : RoleFit :=
  if 6 ≤ code.toNat ∧ code.toNat ≤ 8 then .axisOnly
  else if 9 ≤ code.toNat ∧ code.toNat ≤ 13 then .headOnly
  else .all

/-- The record of a fault after a cause with this detail, in a table that has this record for it (R160). -/
abbrev raisedIn (c : FaultCode) (d1 d2 : Byte) (s u : State) : Prop :=
  faultRec c u = raisedRec (faultRec c s).action d1 d2 (faultRec c s)

/-- How many held displacement records are numbered from `lo` to below `hi` (R147, R148). -/
def displacementsIn (r : Ring) (lo hi : Nat) : Nat :=
  (List.range (hi - lo)).countP fun i => (ringGet r (lo + i)).any isDisplacement

/-- R25: the windows in which a trim may be due at a head. -/
def trimWindow : Window → Bool
  | .prepare | .trim _ | .change _ => true
  | _ => false

/-- R25: the windows that give an axis no work. -/
def restsAxis : Window → Bool
  | .stroke _ | .trim _ | .change _ => true
  | _ => false

/-- R25, R117, R152: the windows that give a head no work. -/
def restsHead : Window → Bool
  | .move _ | .retreat _ | .advance _ => true
  | _ => false

/-- R115, R116: the colour that a window of PREPARE or CHANGE asks the selector for. -/
def colourOfWindow (w : WindowRec) (s : State) : Option Nat :=
  match w.kind with
  | .prepare => some (colorInForce s.drg s.pcu.cursor.n)
  | .change _ => some w.copy.o1.toNat
  | _ => none

/-- R115, R116: the colour that the next window asks the selector for. -/
def colourWanted (s : State) : Option Nat := s.pcu.next.bind (colourOfWindow · s)

/-- R110: where a selector move would start: at the needle of SETTLED, or at the valid code read in UNKNOWN. -/
def selectorStart (lines : CodeLines) (s : State) : Option Nat :=
  match s.slu.sel with
  | .settled q => some q
  | .unknown => readCode s.params.needles s.slu.detent lines
  | _ => none

/-- R107: the target of MOVING and CONFIRMING. -/
def selectorTarget : SelState → Option Nat
  | .moving p | .confirming p => some p
  | _ => none

/-- R137: the run that a stroke which now ends counts from: 0 where its needle is not the last one. -/
def runFrom (run : Nat) (s : State) : Nat := if s.stu.needle = s.thm.lastNeedle then run else 0

/-- R137: the first suspect record after a BREAK-SUSPECT stroke. -/
def firstSuspectAfter (s : State) : Option Nat :=
  if runFrom s.thm.breakRun s = 0 then some s.stu.recNo else s.thm.firstSuspect

/-- R22 to R27, R36: the station `w`, its last minimum assertion passed, goes on to `u`: what MIN_ASSERTION_END makes of it. -/
abbrev goesOnTo (w u : State) : Prop := exec .minAssertionEnd { w with pcu := { w.pcu with edge := .minAssertion } } = .next u

/-- R25, R26: what an event at the axis, selector, stroke or thread unit of `s` leads to, with those units as `u` has them. After
the minimum assertion the pace unit tests for the window's end and for READY; before it nothing but the starve timer changes. -/
abbrev followsReport (s u : State) : Prop :=
  let w := { s with axu := u.axu, slu := u.slu, stu := u.stu, thm := u.thm, flt := u.flt, free := u.free }
  if s.pcu.edge = .settled then goesOnTo w u
  else u = { w with pcu := { s.pcu with
    starve :=
      if s.pcu.run ≠ .running ∨ (recAtN s).isSome = true then .stopped
      else if s.pcu.win = .preparing ∧ s.pcu.pendingStop = none ∧ s.pcu.starve = .stopped then
        .running (s.params.starveLimit * 100000)
      else s.pcu.starve } }

/-- R16, R54: the ring where agreement has chosen the cursor `c`. -/
def chosenRing (c : Cursor) (s : State) : Ring :=
  if c = s.pcu.cursor then s.drg
  else if c.n < s.drg.F then ⟨c.n, [], [], s.drg.base⟩
  else (followCursor { s with pcu := { s.pcu with cursor := c } }).drg

/-- R16, R54, R70: the loader where agreement has chosen the cursor `c`. -/
def chosenLoader (c : Cursor) (s : State) : Loader :=
  if c = s.pcu.cursor then s.dld
  else if c.n < s.drg.F then { s.dld with state := .lockout, lockReason := .rebase, waitCause := .none }
  else (followCursor { s with pcu := { s.pcu with cursor := c } }).dld

/-- An octet that is no fault code 1..25 (R161). -/
def noFaultCode (b : Byte) : Bool := b == 0 || decide (25 < b.toNat)

/-- R161, R162, R189: the arguments do not have the length and form that the order of this code takes; for SETACTION also an
action that the fault table does not allow. A code outside the catalogue takes none (R173). -/
def badForm (code : Byte) (args : List Byte) : Bool :=
  match code.toNat with
  | 1 | 2 | 6 | 8 | 11 | 12 | 15 | 19 => args.length != 0
  | 3 | 4 | 5 | 7 => args.length != 2
  | 9 => args.length % 2 == 1
  | 10 => args.length != 3 || decide (1 < (args.getD 1 0).toNat) || decide (1 < (args.getD 2 0).toNat)
  | 13 => args.length != 3
  | 14 => args.length != 8 || decide (1 < (args.getD 7 0).toNat)
  | 16 => args.isEmpty || (args != [0xFF] && args.any noFaultCode)
  | 17 =>
    args.length != 2 || noFaultCode (args.getD 0 0) || decide (2 < (args.getD 1 0).toNat)
      || !(match faultOfOctet (args.getD 0 0), actionOfCode (args.getD 1 0) with
        | some c, some a => decide (a ∈ allowedActions c)
        | _, _ => false)
  | 18 => args.length % 5 != 0
  | _ => true

end Sys2Proof.Machine
end

