-- ==== Sys2Proof/Certificates/Slice0/Obligations.lean ====
section
/-! DEFINITION. The statements for the provers. Each says what a command or the whole station does, by the rules it names. -/

open Sys2Proof Sys2Proof.Machine

/-- A step runs the command at the front of the queue on the queue's rest, and an empty queue idles (00_scope.md). -/
def Obligations.StepTakesFrontCommand : Prop :=
  (∀ (c : Instr) (rest : List Instr) (s : State), s.pending = c :: rest → step s = exec c { s with pending := rest }) ∧
  (∀ s : State, s.pending = [] → step s = .next s)

/-- RESET samples the straps and gives every item its reset value (R17, R41, R43, R77, R101, R120, R143, R170, R174, R176,
R177). -/
def Obligations.ResetCommandRestoresEverything : Prop :=
  (∀ (number : Station) (pins : BitVec 2) (s : State), exec (.reset number pins) s = .next
    { pending := s.pending, number := number, role := roleOfPins pins, selfTesting := (roleOfPins pins).isSome,
      resultCode := 0, params := Params.defaults, liu := LineInterface.initial, ord := OrderDecoder.initial,
      ptb := PeerTable.initial, pcu := PaceUnit.initial, dld := Loader.initial, drg := Ring.initial,
      axu := AxisUnit.initial, slu := SelectorUnit.initial, stu := StrokeUnit.initial, thm := ThreadMonitor.initial,
      flt := FaultUnit.initial, free := 0 }) ∧
  roleOfPins 0 = some .head ∧ roleOfPins 1 = some .axisX ∧ roleOfPins 2 = some .axisY ∧ roleOfPins 3 = none

/-- The values that the spec gives the blocks and the setup parameters after reset (R17, R41, R43, R77, R101, R120, R143,
R159, R173, R174, R175). -/
def Obligations.ResetValues : Prop :=
  let s := State.reset
  (s.pcu.run = .joining ∧ s.pcu.win = .preparing ∧ s.pcu.cursor = ⟨0, .first⟩ ∧ s.pcu.next = none ∧
    s.pcu.preparePending = false ∧ s.pcu.pendingStop = none ∧ s.pcu.stopReason = .joined) ∧
  (s.pcu.setRate = 600 ∧ s.pcu.workRate = 600 ∧ s.pcu.pace = true ∧ s.pcu.armed = true ∧ s.pcu.haltSeen = false) ∧
  (s.drg = ⟨0, [], [], 0⟩ ∧ ringRoom s.drg = 4096 ∧ s.dld = ⟨.opened, 0, false, 0, .none, .none⟩) ∧
  (∀ i : Station, s.ptb.peers[i].presence = .absent ∧ s.ptb.peers[i].age = 100 ∧ s.ptb.peers[i].stopCursor = none) ∧
  (s.axu.homing = .unhomed ∧ s.axu.originValid = false ∧ s.axu.pc = 0 ∧ s.axu.pf = 0 ∧ s.axu.sPos = 0) ∧
  (s.slu.sel = .unknown ∧ s.slu.counter = 0 ∧ (∀ colour : Fin 32, s.slu.map[colour] = 0) ∧
    ∀ n : Fin 15, s.slu.needles[n] = ⟨.ready, 0, 0, 0⟩) ∧
  (s.stu.participation = .enabled ∧ s.stu.C = 0 ∧ s.stu.tail = false ∧ s.stu.phase = .idle ∧ s.thm.bobbin = none) ∧
  (∀ k : Fin 25, s.flt.recs[k] = ⟨false, false, false, 0, 0, 0, defaultActions[k]⟩) ∧
  (s.ord = ⟨0, none, true⟩ ∧ haltRequest s = true) ∧
  allParams.map (paramValue s.params) =
    [512, 7, 1000, 20, 30, 8, 8, 640, 200, -1800, 1800, 0, 20, -1800, 200000, 12, 15, 20, 30, 20, 30, 150, 700, 220, 40, 320,
     6, 3, 2, 8, 8, 2, 6, 10, 5]

/-- With role pins 11, and during the self-test, no command but RESET and SELF_TEST_END changes anything (R176, R177). -/
def Obligations.OutOfServiceNothingHappens : Prop :=
  (∀ (c : Instr) (s : State), inService s = false → (∀ number pins, c ≠ .reset number pins) →
    (∀ ring lines drive mv, c ≠ .selfTestEnd ring lines drive mv) → exec c s = .next s) ∧
  (∀ (ring : Bool) (lines : CodeLines) (drive : Bool) (mv : Nat) (s : State), s.role = none →
    exec (.selfTestEnd ring lines drive mv) s = .next s)

/-- SELF_TEST_END: result code, SELF-TEST, starting supply level, joining (R50, R167, R170, R177). -/
def Obligations.SelfTestEnds : Prop :=
  (∀ (role : Role) (ring : Bool) (lines : CodeLines) (drive : Bool) (mv : Nat) (s : State),
     s.role = some role → s.selfTesting = true →
     ∃ u, exec (.selfTestEnd ring lines drive mv) s = .next u ∧
       u.flt.axisMark = s.flt.axisMark ∧
       u.selfTesting = false ∧
       u.resultCode = (if ring then 1 else if role = .head ∧ codeOfLines lines = 0 then 2 else if role ≠ .head ∧ drive then
         3 else 0) ∧
       u.flt.supply = startingLevel mv ∧
       (if (if ring then 1 else if role = .head ∧ codeOfLines lines = 0 then 2 else if role ≠ .head ∧ drive then 3 else 0) =
         (0 : Byte) then faultRec .selfTest u = faultRec .selfTest s else raisedIn .selfTest (if ring then 1 else if role =
         .head ∧ codeOfLines lines = 0 then 2 else if role ≠ .head ∧ drive then 3 else 0) (if ring ∧ ((role = .head ∧
         codeOfLines lines = 0) ∨ (role ≠ .head ∧ drive)) then 2 else 1) s u) ∧
       (if startingLevel mv = .normal then faultRec .supplyWarn u = faultRec .supplyWarn s else raisedIn .supplyWarn 0 0 s
         u) ∧
       (if startingLevel mv = .normal ∨ startingLevel mv = .warn then faultRec .supplyLow u = faultRec .supplyLow s else
         raisedIn .supplyLow 0 0 s u) ∧
       (∀ c : FaultCode, c ≠ .selfTest ∧ c ≠ .supplyWarn ∧ c ≠ .supplyLow → faultRec c u = faultRec c s) ∧
       (startingLevel mv ≠ .cut → u = { s with
           selfTesting := false, resultCode := u.resultCode, flt := u.flt, pcu := { s.pcu with listen := .running 100000 },
           liu := { s.liu with beaconTimer := .running (s.number.val * 500) } }) ∧
       (startingLevel mv = .cut → u.pcu.run = .cut ∧ u.pcu.pace = true ∧ u.pcu.listen = .stopped)) ∧
  (∀ mv : Nat, (startingLevel mv = .normal ↔ 21800 < mv) ∧ (startingLevel mv = .warn ↔ 19900 < mv ∧ mv ≤ 21800) ∧
    (startingLevel mv = .low ↔ 16300 < mv ∧ mv ≤ 19900) ∧ (startingLevel mv = .cut ↔ mv ≤ 16300))

/-- JOINING_LISTEN_END: the cursor of the stopped peers, the covered mark, the selector read, STOPPED with reason JOINED
(R8, R35, R48, R51, R52, R84, R109). -/
def Obligations.JoiningListenEnds : Prop :=
  ∀ (lines : CodeLines) (s : State),
    inService s = true → s.pcu.run = .joining → isRunning s.pcu.listen = true →
    ∃ u, exec (.joiningListenEnd lines) s = .next u ∧
      u.flt.axisMark = s.flt.axisMark ∧
      u.flt.supply = s.flt.supply ∧
      (u.pcu.run = .stopped ∧ u.pcu.win = .preparing ∧ u.pcu.pace = true ∧ u.pcu.listen = .stopped ∧ u.pcu.stopReason =
        s.pcu.pendingStop.getD .joined ∧ u.pcu.pendingStop = none) ∧
      u.pcu.cursor = joiningCursor s ∧
      u.drg = (setCursor (joiningCursor s) s).drg ∧
      u.dld = (setCursor (joiningCursor s) s).dld ∧
      u.ptb.joined = true ∧
      (agreementWaiting u = !(pacingPeers s).isEmpty) ∧
      (u.pcu.joinAgreement = agreementWaiting u) ∧
      (∀ i : Station, u.ptb.peers[i] = { s.ptb.peers[i] with qualified := false }) ∧
      u.stu = (if isHead s then { s.stu with C := (joiningCursor s).n } else s.stu) ∧
      u.slu = (if isHead s then ((readCode s.params.needles s.slu.detent lines).map fun q => { s.slu with
          sel := .settled q, counter := q }).getD s.slu else s.slu) ∧
      (if isAxis s ∧ s.axu.homing ≠ .homed then raisedIn .notHomed 0 0 s u else faultRec .notHomed u = faultRec .notHomed s)
        ∧
      (if rosterRight s then faultRec .frameRoster u = { faultRec .frameRoster s with latched := false } else raisedIn
        .frameRoster (octetSat (rosterCount .axisX s)) (octetSat (rosterCount .axisY s)) s u) ∧
      (∀ c : FaultCode, c ≠ .notHomed ∧ c ≠ .frameRoster → faultRec c u = faultRec c s) ∧
      u = { s with
          pcu := u.pcu, liu := (beaconFallsDue { s with pcu := u.pcu }).liu, ptb := u.ptb, dld := u.dld, drg := u.drg,
          stu := u.stu, slu := u.slu, flt := u.flt }

/-- The chosen cursor is held by the greatest number, and is the smallest of those (R51, R53). -/
def Obligations.JoiningAndAgreementChoice : Prop :=
  ∀ (c : Cursor) (cs : List Cursor), chooseCursor c cs ∈ c :: cs ∧
    ∀ d ∈ c :: cs, d ≠ chooseCursor c cs →
      (c :: cs).count d < (c :: cs).count (chooseCursor c cs) ∨
      ((c :: cs).count d = (c :: cs).count (chooseCursor c cs) ∧
        ((chooseCursor c cs).n < d.n ∨ ((chooseCursor c cs).n = d.n ∧ (chooseCursor c cs).step = .first ∧ d.step = .stroke)))

/-- What each destination makes of an order at a station, and what an order leaves that is not judged (R44, R172, R185,
R189). -/
def Obligations.DestinationsReachStations : Prop :=
  (∀ (fit : RoleFit) (s : State), reach fit none s = .ignored ∧ ∀ d : Byte, reach fit (some d) s =
    if d.toNat = s.number.val then (if fitsRole fit s then .judged else .wrongRole)
    else if fitsRole fit s ∧ (d = 0x40 ∨ (d = 0x41 ∧ isHead s) ∨ (d = 0x42 ∧ isAxis s)) then .judged
    else .ignored) ∧
  (∀ (x : Sampled) (code : Byte) (f : OrderFrame) (s : State), hearsFrames s →
    (reach (fitOfCode code) f.dest s = .ignored → exec (orderOf x code f) s = .next (frameTaken f.src s)) ∧
    (reach (fitOfCode code) f.dest s = .wrongRole →
      exec (orderOf x code f) s = .next (refuse code .wrongRole (frameTaken f.src s))))

/-- Arguments of the wrong length or form, and unknown codes, are refused with BAD-ARG and the code received (R104, R161,
R162, R172, R173, R189). -/
def Obligations.MalformedOrdersAreRefused : Prop :=
  (∀ (x : Sampled) (code : Byte) (f : OrderFrame) (s : State), judgedAt (fitOfCode code) f s → badForm code f.args = true →
     exec (orderOf x code f) s = .next (refuse code .badArg (frameTaken f.src s))) ∧
  (∀ (code : Byte) (f : OrderFrame) (s : State), judgedAt .all f s → inCatalogue code = false →
     exec (.unknownOrder code f) s = .next (refuse code .badArg (frameTaken f.src s)))

/-- RUN: its checks in order, and what an accepted RUN does (R26, R29, R36, R37, R174). -/
def Obligations.RunOrder : Prop :=
  (∀ (f : OrderFrame) (s : State),
     judgedAt .all f s → f.args = [] → s.pcu.run ≠ .stopped →
     exec (.run f) s = .next (refuse 1 .notStopped (frameTaken f.src s))) ∧
  (∀ (f : OrderFrame) (s : State),
     judgedAt .all f s → f.args = [] → s.pcu.run = .stopped → s.pcu.haltSeen = true →
     exec (.run f) s = .next (refuse 1 .halted (frameTaken f.src s))) ∧
  (∀ (f : OrderFrame) (r : Rec) (s : State),
     judgedAt .all f s → f.args = [] → s.pcu.run = .stopped → s.pcu.haltSeen = false → recAtN s = some r → isEnd r = true →
     exec (.run f) s = .next (refuse 1 .designEnd (frameTaken f.src s))) ∧
  (∀ (f : OrderFrame) (s : State),
     judgedAt .all f s → f.args = [] → s.pcu.run = .stopped → s.pcu.haltSeen = false → atEnd s = false → isAxis s = true →
       s.axu.originValid = false →
     exec (.run f) s = .next (refuse 1 .noOrigin (frameTaken f.src s))) ∧
  (∀ (f : OrderFrame) (s : State),
     judgedAt .all f s → f.args = [] → s.pcu.run = .stopped → s.pcu.haltSeen = false → atEnd s = false → (isAxis s = false ∨
       s.axu.originValid = true) →
     ∃ u, exec (.run f) s = .next u ∧
       (u.pcu.win = .ready ∨ u.pcu.win = .preparing) ∧
       (u.pcu.win = .ready ↔ (recAtN s).isSome = true ∧ agreementWaiting s = false ∧ s.pcu.edge = .settled ∧ roleReady s =
         true) ∧
       u = { frameTaken f.src s with
           pcu := { s.pcu with
               run := .running, preparePending := true, pendingStop := none, win := u.pcu.win,
               next := if u.pcu.win = .ready then (recAtN s).map (fun r => ⟨.prepare, r⟩) else s.pcu.next,
               pace := if u.pcu.win = .ready then false else s.pcu.pace,
               stall := if u.pcu.win = .ready then .running (s.params.stallTime * 100000) else .stopped,
               starve := if (recAtN s).isSome then .stopped else .running (s.params.starveLimit * 100000) },
           ord := { s.ord with counter := s.ord.counter + 1, setupOpen := false } })

/-- STOP emits a HALT pulse and pends STOP-ORDER; RATE clamps the set rate (R31, R32, R38). -/
def Obligations.StopAndRateOrders : Prop :=
  (∀ (f : OrderFrame) (s : State),
     judgedAt .all f s → f.args = [] → (s.pcu.run = .joining ∨ s.pcu.run = .cut) →
     exec (.stop f) s = .next (refuse 2 .halted (frameTaken f.src s))) ∧
  (∀ (f : OrderFrame) (s : State),
     judgedAt .all f s → f.args = [] → s.pcu.run ≠ .joining → s.pcu.run ≠ .cut →
     exec (.stop f) s = .next (countAccepted { frameTaken f.src s with
         pcu := { s.pcu with
             haltPulse := .running 50,
             pendingStop := if isMoving s.pcu.run then some (s.pcu.pendingStop.getD .stopOrder) else s.pcu.pendingStop } })) ∧
  (∀ (f : OrderFrame) (a : Byte) (b : Byte) (s : State),
     judgedAt .all f s → f.args = [a, b] →
     exec (.rate f) s = .next (countAccepted { frameTaken f.src s with
         pcu := { s.pcu with setRate := max 100 (min (a.toNat * 256 + b.toNat) 1200) } }))

/-- BACK k: its checks in order, its target, and the traversal that ends at once (R26, R37, R145, R146, R149, R150, R174).
-/
def Obligations.BackOrder : Prop :=
  (∀ (f : OrderFrame) (a : Byte) (b : Byte) (s : State),
     judgedAt .all f s → f.args = [a, b] → s.pcu.run ≠ .stopped →
     exec (.back f) s = .next (refuse 4 .notStopped (frameTaken f.src s))) ∧
  (∀ (f : OrderFrame) (a : Byte) (b : Byte) (s : State),
     judgedAt .all f s → f.args = [a, b] → s.pcu.run = .stopped → s.pcu.haltSeen = true →
     exec (.back f) s = .next (refuse 4 .halted (frameTaken f.src s))) ∧
  (∀ (f : OrderFrame) (a : Byte) (b : Byte) (s : State),
     judgedAt .all f s → f.args = [a, b] → s.pcu.run = .stopped → s.pcu.haltSeen = false → (be16 a b = 0 ∨ 4095 < be16 a b)
       →
     exec (.back f) s = .next (refuse 4 .badArg (frameTaken f.src s))) ∧
  (∀ (f : OrderFrame) (a : Byte) (b : Byte) (s : State),
     judgedAt .all f s → f.args = [a, b] → s.pcu.run = .stopped → s.pcu.haltSeen = false → 1 ≤ be16 a b → be16 a b ≤ 4095 →
       isAxis s = true → s.axu.originValid = false →
     exec (.back f) s = .next (refuse 4 .noOrigin (frameTaken f.src s))) ∧
  (∀ (f : OrderFrame) (a : Byte) (b : Byte) (s : State),
     judgedAt .all f s → f.args = [a, b] → s.pcu.run = .stopped → s.pcu.haltSeen = false → 1 ≤ be16 a b → be16 a b ≤ 4095 →
       (isAxis s = false ∨ s.axu.originValid = true) → agreementWaiting s = true →
     exec (.back f) s = .next ({ frameTaken f.src s with
         pcu := { s.pcu with
             run := .traversingBack, win := .preparing, pendingStop := none, starve := .stopped,
             traversal := some ⟨.back, be16 a b, none, false⟩ },
         ord := { s.ord with counter := s.ord.counter + 1, setupOpen := false } })) ∧
  (∀ (f : OrderFrame) (a : Byte) (b : Byte) (s : State) (t : Cursor) (lim : Bool),
     judgedAt .all f s → f.args = [a, b] → s.pcu.run = .stopped → s.pcu.haltSeen = false → 1 ≤ be16 a b → be16 a b ≤ 4095 →
       (isAxis s = false ∨ s.axu.originValid = true) → agreementWaiting s = false → (backTarget s.drg s.pcu.cursor (be16 a
       b), false) = (t, lim) → t ≠ s.pcu.cursor →
     ∃ u, exec (.back f) s = .next u ∧
       (u.pcu.win = .ready ∨ u.pcu.win = .preparing) ∧
       (u.pcu.win = .ready ↔ s.pcu.edge = .settled ∧ roleReady s = true) ∧
       u = { frameTaken f.src s with
           pcu := { s.pcu with
               run := .traversingBack, win := u.pcu.win,
               next := if u.pcu.win = .ready then ((nextBack s.drg s.pcu.cursor).map fun m => ⟨.retreat (m.1 + 1), m.2⟩)
                 else s.pcu.next, pace := if u.pcu.win = .ready then false else s.pcu.pace,
               stall := if u.pcu.win = .ready then .running (s.params.stallTime * 100000) else s.pcu.stall,
               pendingStop := none, starve := .stopped, traversal := some ⟨.back, be16 a b, some t, lim⟩ },
           ord := { s.ord with counter := s.ord.counter + 1, setupOpen := false } }) ∧
  (∀ (f : OrderFrame) (a : Byte) (b : Byte) (s : State) (lim : Bool),
     judgedAt .all f s → f.args = [a, b] → s.pcu.run = .stopped → s.pcu.haltSeen = false → 1 ≤ be16 a b → be16 a b ≤ 4095 →
       (isAxis s = false ∨ s.axu.originValid = true) → agreementWaiting s = false → (backTarget s.drg s.pcu.cursor (be16 a
       b), false) = (s.pcu.cursor, lim) →
     ∃ u, exec (.back f) s = .next u ∧
       u.pcu.run = .stopped ∧
       u.pcu.stopReason = (if lim then .designEnd else .traverseDone) ∧
       u.pcu.haltPulse = .running 50 ∧
       u.pcu.cursor = s.pcu.cursor ∧
       u.pcu.traversal = none ∧
       u.pcu.win = .preparing ∧
       u.pcu.pace = true ∧
       u.pcu.preparePending = false ∧
       u.pcu.setRate = s.pcu.setRate ∧
       u.pcu.workRate = s.pcu.workRate ∧
       u = { frameTaken f.src s with
           pcu := u.pcu, ptb := u.ptb, liu := (beaconFallsDue (frameTaken f.src s)).liu,
           ord := { s.ord with counter := s.ord.counter + 1, setupOpen := false } })

/-- FORWARD k: its checks in order, its target, and the traversal that ends at once (R26, R37, R145, R146, R149, R151,
R174). -/
def Obligations.ForwardOrder : Prop :=
  (∀ (f : OrderFrame) (a : Byte) (b : Byte) (s : State),
     judgedAt .all f s → f.args = [a, b] → s.pcu.run ≠ .stopped →
     exec (.forward f) s = .next (refuse 5 .notStopped (frameTaken f.src s))) ∧
  (∀ (f : OrderFrame) (a : Byte) (b : Byte) (s : State),
     judgedAt .all f s → f.args = [a, b] → s.pcu.run = .stopped → s.pcu.haltSeen = true →
     exec (.forward f) s = .next (refuse 5 .halted (frameTaken f.src s))) ∧
  (∀ (f : OrderFrame) (a : Byte) (b : Byte) (s : State),
     judgedAt .all f s → f.args = [a, b] → s.pcu.run = .stopped → s.pcu.haltSeen = false → (be16 a b = 0 ∨ 4095 < be16 a b)
       →
     exec (.forward f) s = .next (refuse 5 .badArg (frameTaken f.src s))) ∧
  (∀ (f : OrderFrame) (a : Byte) (b : Byte) (s : State),
     judgedAt .all f s → f.args = [a, b] → s.pcu.run = .stopped → s.pcu.haltSeen = false → 1 ≤ be16 a b → be16 a b ≤ 4095 →
       isAxis s = true → s.axu.originValid = false →
     exec (.forward f) s = .next (refuse 5 .noOrigin (frameTaken f.src s))) ∧
  (∀ (f : OrderFrame) (a : Byte) (b : Byte) (s : State),
     judgedAt .all f s → f.args = [a, b] → s.pcu.run = .stopped → s.pcu.haltSeen = false → 1 ≤ be16 a b → be16 a b ≤ 4095 →
       (isAxis s = false ∨ s.axu.originValid = true) → agreementWaiting s = true →
     exec (.forward f) s = .next ({ frameTaken f.src s with
         pcu := { s.pcu with
             run := .traversingForward, win := .preparing, pendingStop := none, starve := .stopped,
             traversal := some ⟨.forward, be16 a b, none, false⟩ },
         ord := { s.ord with counter := s.ord.counter + 1, setupOpen := false } })) ∧
  (∀ (f : OrderFrame) (a : Byte) (b : Byte) (s : State) (t : Cursor) (lim : Bool),
     judgedAt .all f s → f.args = [a, b] → s.pcu.run = .stopped → s.pcu.haltSeen = false → 1 ≤ be16 a b → be16 a b ≤ 4095 →
       (isAxis s = false ∨ s.axu.originValid = true) → agreementWaiting s = false → forwardTarget s.drg s.pcu.cursor (be16 a
       b) = (t, lim) → t ≠ s.pcu.cursor →
     ∃ u, exec (.forward f) s = .next u ∧
       (u.pcu.win = .ready ∨ u.pcu.win = .preparing) ∧
       (u.pcu.win = .ready ↔ s.pcu.edge = .settled ∧ roleReady s = true) ∧
       u = { frameTaken f.src s with
           pcu := { s.pcu with
               run := .traversingForward, win := u.pcu.win,
               next := if u.pcu.win = .ready then ((nextForward s.drg s.pcu.cursor).map fun m => ⟨.advance m.1, m.2⟩) else
                 s.pcu.next, pace := if u.pcu.win = .ready then false else s.pcu.pace,
               stall := if u.pcu.win = .ready then .running (s.params.stallTime * 100000) else s.pcu.stall,
               pendingStop := none, starve := .stopped, traversal := some ⟨.forward, be16 a b, some t, lim⟩ },
           ord := { s.ord with counter := s.ord.counter + 1, setupOpen := false } }) ∧
  (∀ (f : OrderFrame) (a : Byte) (b : Byte) (s : State) (lim : Bool),
     judgedAt .all f s → f.args = [a, b] → s.pcu.run = .stopped → s.pcu.haltSeen = false → 1 ≤ be16 a b → be16 a b ≤ 4095 →
       (isAxis s = false ∨ s.axu.originValid = true) → agreementWaiting s = false → forwardTarget s.drg s.pcu.cursor (be16 a
       b) = (s.pcu.cursor, lim) →
     ∃ u, exec (.forward f) s = .next u ∧
       u.pcu.run = .stopped ∧
       u.pcu.stopReason = (if lim then .designEnd else .traverseDone) ∧
       u.pcu.haltPulse = .running 50 ∧
       u.pcu.cursor = s.pcu.cursor ∧
       u.pcu.traversal = none ∧
       u.pcu.win = .preparing ∧
       u.pcu.pace = true ∧
       u.pcu.preparePending = false ∧
       u.pcu.setRate = s.pcu.setRate ∧
       u.pcu.workRate = s.pcu.workRate ∧
       u = { frameTaken f.src s with
           pcu := u.pcu, ptb := u.ptb, liu := (beaconFallsDue (frameTaken f.src s)).liu,
           ord := { s.ord with counter := s.ord.counter + 1, setupOpen := false } })

/-- The targets of BACK k and FORWARD k count held displacement records, and the next window is over the first of them
(R147, R148, R150, R151). Where the cursor has step STROKE at a record that the ring does not hold, the frontier takes that
record as behind it: the model's reading, log entry 13. -/
def Obligations.TraversalTargetsCountDisplacements : Prop :=
  (∀ (r : Ring) (c : Cursor) (k : Nat), 1 ≤ k →
    (ringL r < frontier r c ∨ displacementsIn r r.F (frontier r c) = 0 → backTarget r c k = c) ∧
    (frontier r c ≤ ringL r → 0 < displacementsIn r r.F (frontier r c) →
      ∃ m x, backTarget r c k = ⟨m, .first⟩ ∧ m < frontier r c ∧ ringGet r m = some x ∧ isDisplacement x = true ∧
        displacementsIn r m (frontier r c) = min k (displacementsIn r r.F (frontier r c)))) ∧
  (∀ (r : Ring) (c : Cursor) (k p : Nat), 1 ≤ k → r.F ≤ frontier r c → frontier r c ≤ p →
    (∀ j < p, frontier r c ≤ j → (ringGet r j).any (fun x => !isEnd x) = true) → (ringGet r p).all isEnd = true →
    ((forwardTarget r c k).2 = true ↔ (ringGet r p).isSome = true ∧ displacementsIn r (frontier r c) p < k) ∧
    (displacementsIn r (frontier r c) p = 0 → (forwardTarget r c k).1 = c) ∧
    (0 < displacementsIn r (frontier r c) p →
      ∃ m x, (forwardTarget r c k).1 = (if isStitch x then ⟨m, .stroke⟩ else ⟨m + 1, .first⟩) ∧ frontier r c ≤ m ∧ m < p ∧
        ringGet r m = some x ∧ isDisplacement x = true ∧
        displacementsIn r (frontier r c) (m + 1) = min k (displacementsIn r (frontier r c) p))) ∧
  (∀ (r : Ring) (c : Cursor) (m : Nat) (x : Rec), nextBack r c = some (m, x) ↔
    m < frontier r c ∧ ringGet r m = some x ∧ isDisplacement x = true ∧
      ∀ j, m < j → j < frontier r c → (ringGet r j).any (fun y => !isDisplacement y) = true) ∧
  (∀ (r : Ring) (c : Cursor) (m : Nat) (x : Rec), nextForward r c = some (m, x) ↔
    frontier r c ≤ m ∧ ringGet r m = some x ∧ isDisplacement x = true ∧
      ∀ j, frontier r c ≤ j → j < m → (ringGet r j).any (fun y => !isDisplacement y) = true)

/-- HOME: its checks in order, and homing begins or succeeds at once (R80, R81, R82, R84, R173, R174). -/
def Obligations.HomeOrder : Prop :=
  (∀ (f : OrderFrame) (s : State) (sw : Bool),
     judgedAt .axisOnly f s → f.args = [] → (s.pcu.run ≠ .stopped ∨ s.axu.op.isSome = true) →
     exec (.home f sw) s = .next (refuse 6 .notStopped (frameTaken f.src s))) ∧
  (∀ (f : OrderFrame) (s : State) (sw : Bool),
     judgedAt .axisOnly f s → f.args = [] → s.pcu.run = .stopped → s.axu.op = none → s.pcu.haltSeen = true →
       ownHaltAllowsHome (frameTaken f.src s) = false →
     exec (.home f sw) s = .next (refuse 6 .halted (frameTaken f.src s))) ∧
  (∀ (f : OrderFrame) (s : State),
     judgedAt .axisOnly f s → f.args = [] → s.pcu.run = .stopped → s.axu.op = none → (s.pcu.haltSeen = false ∨
       ownHaltAllowsHome (frameTaken f.src s) = true) →
     ∃ u, exec (.home f false) s = .next u ∧
       u.flt.axisMark = s.flt.axisMark ∧
       (if s.axu.homing = .homed then raisedIn .notHomed 0 0 (frameTaken f.src s) u else faultRec .notHomed u = faultRec
         .notHomed (frameTaken f.src s)) ∧
       (∀ c : FaultCode, c ≠ .notHomed → faultRec c u = faultRec c (frameTaken f.src s)) ∧
       u.flt.supply = s.flt.supply ∧
       u = { frameTaken f.src s with
           flt := u.flt, ord := { s.ord with counter := s.ord.counter + 1, setupOpen := false },
           axu := { s.axu with
               homing := .homing, op := some (.homing 0), homeSwitch := false,
               dir := some (if s.params.homeDir = 0 then .negative else .positive) } }) ∧
  (∀ (f : OrderFrame) (s : State),
     judgedAt .axisOnly f s → f.args = [] → s.pcu.run = .stopped → s.axu.op = none → (s.pcu.haltSeen = false ∨
       ownHaltAllowsHome (frameTaken f.src s) = true) →
     ∃ u, exec (.home f true) s = .next u ∧
       u.flt.axisMark = s.flt.axisMark ∧
       (faultRec .notHomed u).latched = false ∧
       (∀ c : FaultCode, c ≠ .notHomed → faultRec c u = faultRec c (frameTaken f.src s)) ∧
       u.flt.supply = s.flt.supply ∧
       u = { frameTaken f.src s with
           flt := u.flt, ord := { s.ord with counter := s.ord.counter + 1, setupOpen := false },
           axu := { s.axu with
               homing := .homed, op := none, homeSwitch := true, pf := s.params.homeOffset,
               sPos := s.params.homeOffset * s.params.p / 100, excursion := true,
               dir := some (if s.params.homeDir = 0 then .negative else .positive) } })

/-- MOVETO: its checks in order, the clamped target in steps, and the operation (R80, R86, R90, R173, R174). -/
def Obligations.MovetoOrder : Prop :=
  (∀ (f : OrderFrame) (a : Byte) (b : Byte) (s : State),
     judgedAt .axisOnly f s → f.args = [a, b] → (s.pcu.run ≠ .stopped ∨ s.axu.op.isSome = true) →
     exec (.moveto f) s = .next (refuse 7 .notStopped (frameTaken f.src s))) ∧
  (∀ (f : OrderFrame) (a : Byte) (b : Byte) (s : State),
     judgedAt .axisOnly f s → f.args = [a, b] → s.pcu.run = .stopped → s.axu.op = none → s.pcu.haltSeen = true →
     exec (.moveto f) s = .next (refuse 7 .halted (frameTaken f.src s))) ∧
  (∀ (f : OrderFrame) (a : Byte) (b : Byte) (s : State),
     judgedAt .axisOnly f s → f.args = [a, b] → s.pcu.run = .stopped → s.axu.op = none → s.pcu.haltSeen = false → (min
       s.params.lmax (max (signed16 a b) s.params.lmin)) * s.params.p / 100 = s.axu.sPos →
     exec (.moveto f) s = .next ({ frameTaken f.src s with
         ord := { s.ord with counter := s.ord.counter + 1, setupOpen := false },
         axu := { s.axu with
             sPos := (min s.params.lmax (max (signed16 a b) s.params.lmin)) * s.params.p / 100,
             pf := (min s.params.lmax (max (signed16 a b) s.params.lmin)), op := none, excursion := true } })) ∧
  (∀ (f : OrderFrame) (a : Byte) (b : Byte) (s : State),
     judgedAt .axisOnly f s → f.args = [a, b] → s.pcu.run = .stopped → s.axu.op = none → s.pcu.haltSeen = false → (min
       s.params.lmax (max (signed16 a b) s.params.lmin)) * s.params.p / 100 ≠ s.axu.sPos →
     exec (.moveto f) s = .next ({ frameTaken f.src s with
         ord := { s.ord with counter := s.ord.counter + 1, setupOpen := false },
         axu := { s.axu with
             op := some (.moveto (min s.params.lmax (max (signed16 a b) s.params.lmin)) ((min s.params.lmax (max (signed16 a
               b) s.params.lmin)) * s.params.p / 100) ((min s.params.lmax (max (signed16 a b) s.params.lmin)) * s.params.p /
               100 - s.axu.sPos) 0),
             dir := some (if (min s.params.lmax (max (signed16 a b) s.params.lmin)) * s.params.p / 100 - s.axu.sPos < 0 then
               .negative else .positive) } }))

/-- ORIGIN: its checks in order, and the origin is tied to the frame position (R85, R173). -/
def Obligations.OriginOrder : Prop :=
  (∀ (f : OrderFrame) (s : State),
     judgedAt .axisOnly f s → f.args = [] → (s.pcu.run ≠ .stopped ∨ s.axu.op.isSome = true) →
     exec (.origin f) s = .next (refuse 8 .notStopped (frameTaken f.src s))) ∧
  (∀ (f : OrderFrame) (s : State),
     judgedAt .axisOnly f s → f.args = [] → s.pcu.run = .stopped → s.axu.op = none → s.axu.homing ≠ .homed →
     exec (.origin f) s = .next (refuse 8 .halted (frameTaken f.src s))) ∧
  (∀ (f : OrderFrame) (s : State),
     judgedAt .axisOnly f s → f.args = [] → s.pcu.run = .stopped → s.axu.op = none → s.axu.homing = .homed →
     ∃ u, exec (.origin f) s = .next u ∧
       faultRec .originLost u = { faultRec .originLost (frameTaken f.src s) with latched := false } ∧
       (∀ c : FaultCode, c ≠ .originLost → faultRec c u = faultRec c (frameTaken f.src s)) ∧
       u.flt.supply = s.flt.supply ∧
       u.flt.axisMark = s.flt.axisMark ∧
       u = countAccepted { frameTaken f.src s with
           flt := u.flt,
           axu := { s.axu with
               pc := s.axu.pf, originPos := s.axu.pf, originCursor := s.pcu.cursor, originValid := true,
               excursion := false, clampFlag := false } })

/-- SETMAP: its checks in order, and each colour takes the needle of its last pair (R104, R173, R189). -/
def Obligations.SetmapOrder : Prop :=
  (∀ (f : OrderFrame) (ps : List (Nat × Nat)) (s : State),
     judgedAt .headOnly f s → parsePairs f.args = some ps → s.pcu.run ≠ .stopped →
     exec (.setmap f) s = .next (refuse 9 .notStopped (frameTaken f.src s))) ∧
  (∀ (f : OrderFrame) (ps : List (Nat × Nat)) (s : State),
     judgedAt .headOnly f s → parsePairs f.args = some ps → s.pcu.run = .stopped → (ps = [] ∨ 32 < ps.length ∨ ∃ p ∈ ps, 31
       < p.1 ∨ s.params.needles < p.2) →
     exec (.setmap f) s = .next (refuse 9 .badArg (frameTaken f.src s))) ∧
  (∀ (f : OrderFrame) (ps : List (Nat × Nat)) (s : State),
     judgedAt .headOnly f s → parsePairs f.args = some ps → s.pcu.run = .stopped → ps ≠ [] → ps.length ≤ 32 → (∀ p ∈ ps, p.1
       ≤ 31 ∧ p.2 ≤ s.params.needles) →
     ∃ u, exec (.setmap f) s = .next u ∧
       (∀ colour : Fin 32, u.slu.map[colour] = ((ps.filter fun p => p.1 == colour.val).getLast?.map Prod.snd).getD
         s.slu.map[colour]) ∧
       u = countAccepted { frameTaken f.src s with slu := { s.slu with map := u.slu.map } })

/-- SETNEEDLE, HEAD-ON and HEAD-OFF record pending changes; withholding turns at the acceptance (R105, R106, R122, R163,
R173). -/
def Obligations.HeadPendingOrders : Prop :=
  (∀ (f : OrderFrame) (q : SetNeedle) (s : State),
     judgedAt .headOnly f s → parseSetNeedle f.args = some q → (q.needle = 0 ∨ s.params.needles < q.needle) →
     exec (.setneedle f) s = .next (refuse 10 .badArg (frameTaken f.src s))) ∧
  (∀ (f : OrderFrame) (q : SetNeedle) (s : State),
     judgedAt .headOnly f s → parseSetNeedle f.args = some q → 1 ≤ q.needle → q.needle ≤ s.params.needles → s.params.needles
       ≤ 15 →
     ∃ u, exec (.setneedle f) s = .next u ∧
       (∀ i : Fin 15, u.slu.pendingNeedles[i] = if i.val + 1 = q.needle then ⟨some q.state, s.slu.pendingNeedles[i].clear ||
         q.clear⟩ else s.slu.pendingNeedles[i]) ∧
       u = countAccepted { frameTaken f.src s with slu := { s.slu with pendingNeedles := u.slu.pendingNeedles } }) ∧
  (∀ (f : OrderFrame) (s : State),
     judgedAt .headOnly f s → f.args = [] →
     ∃ u, exec (.headOn f) s = .next u ∧
       (∀ c : FaultCode, withheld c u = false) ∧
       u = countAccepted { frameTaken f.src s with stu := { s.stu with pendingPart := some .enabled } }) ∧
  (∀ (f : OrderFrame) (s : State),
     judgedAt .headOnly f s → f.args = [] →
     ∃ u, exec (.headOff f) s = .next u ∧
       (∀ c : FaultCode, withheld c u = true ↔ c ∈ [FaultCode.driveFail, .selectorJam, .needleUnmapped, .threadBreak,
         .threadSnag, .bobbinEmpty, .tensionLoose, .tensionTight, .bobbinLow]) ∧
       u = countAccepted { frameTaken f.src s with stu := { s.stu with pendingPart := some .off } })

/-- BOBBIN loads the counter; the end of a stroke counts it down, with BOBBIN-LOW and BOBBIN-EMPTY (R130, R131, R140, R141,
R173). -/
def Obligations.BobbinCounter : Prop :=
  (∀ (f : OrderFrame) (a : Byte) (b : Byte) (c : Byte) (s : State),
     judgedAt .headOnly f s → f.args = [a, b, c] → be24 a b c = 0 →
     exec (.bobbin f) s = .next (refuse 13 .badArg (frameTaken f.src s))) ∧
  (∀ (f : OrderFrame) (a : Byte) (b : Byte) (c : Byte) (s : State),
     judgedAt .headOnly f s → f.args = [a, b, c] → be24 a b c ≠ 0 →
     ∃ u, exec (.bobbin f) s = .next u ∧
       (faultRec .bobbinEmpty u = { faultRec .bobbinEmpty (frameTaken f.src s) with latched := false }) ∧
       (faultRec .bobbinLow u = if be24 a b c < s.params.bobbinWarn * 10000 then raisedRec (faultRec .bobbinLow (frameTaken
         f.src s)).action (BitVec.ofNat 8 (min (be24 a b c / 10000) 255)) 0 { faultRec .bobbinLow (frameTaken f.src s) with
           latched := false } else { faultRec .bobbinLow (frameTaken f.src s) with latched := false }) ∧
       (∀ d : FaultCode, d ≠ .bobbinEmpty ∧ d ≠ .bobbinLow → faultRec d u = faultRec d (frameTaken f.src s)) ∧
       u.flt.supply = s.flt.supply ∧
       u.flt.axisMark = s.flt.axisMark ∧
       u = countAccepted { frameTaken f.src s with
           flt := u.flt, thm := { s.thm with bobbin := some (be24 a b c), lastLoaded := some (be24 a b c) } }) ∧
  (∀ (t : Nat) (late : Bool) (b : Nat) (s : State),
     inService s = true → isHead s = true → s.stu.phase = .upstroke → s.thm.sample = some ⟨t, late⟩ → s.thm.bobbin = some b
       →
     ∃ u, exec (.needleUpSeen) s = .next u ∧
       u.flt.axisMark = s.flt.axisMark ∧
       u.flt.supply = s.flt.supply ∧
       u.thm.bobbin = some (b - (stitchLength s.stu.copy * s.params.kl / 16 + s.params.kbob)) ∧
       u.thm.lastLoaded = s.thm.lastLoaded ∧
       (if s.params.bobbinWarn * 10000 ≤ b ∧ b - bobbinThread s.params s.stu.copy < s.params.bobbinWarn * 10000 then
         raisedIn .bobbinLow (BitVec.ofNat 8 (min ((b - bobbinThread s.params s.stu.copy) / 10000) 255)) 0 s u else faultRec
         .bobbinLow u = faultRec .bobbinLow s) ∧
       (if b - bobbinThread s.params s.stu.copy = 0 then raisedIn .bobbinEmpty 0 0 s u else faultRec .bobbinEmpty u =
         faultRec .bobbinEmpty s)) ∧
  (∀ (t : Nat) (late : Bool) (s : State),
     inService s = true → isHead s = true → s.stu.phase = .upstroke → s.thm.sample = some ⟨t, late⟩ → s.thm.bobbin = none →
     ∃ u, exec (.needleUpSeen) s = .next u ∧
       u.flt.axisMark = s.flt.axisMark ∧
       u.flt.supply = s.flt.supply ∧
       u.thm.bobbin = none ∧
       faultRec .bobbinLow u = faultRec .bobbinLow s ∧
       faultRec .bobbinEmpty u = faultRec .bobbinEmpty s) ∧
  (∀ (v : BitVec 10) (b : Nat) (s : State),
     inService s = true → s.stu.phase = .sampling → s.thm.conv ≠ .none → s.thm.bobbin = some b →
     ∃ u, exec (.conversionEnd v) s = .next u ∧
       u.flt.axisMark = s.flt.axisMark ∧
       u.flt.supply = s.flt.supply ∧
       u.thm.bobbin = some (b - (stitchLength s.stu.copy * s.params.kl / 16 + s.params.kbob)) ∧
       u.thm.lastLoaded = s.thm.lastLoaded ∧
       (if s.params.bobbinWarn * 10000 ≤ b ∧ b - bobbinThread s.params s.stu.copy < s.params.bobbinWarn * 10000 then
         raisedIn .bobbinLow (BitVec.ofNat 8 (min ((b - bobbinThread s.params s.stu.copy) / 10000) 255)) 0 s u else faultRec
         .bobbinLow u = faultRec .bobbinLow s) ∧
       (if b - bobbinThread s.params s.stu.copy = 0 then raisedIn .bobbinEmpty 0 0 s u else faultRec .bobbinEmpty u =
         faultRec .bobbinEmpty s)) ∧
  (∀ (v : BitVec 10) (s : State),
     inService s = true → s.stu.phase = .sampling → s.thm.conv ≠ .none → s.thm.bobbin = none →
     ∃ u, exec (.conversionEnd v) s = .next u ∧
       u.flt.axisMark = s.flt.axisMark ∧
       u.flt.supply = s.flt.supply ∧
       u.thm.bobbin = none ∧
       faultRec .bobbinLow u = faultRec .bobbinLow s ∧
       faultRec .bobbinEmpty u = faultRec .bobbinEmpty s)

/-- SETSEG: its checks in order, the ring and the loader seated at r, and what NEW adds (R15, R52, R57, R71, R72, R73, R96).
That the mark of the first agreement after joining is dropped with the agreement it stood for is log entry 15. -/
def Obligations.SetsegOrder : Prop :=
  (∀ (f : OrderFrame) (q : SetSeg) (s : State),
     judgedAt .all f s → parseSetSeg f.args = some q → s.pcu.run ≠ .stopped →
     exec (.setseg f) s = .next (refuse 14 .notStopped (frameTaken f.src s))) ∧
  (∀ (f : OrderFrame) (q : SetSeg) (s : State),
     judgedAt .all f s → parseSetSeg f.args = some q → s.pcu.run = .stopped → s.dld.state = .lockout →
     exec (.setseg f) s = .next (refuse 14 .lockout (frameTaken f.src s))) ∧
  (∀ (f : OrderFrame) (q : SetSeg) (s : State),
     judgedAt .all f s → parseSetSeg f.args = some q → s.pcu.run = .stopped → s.dld.state ≠ .lockout → 31 < q.base →
     exec (.setseg f) s = .next (refuse 14 .badArg (frameTaken f.src s))) ∧
  (∀ (f : OrderFrame) (q : SetSeg) (s : State),
     judgedAt .all f s → parseSetSeg f.args = some q → s.pcu.run = .stopped → s.dld.state ≠ .lockout → q.base ≤ 31 → q.new =
       false → s.pcu.cursor.n < q.r →
     exec (.setseg f) s = .next (refuse 14 .range (frameTaken f.src s))) ∧
  (∀ (f : OrderFrame) (q : SetSeg) (s : State),
     judgedAt .all f s → parseSetSeg f.args = some q → s.pcu.run = .stopped → s.dld.state ≠ .lockout → q.base ≤ 31 → q.new =
       false → q.r ≤ s.pcu.cursor.n →
     exec (.setseg f) s = .next (countAccepted { frameTaken f.src s with
         drg := ⟨q.r, [], [], q.base⟩,
         dld := { s.dld with state := .opened, waitCause := .none, v := q.v, designId := q.designId, resend := false } })) ∧
  (∀ (f : OrderFrame) (q : SetSeg) (s : State),
     judgedAt .all f s → parseSetSeg f.args = some q → s.pcu.run = .stopped → s.dld.state ≠ .lockout → q.base ≤ 31 → q.new =
       true →
     ∃ u, exec (.setseg f) s = .next u ∧
       (if isAxis s then raisedIn .originLost 0 0 (frameTaken f.src s) u else faultRec .originLost u = faultRec .originLost
         (frameTaken f.src s)) ∧
       (∀ c : FaultCode, c ≠ .originLost → faultRec c u = faultRec c (frameTaken f.src s)) ∧
       u.flt.supply = s.flt.supply ∧
       u.flt.axisMark = s.flt.axisMark ∧
       (∀ i : Station, u.ptb.peers[i] = { (frameTaken f.src s).ptb.peers[i] with qualified := false }) ∧
       u.ptb.joined = s.ptb.joined ∧
       u = countAccepted { frameTaken f.src s with
           drg := ⟨q.r, [], [], q.base⟩,
           dld := { s.dld with state := .opened, waitCause := .none, v := q.v, designId := q.designId, resend := false },
           flt := u.flt, ptb := u.ptb,
           pcu := { s.pcu with
               cursor := ⟨q.r, .first⟩, joinAgreement := false,
               agreement := if (pacingPeers s).isEmpty then .stopped else .running 100000 },
           stu := if isHead s then { s.stu with C := q.r } else s.stu,
           axu := if isAxis s then { s.axu with originValid := false } else s.axu })

/-- RESUME-LOAD reopens the loader and releases LOAD-LOCKOUT; SETACTION writes the action alone (R74, R158, R159, R161,
R162, R173). -/
def Obligations.ResumeLoadAndSetactionOrders : Prop :=
  (∀ (f : OrderFrame) (s : State),
     judgedAt .all f s → f.args = [] → s.pcu.run = .cut →
     exec (.resumeLoad f) s = .next (refuse 15 .halted (frameTaken f.src s))) ∧
  (∀ (f : OrderFrame) (s : State),
     judgedAt .all f s → f.args = [] → s.pcu.run ≠ .cut →
     ∃ u, exec (.resumeLoad f) s = .next u ∧
       (faultRec .loadLockout u = if s.dld.state = .lockout then { faultRec .loadLockout (frameTaken f.src s) with
           latched := false } else faultRec .loadLockout (frameTaken f.src s)) ∧
       (∀ c : FaultCode, c ≠ .loadLockout → faultRec c u = faultRec c (frameTaken f.src s)) ∧
       u.flt.supply = s.flt.supply ∧
       u.flt.axisMark = s.flt.axisMark ∧
       u = countAccepted { frameTaken f.src s with
           flt := u.flt, dld := { s.dld with state := .opened, lockReason := .none, waitCause := .none, resend := false } }) ∧
  (∀ (f : OrderFrame) (q : FaultCode × Action) (s : State),
     judgedAt .all f s → parseSetAction f.args = some q →
     ∃ u, exec (.setaction f) s = .next u ∧
       faultRec q.1 u = { faultRec q.1 (frameTaken f.src s) with action := q.2 } ∧
       (∀ c : FaultCode, c ≠ q.1 → faultRec c u = faultRec c (frameTaken f.src s)) ∧
       u.flt.supply = s.flt.supply ∧
       u.flt.axisMark = s.flt.axisMark ∧
       u = countAccepted { frameTaken f.src s with flt := u.flt })

/-- CLEAR unlatches what it names where no condition is present; SELECTOR-JAM asks for a freed selector (R45, R46, R48, R53,
R107, R113, R158, R159, R161, R189). That all counts as naming PEER-LOST, and names SELECTOR-JAM without the refusal, is log
entry 28; one roster check for all records made ABSENT, 43. -/
def Obligations.ClearOrder : Prop :=
  (∀ (f : OrderFrame) (cs : List FaultCode) (lines : CodeLines) (s : State),
     judgedAt .all f s → parseClear f.args = some (.codes cs) → .selectorJam ∉ cs → .peerLost ∉ cs →
     ∃ u, exec (.clear f lines) s = .next u ∧
       (∀ c : FaultCode, faultRec c u = if c ∈ cs ∧ (faultRec c (frameTaken f.src s)).latched = true ∧ condition c
         (frameTaken f.src s) = false then { faultRec c (frameTaken f.src s) with latched := false } else faultRec c
         (frameTaken f.src s)) ∧
       u.flt.supply = s.flt.supply ∧
       u.flt.axisMark = s.flt.axisMark ∧
       u = countAccepted { frameTaken f.src s with flt := u.flt }) ∧
  (∀ (f : OrderFrame) (cs : List FaultCode) (lines : CodeLines) (s : State),
     judgedAt .all f s → parseClear f.args = some (.codes cs) → .selectorJam ∈ cs → (s.slu.sel ≠ .jammed ∨ readCode
       s.params.needles s.slu.detent lines = none) →
     exec (.clear f lines) s = .next (refuse 16 .notJammed (frameTaken f.src s))) ∧
  (∀ (f : OrderFrame) (cs : List FaultCode) (lines : CodeLines) (q : Nat) (s : State),
     judgedAt .all f s → parseClear f.args = some (.codes cs) → .selectorJam ∈ cs → .peerLost ∉ cs → s.slu.sel = .jammed →
       readCode s.params.needles s.slu.detent lines = some q →
     ∃ u, exec (.clear f lines) s = .next u ∧
       (faultRec .selectorJam u).latched = false ∧
       (∀ c : FaultCode, faultRec c u = if c ∈ cs ∧ (faultRec c (frameTaken f.src s)).latched = true ∧ (c = .selectorJam ∨
         condition c (frameTaken f.src s) = false) then { faultRec c (frameTaken f.src s) with latched := false } else
         faultRec c (frameTaken f.src s)) ∧
       u.flt.supply = s.flt.supply ∧
       u.flt.axisMark = s.flt.axisMark ∧
       u = countAccepted { frameTaken f.src s with flt := u.flt, slu := { s.slu with sel := .settled q, counter := q } }) ∧
  (∀ (f : OrderFrame) (cs : List FaultCode) (lines : CodeLines) (s : State),
     judgedAt .all f s → parseClear f.args = some (.codes cs) → .selectorJam ∉ cs → .peerLost ∈ cs → (agreementWaiting s =
       false ∨ (∀ i : Station, s.ptb.peers[i].presence ≠ .silent) ∨ ∃ p ∈ pacingPeers s, p.2.qualified = false) →
     ∃ u, exec (.clear f lines) s = .next u ∧
       (∀ c : FaultCode, c ≠ .frameRoster → faultRec c u = if c ∈ cs ∧ (faultRec c (frameTaken f.src s)).latched = true ∧
         condition c (frameTaken f.src s) = false then { faultRec c (frameTaken f.src s) with latched := false } else
         faultRec c (frameTaken f.src s)) ∧
       (u.flt.axisMark = if (faultRec .peerLost (frameTaken f.src s)).latched then false else s.flt.axisMark) ∧
       (∀ i : Station, u.ptb.peers[i] = if s.ptb.peers[i].presence = .silent then { (frameTaken f.src s).ptb.peers[i] with
           presence := .absent } else (frameTaken f.src s).ptb.peers[i]) ∧
       (faultRec .frameRoster u = if s.ptb.joined = true ∧ (∃ i : Station, s.ptb.peers[i].presence = .silent) then (if
         rosterRight u then { faultRec .frameRoster (frameTaken f.src s) with latched := false } else raisedRec (faultRec
         .frameRoster (frameTaken f.src s)).action (octetSat (rosterCount .axisX u)) (octetSat (rosterCount .axisY u))
         (faultRec .frameRoster (frameTaken f.src s))) else if .frameRoster ∈ cs ∧ (faultRec .frameRoster (frameTaken f.src
         s)).latched = true ∧ condition .frameRoster (frameTaken f.src s) = false then { faultRec .frameRoster (frameTaken
         f.src s) with latched := false } else faultRec .frameRoster (frameTaken f.src s)) ∧
       u.flt.supply = s.flt.supply ∧
       u.ptb.joined = s.ptb.joined ∧
       u = countAccepted { frameTaken f.src s with flt := u.flt, ptb := u.ptb }) ∧
  (∀ (f : OrderFrame) (cs : List FaultCode) (lines : CodeLines) (q : Nat) (s : State),
     judgedAt .all f s → parseClear f.args = some (.codes cs) → .selectorJam ∈ cs → .peerLost ∈ cs → s.slu.sel = .jammed →
       readCode s.params.needles s.slu.detent lines = some q → (agreementWaiting s = false ∨ (∀ i : Station,
       s.ptb.peers[i].presence ≠ .silent) ∨ ∃ p ∈ pacingPeers s, p.2.qualified = false) →
     ∃ u, exec (.clear f lines) s = .next u ∧
       (∀ c : FaultCode, c ≠ .frameRoster → faultRec c u = if c ∈ cs ∧ (faultRec c (frameTaken f.src s)).latched = true ∧ (c
         = .selectorJam ∨ condition c (frameTaken f.src s) = false) then { faultRec c (frameTaken f.src s) with
           latched := false } else faultRec c (frameTaken f.src s)) ∧
       (u.flt.axisMark = if (faultRec .peerLost (frameTaken f.src s)).latched then false else s.flt.axisMark) ∧
       (∀ i : Station, u.ptb.peers[i] = if s.ptb.peers[i].presence = .silent then { (frameTaken f.src s).ptb.peers[i] with
           presence := .absent } else (frameTaken f.src s).ptb.peers[i]) ∧
       (faultRec .frameRoster u = if s.ptb.joined = true ∧ (∃ i : Station, s.ptb.peers[i].presence = .silent) then (if
         rosterRight u then { faultRec .frameRoster (frameTaken f.src s) with latched := false } else raisedRec (faultRec
         .frameRoster (frameTaken f.src s)).action (octetSat (rosterCount .axisX u)) (octetSat (rosterCount .axisY u))
         (faultRec .frameRoster (frameTaken f.src s))) else if .frameRoster ∈ cs ∧ (faultRec .frameRoster (frameTaken f.src
         s)).latched = true ∧ condition .frameRoster (frameTaken f.src s) = false then { faultRec .frameRoster (frameTaken
         f.src s) with latched := false } else faultRec .frameRoster (frameTaken f.src s)) ∧
       u.flt.supply = s.flt.supply ∧
       u.ptb.joined = s.ptb.joined ∧
       u = countAccepted { frameTaken f.src s with
           flt := u.flt, ptb := u.ptb, slu := { s.slu with sel := .settled q, counter := q } }) ∧
  (∀ (f : OrderFrame) (lines : CodeLines) (s : State),
     judgedAt .all f s → f.args = [0xFF] → (s.slu.sel ≠ .jammed ∨ readCode s.params.needles s.slu.detent lines = none) →
       (agreementWaiting s = false ∨ (∀ i : Station, s.ptb.peers[i].presence ≠ .silent) ∨ ∃ p ∈ pacingPeers s, p.2.qualified
       = false) →
     ∃ u, exec (.clear f lines) s = .next u ∧
       (∀ c : FaultCode, c ≠ .frameRoster → faultRec c u = if c ≠ .selectorJam ∧ (faultRec c (frameTaken f.src s)).latched =
         true ∧ condition c (frameTaken f.src s) = false then { faultRec c (frameTaken f.src s) with latched := false } else
         faultRec c (frameTaken f.src s)) ∧
       (u.flt.axisMark = if (faultRec .peerLost (frameTaken f.src s)).latched then false else s.flt.axisMark) ∧
       (∀ i : Station, u.ptb.peers[i] = if s.ptb.peers[i].presence = .silent then { (frameTaken f.src s).ptb.peers[i] with
           presence := .absent } else (frameTaken f.src s).ptb.peers[i]) ∧
       (faultRec .frameRoster u = if s.ptb.joined = true ∧ (∃ i : Station, s.ptb.peers[i].presence = .silent) then (if
         rosterRight u then { faultRec .frameRoster (frameTaken f.src s) with latched := false } else raisedRec (faultRec
         .frameRoster (frameTaken f.src s)).action (octetSat (rosterCount .axisX u)) (octetSat (rosterCount .axisY u))
         (faultRec .frameRoster (frameTaken f.src s))) else if (faultRec .frameRoster (frameTaken f.src s)).latched = true ∧
         condition .frameRoster (frameTaken f.src s) = false then { faultRec .frameRoster (frameTaken f.src s) with
           latched := false } else faultRec .frameRoster (frameTaken f.src s)) ∧
       u.flt.supply = s.flt.supply ∧
       u.ptb.joined = s.ptb.joined ∧
       u = countAccepted { frameTaken f.src s with flt := u.flt, ptb := u.ptb }) ∧
  (∀ (f : OrderFrame) (lines : CodeLines) (q : Nat) (s : State),
     judgedAt .all f s → f.args = [0xFF] → s.slu.sel = .jammed → readCode s.params.needles s.slu.detent lines = some q →
       (agreementWaiting s = false ∨ (∀ i : Station, s.ptb.peers[i].presence ≠ .silent) ∨ ∃ p ∈ pacingPeers s, p.2.qualified
       = false) →
     ∃ u, exec (.clear f lines) s = .next u ∧
       (∀ c : FaultCode, c ≠ .frameRoster → faultRec c u = if (faultRec c (frameTaken f.src s)).latched = true ∧ (c =
         .selectorJam ∨ condition c (frameTaken f.src s) = false) then { faultRec c (frameTaken f.src s) with
           latched := false } else faultRec c (frameTaken f.src s)) ∧
       (u.flt.axisMark = if (faultRec .peerLost (frameTaken f.src s)).latched then false else s.flt.axisMark) ∧
       (∀ i : Station, u.ptb.peers[i] = if s.ptb.peers[i].presence = .silent then { (frameTaken f.src s).ptb.peers[i] with
           presence := .absent } else (frameTaken f.src s).ptb.peers[i]) ∧
       (faultRec .frameRoster u = if s.ptb.joined = true ∧ (∃ i : Station, s.ptb.peers[i].presence = .silent) then (if
         rosterRight u then { faultRec .frameRoster (frameTaken f.src s) with latched := false } else raisedRec (faultRec
         .frameRoster (frameTaken f.src s)).action (octetSat (rosterCount .axisX u)) (octetSat (rosterCount .axisY u))
         (faultRec .frameRoster (frameTaken f.src s))) else if (faultRec .frameRoster (frameTaken f.src s)).latched = true ∧
         condition .frameRoster (frameTaken f.src s) = false then { faultRec .frameRoster (frameTaken f.src s) with
           latched := false } else faultRec .frameRoster (frameTaken f.src s)) ∧
       u.flt.supply = s.flt.supply ∧
       u.ptb.joined = s.ptb.joined ∧
       u = countAccepted { frameTaken f.src s with
           flt := u.flt, ptb := u.ptb, slu := { s.slu with sel := .settled q, counter := q } }) ∧
  (∀ s : State,
    condition .selfTest s = (faultRec .selfTest s).latched ∧
    condition .duplicateNumber s = (faultRec .duplicateNumber s).latched ∧
    (condition .supplyLow s = true ↔ s.flt.supply = .low ∨ s.flt.supply = .cut) ∧
    condition .needleStuck s = s.stu.needleHeld ∧
    (condition .driveFail s = true ↔ isAxis s = true ∧ s.axu.driveFault = true) ∧
    (condition .frameRoster s = true ↔ rosterCount .axisX s ≠ 1 ∨ rosterCount .axisY s ≠ 1) ∧
    (condition .notHomed s = true ↔ isAxis s = true ∧ s.axu.homing ≠ .homed) ∧
    (condition .originLost s = true ↔ isAxis s = true ∧ s.axu.originValid = false) ∧
    (condition .selectorJam s = true ↔ s.slu.sel = .jammed) ∧
    (condition .bobbinEmpty s = true ↔ s.thm.bobbin = some 0) ∧
    (condition .bobbinLow s = true ↔ ∃ b, s.thm.bobbin = some b ∧ b < s.params.bobbinWarn * 10000) ∧
    (condition .loadLockout s = true ↔ s.dld.state = .lockout) ∧
    (condition .supplyWarn s = true ↔ s.flt.supply ≠ .normal) ∧
    ∀ c ∈ [FaultCode.peerLost, .homeFail, .limitStitch, .needleUnmapped, .threadBreak, .threadSnag, .starved, .limitJump,
      .tensionLoose, .tensionTight, .outOfStep, .stall], condition c s = false)

/-- SETUP: its checks in order, and every named parameter takes its value (R84, R107, R174, R175, R189). That S and Pf keep
their values at an axis made UNHOMED, where R84 says only that they are no longer meaningful, is the model's choice, log
entry 25. -/
def Obligations.SetupOrder : Prop :=
  (∀ (f : OrderFrame) (es : List SetupEntry) (s : State),
     judgedAt .all f s → parseEntries f.args = some es → s.pcu.run ≠ .stopped →
     exec (.setup f) s = .next (refuse 18 .notStopped (frameTaken f.src s))) ∧
  (∀ (f : OrderFrame) (es : List SetupEntry) (s : State),
     judgedAt .all f s → parseEntries f.args = some es → s.pcu.run = .stopped → s.ord.setupOpen = false →
     exec (.setup f) s = .next (refuse 18 .setupClosed (frameTaken f.src s))) ∧
  (∀ (f : OrderFrame) (es : List SetupEntry) (s : State),
     judgedAt .all f s → parseEntries f.args = some es → s.pcu.run = .stopped → s.ord.setupOpen = true → (es = [] ∨ (∃ e ∈
       es, entryOk e = false) ∨ ¬ (es.map Prod.fst).Nodup) →
     exec (.setup f) s = .next (refuse 18 .badArg (frameTaken f.src s))) ∧
  (∀ (f : OrderFrame) (es : List SetupEntry) (s : State),
     judgedAt .all f s → parseEntries f.args = some es → s.pcu.run = .stopped → s.ord.setupOpen = true → es ≠ [] → (∀ e ∈
       es, entryOk e = true) → (es.map Prod.fst).Nodup → setupConsistent (applySetup s.params es) = false →
     exec (.setup f) s = .next (refuse 18 .badArg (frameTaken f.src s))) ∧
  (∀ (f : OrderFrame) (es : List SetupEntry) (s : State),
     judgedAt .all f s → parseEntries f.args = some es → s.pcu.run = .stopped → s.ord.setupOpen = true → es ≠ [] → (∀ e ∈
       es, entryOk e = true) → (es.map Prod.fst).Nodup → setupConsistent (applySetup s.params es) = true →
     ∃ u, exec (.setup f) s = .next u ∧
       u.flt.axisMark = s.flt.axisMark ∧
       (∀ q : Param, paramValue u.params q = ((es.find? fun e => paramOfOctet e.1 == some q).map Prod.snd).getD (paramValue
         s.params q)) ∧
       (if isAxis s ∧ setupNames es [.p, .lmin, .lmax, .homeDir, .homeRate, .homeOffset, .homeTravel] ∧ s.axu.homing =
         .homed then raisedIn .notHomed 0 0 (frameTaken f.src s) u else u.flt = (frameTaken f.src s).flt) ∧
       (∀ c : FaultCode, c ≠ .notHomed → faultRec c u = faultRec c (frameTaken f.src s)) ∧
       u.flt.supply = s.flt.supply ∧
       u = countAccepted { frameTaken f.src s with
           params := u.params, flt := u.flt,
           axu := if isAxis s ∧ setupNames es [.p, .lmin, .lmax, .homeDir, .homeRate, .homeOffset, .homeTravel] then { s.axu
             with homing := .unhomed } else s.axu,
           slu := if isHead s ∧ setupNames es [.needles] then { s.slu with sel := .unknown } else s.slu })

/-- RESTART: what it keeps, what takes its restart value, and the supply level it takes (R17, R41, R43, R77, R101, R120,
R143, R167, R170, R178). Log entries: 8, the restart values that the spec does not give; 23, a kept record keeps its fresh
mark, on which R170 is silent. -/
def Obligations.RestartOrder : Prop :=
  ∀ (f : OrderFrame) (s : State) (mv : Nat),
    judgedAt .all f s → f.args = [] →
    ∃ u, exec (.restart f mv) s = .next u ∧
      (∀ c : FaultCode, (faultRec c u).action = (faultRec c s).action) ∧
      (∀ c : FaultCode, c = .selfTest ∨ c = .duplicateNumber → faultRec c u = { faultRec c (frameTaken f.src s) with
          pending := (faultRec c (frameTaken f.src s)).pending || (faultRec c (frameTaken f.src s)).latched }) ∧
      (∀ c : FaultCode, c ≠ .selfTest ∧ c ≠ .duplicateNumber ∧ c ≠ .supplyLow ∧ c ≠ .supplyWarn → faultRec c u =
        FaultRec.clearedWith (faultRec c s).action) ∧
      (faultRec .supplyWarn u = if startingLevel mv = .normal then FaultRec.clearedWith (faultRec .supplyWarn s).action else
        raisedRec (faultRec .supplyWarn s).action 0 0 (FaultRec.clearedWith (faultRec .supplyWarn s).action)) ∧
      (faultRec .supplyLow u = if startingLevel mv = .normal ∨ startingLevel mv = .warn then FaultRec.clearedWith (faultRec
        .supplyLow s).action else raisedRec (faultRec .supplyLow s).action 0 0 (FaultRec.clearedWith (faultRec .supplyLow
        s).action)) ∧
      u.flt.supply = startingLevel mv ∧
      u.flt.axisMark = false ∧
      (startingLevel mv = .cut → u.pcu.run = .cut ∧ u.pcu.pace = true ∧ u.pcu.listen = .stopped) ∧
      (startingLevel mv ≠ .cut → u.pcu = { PaceUnit.initial with listen := .running 100000 } ∧ u.liu = {
        LineInterface.initial with beaconTimer := .running (s.number.val * 500) }) ∧
      u = { State.ofStraps s.pending s.number s.role with
          selfTesting := s.selfTesting, resultCode := s.resultCode, params := s.params, free := s.free, pcu := u.pcu,
          liu := u.liu, flt := u.flt, ord := { s.ord with counter := s.ord.counter + 1, setupOpen := true },
          slu := { SelectorUnit.initial with map := s.slu.map, needles := s.slu.needles },
          thm := { ThreadMonitor.initial with bobbin := s.thm.bobbin, lastLoaded := s.thm.lastLoaded } }

/-- What an accepted frame itself does: age, duplicate test, framer; and beacons that are not recorded (R44, R45, R46, R48,
R49, R53, R180, R185). That the command of such a frame leaves the state as it is, is log entry 10. -/
def Obligations.FramesThatOnlyRefresh : Prop :=
  (∀ (src : Station) (body : List Byte) (s : State),
     hearsFrames s → src ≠ s.number →
     ∃ u, exec (.urgentReceived src body) s = .next u ∧
       (∀ i : Station, u.ptb.peers[i] = if i = src then { s.ptb.peers[i] with age := 0 } else s.ptb.peers[i]) ∧
       u = { s with liu := { s.liu with framer := .waitIdle }, ptb := { s.ptb with peers := u.ptb.peers } }) ∧
  (∀ (src : Station) (body : List Byte) (s : State),
     hearsFrames s → src = s.number →
     ∃ u, exec (.urgentReceived src body) s = .next u ∧
       raisedIn .duplicateNumber 1 0 s u ∧
       (∀ c : FaultCode, c ≠ .duplicateNumber → faultRec c u = faultRec c s) ∧
       u.flt.axisMark = s.flt.axisMark ∧
       u.flt.supply = s.flt.supply ∧
       u = { s with liu := { s.liu with framer := .waitIdle }, flt := u.flt }) ∧
  (∀ (src : Station) (body : List Byte) (s : State),
     hearsFrames s → (src = s.number ∨ classifyBeacon body = .ageOnly ∨ (classifyBeacon body = .otherRole ∧
       s.ptb.peers[src].presence ≠ .present)) →
     exec (.beaconReceived src body) s = exec (.urgentReceived src body) (s)) ∧
  (∀ (src : Station) (body : List Byte) (s : State),
     hearsFrames s → src ≠ s.number → classifyBeacon body = .otherRole → s.ptb.peers[src].presence = .present →
       (agreementWaiting s = false ∨ ∃ p ∈ pacingPeers s, p.1 ≠ src ∧ p.2.qualified = false) →
     ∃ u, exec (.beaconReceived src body) s = .next u ∧
       (∀ i : Station, u.ptb.peers[i] = if i = src then { s.ptb.peers[i] with presence := .absent, age := 0 } else
         s.ptb.peers[i]) ∧
       (if s.ptb.joined then (if rosterRight u then faultRec .frameRoster u = { faultRec .frameRoster s with
           latched := false } else raisedIn .frameRoster (octetSat (rosterCount .axisX u)) (octetSat (rosterCount .axisY u))
         s u) else faultRec .frameRoster u = faultRec .frameRoster s) ∧
       (∀ c : FaultCode, c ≠ .frameRoster → faultRec c u = faultRec c s) ∧
       u.flt.axisMark = s.flt.axisMark ∧
       u.flt.supply = s.flt.supply ∧
       u = { frameTaken src s with ptb := { s.ptb with peers := u.ptb.peers }, flt := u.flt }) ∧
  (∀ (src : Station) (body : List Byte) (s : State),
     hearsFrames s → src ≠ s.number → classifyBeacon body = .otherRole → s.ptb.peers[src].presence = .present →
       agreementWaiting s = true → (∀ p ∈ pacingPeers s, p.1 ≠ src → p.2.qualified = true) →
     exec (.beaconReceived src body) s = exec .agreementTimerExpiry (rosterCheck { frameTaken src s with
         ptb := { s.ptb with peers := s.ptb.peers.set src { s.ptb.peers[src] with presence := .absent, age := 0 } } })) ∧
  (∀ (x : Sampled) (code : Byte) (f : OrderFrame) (src : Station) (body : List Byte) (s : State),
    s.liu.tx.isSome = true ∨ s.liu.framer = .waitIdle →
    exec (orderOf x code f) s = .next s ∧ exec (.unknownOrder code f) s = .next s ∧ exec (.designSegment src body) s = .next s ∧
      exec (.beaconReceived src body) s = .next s ∧ exec (.urgentReceived src body) s = .next s)

/-- The beacon a station sends, octet by octet, what a peer's table reads from it, and the HALT request beside its bits
(R18, R42, R43, R76, R102, R121, R144, R163, R164, R173, R176, R187). -/
def Obligations.BeaconBodyReadsBack : Prop :=
  (∀ (role : Role) (s : State), s.pcu.cursor.n < 16777216 → let b := beaconBody role s
    b.length = (if role = .head then 43 else 37) ∧
    classifyBeacon b = .pacing ⟨role, s.pcu.run, s.pcu.cursor, s.pcu.win == .ready⟩ ∧
    (b[0]? = some (stationOctet s.number) ∧ b[1]? = some (roleCode role) ∧ b[2]? = some (runCode s.pcu.run) ∧ b[3]? = some (stopReasonCode s.pcu.stopReason) ∧
      be32 (b.getD 9 0) (b.getD 10 0) (b.getD 11 0) (b.getD 12 0) = haltSet s ∧
      (s.pcu.setRate < 65536 → be16 (b.getD 13 0) (b.getD 14 0) = s.pcu.setRate)) ∧
    ((b.drop 15).take 5 =
        [loaderCode s.dld.state, s.dld.v, flagOctet s.dld.resend, lockCode s.dld.lockReason, waitCode s.dld.waitCause] ∧
      (ringL s.drg < 16777217 → be32 (b.getD 20 0) (b.getD 21 0) (b.getD 22 0) (b.getD 23 0) = ringL s.drg) ∧
      be16 (b.getD 24 0) (b.getD 25 0) = ringRoom s.drg ∧ be16 (b.getD 26 0) (b.getD 27 0) = s.dld.designId.toNat) ∧
    (b.drop 28).take 4 = [s.ord.counter] ++ refusalOctets s ++ [s.resultCode] ∧
    (∀ c : FaultCode, (haltSet s).testBit (faultNumber c) = countsToHalt c s) ∧
    (haltSet s).testBit 26 = isRunning s.pcu.haltPulse ∧ (haltSet s).testBit 27 = (s.pcu.run == .joining) ∧
    (role = .head →
      b[32]? = some (if s.stu.participation = .enabled then 1 else 0 : Byte) ∧
      (s.stu.C < 4294967296 → be32 (b.getD 33 0) (b.getD 34 0) (b.getD 35 0) (b.getD 36 0) = s.stu.C) ∧
      (b.drop 37).take 2 = (match s.slu.sel with
        | .unknown => [0, 0] | .settled p => [1, BitVec.ofNat 8 p] | .moving p => [2, BitVec.ofNat 8 p]
        | .confirming p => [3, BitVec.ofNat 8 p] | .jammed => [4, 0]) ∧
      b[39]? = some (BitVec.ofNat 8 (colorInForce s.drg s.pcu.cursor.n)) ∧
      b[40]? = some (if s.thm.bobbin.isSome then 1 else 0 : Byte) ∧
      (s.thm.bobbin.getD 0 < 655360000 → be16 (b.getD 41 0) (b.getD 42 0) = s.thm.bobbin.getD 0 / 10000)) ∧
    (role ≠ .head →
      b[32]? = some (match s.axu.homing with | .unhomed => 0 | .homing => 1 | .homed => 2 : Byte) ∧
      b[33]? = some (if s.axu.originValid then 1 else 0 : Byte) ∧
      (-32768 ≤ s.axu.pf → s.axu.pf ≤ 32767 → signed16 (b.getD 34 0) (b.getD 35 0) = s.axu.pf) ∧
      b[36]? = some (if s.axu.clampFlag then 1 else 0 : Byte))) ∧
  (∀ s : State, haltRequest s = true ↔ (∃ c : FaultCode, countsToHalt c s = true) ∨ isRunning s.pcu.haltPulse = true ∨
    s.pcu.run = .joining ∨ s.pcu.run = .cut ∨ s.role = none) ∧
  (∀ (c : FaultCode) (s : State), countsToHalt c s = true ↔
    (faultRec c s).latched = true ∧ ((faultRec c s).action = .halt ∨ (c = .peerLost ∧ s.flt.axisMark = true)) ∧
      ¬ (s.role = some .head ∧ s.stu.pendingPart.getD s.stu.participation = .off ∧
        c ∈ [FaultCode.driveFail, .selectorJam, .needleUnmapped, .threadBreak, .threadSnag, .bobbinEmpty, .tensionLoose,
          .tensionTight, .bobbinLow])) ∧
  ((∀ n : Station, (stationOctet n).toNat = n.val) ∧ [Role.head, .axisX, .axisY].map roleCode = [0, 1, 2] ∧
    [RunState.joining, .stopped, .running, .traversingBack, .traversingForward, .stopping, .cut].map runCode =
      [0, 1, 2, 3, 4, 5, 6] ∧
    [StopReason.joined, .stopOrder, .halted, .programmedStop, .designEnd, .traverseDone].map stopReasonCode =
      [0, 1, 2, 3, 4, 5] ∧
    [LoaderState.opened, .wait, .lockout].map loaderCode = [0, 1, 2] ∧
    [LockReason.none, .window, .gap, .badRecord, .range, .rebase].map lockCode = [0, 1, 2, 3, 4, 5] ∧
    [WaitCause.none, .room, .trail].map waitCode = [0, 1, 2] ∧ flagOctet false = 0 ∧ flagOctet true = 1 ∧
    (∀ s : State, refusalOctets s = (match s.ord.lastRefusal with | some (c, kind) => [refusalOctet c, kind] | none => [0, 0])) ∧
    [RefusalCode.notStopped, .halted, .badArg, .wrongRole, .lockout, .range, .designEnd, .noOrigin, .setupClosed,
      .notJammed].map refusalOctet = [1, 2, 3, 4, 5, 6, 7, 8, 9, 10])

/-- A beacon of a pacing role is recorded, qualifies the peer while agreement waits, and may complete agreement (R43, R44,
R45, R48, R52, R53). That a record which left PRESENT and returns within one wait keeps its qualified mark and stop cursor
is log entry 42. -/
def Obligations.BeaconIsRecorded : Prop :=
  (∀ (src : Station) (body : List Byte) (v : BeaconView) (s : State),
     hearsFrames s → src ≠ s.number → classifyBeacon body = .pacing v → (s.ptb.peers[src].presence = .present ∧
       s.ptb.peers[src].role = v.role) → (agreementWaiting s = false ∨ (v.run ≠ .stopped ∧ s.ptb.peers[src].qualified =
       false) ∨ ∃ p ∈ pacingPeers s, p.1 ≠ src ∧ p.2.qualified = false) →
     ∃ u, exec (.beaconReceived src body) s = .next u ∧
       (∀ i : Station, u.ptb.peers[i] = if i = src then {
           presence := .present, role := v.role, run := v.run, cursor := v.cursor, ready := v.ready,
           stopCursor := if v.run = .stopped then some v.cursor else s.ptb.peers[src].stopCursor,
           qualified := s.ptb.peers[src].qualified || (agreementWaiting s && v.run == .stopped), age := 0 } else
         s.ptb.peers[i]) ∧
       u = { s with liu := { s.liu with framer := .waitIdle }, ptb := { s.ptb with peers := u.ptb.peers } }) ∧
  (∀ (src : Station) (body : List Byte) (v : BeaconView) (s : State),
     hearsFrames s → src ≠ s.number → classifyBeacon body = .pacing v → (¬ (s.ptb.peers[src].presence = .present ∧
       s.ptb.peers[src].role = v.role)) → (agreementWaiting s = false ∨ (v.run ≠ .stopped ∧ s.ptb.peers[src].qualified =
       false) ∨ ∃ p ∈ pacingPeers s, p.1 ≠ src ∧ p.2.qualified = false) →
     ∃ u, exec (.beaconReceived src body) s = .next u ∧
       (∀ i : Station, u.ptb.peers[i] = if i = src then {
           presence := .present, role := v.role, run := v.run, cursor := v.cursor, ready := v.ready,
           stopCursor := if v.run = .stopped then some v.cursor else s.ptb.peers[src].stopCursor,
           qualified := s.ptb.peers[src].qualified || (agreementWaiting s && v.run == .stopped), age := 0 } else
         s.ptb.peers[i]) ∧
       (if s.ptb.joined then (if rosterRight u then faultRec .frameRoster u = { faultRec .frameRoster s with
           latched := false } else raisedIn .frameRoster (octetSat (rosterCount .axisX u)) (octetSat (rosterCount .axisY u))
         s u) else faultRec .frameRoster u = faultRec .frameRoster s) ∧
       (∀ c : FaultCode, c ≠ .frameRoster → faultRec c u = faultRec c s) ∧
       u.flt.axisMark = s.flt.axisMark ∧
       u.flt.supply = s.flt.supply ∧
       u = { s with liu := { s.liu with framer := .waitIdle }, ptb := { s.ptb with peers := u.ptb.peers }, flt := u.flt }) ∧
  (∀ (src : Station) (body : List Byte) (v : BeaconView) (s : State),
     hearsFrames s → src ≠ s.number → classifyBeacon body = .pacing v → (s.ptb.peers[src].presence = .present ∧
       s.ptb.peers[src].role = v.role) → agreementWaiting s = true → (v.run = .stopped ∨ s.ptb.peers[src].qualified = true)
       → (∀ p ∈ pacingPeers s, p.1 ≠ src → p.2.qualified = true) →
     exec (.beaconReceived src body) s = exec .agreementTimerExpiry ({ frameTaken src s with
         ptb := { s.ptb with
             peers := s.ptb.peers.set src {
                 presence := .present, role := v.role, run := v.run, cursor := v.cursor, ready := v.ready,
                 stopCursor := if v.run = .stopped then some v.cursor else s.ptb.peers[src].stopCursor,
                 qualified := s.ptb.peers[src].qualified || (agreementWaiting s && v.run == .stopped), age := 0 } } })) ∧
  (∀ (src : Station) (body : List Byte) (v : BeaconView) (s : State),
     hearsFrames s → src ≠ s.number → classifyBeacon body = .pacing v → (¬ (s.ptb.peers[src].presence = .present ∧
       s.ptb.peers[src].role = v.role)) → agreementWaiting s = true → (v.run = .stopped ∨ s.ptb.peers[src].qualified = true)
       → (∀ p ∈ pacingPeers s, p.1 ≠ src → p.2.qualified = true) →
     exec (.beaconReceived src body) s = exec .agreementTimerExpiry (rosterCheck { frameTaken src s with
         ptb := { s.ptb with
             peers := s.ptb.peers.set src {
                 presence := .present, role := v.role, run := v.run, cursor := v.cursor, ready := v.ready,
                 stopCursor := if v.run = .stopped then some v.cursor else s.ptb.peers[src].stopCursor,
                 qualified := s.ptb.peers[src].qualified || (agreementWaiting s && v.run == .stopped), age := 0 } } }))

/-- PEER_AGE_EXPIRY: SILENT, PEER-LOST taken by the peer's role, the roster check, and agreement that completes (R43, R45,
R46, R48, R53, R160). -/
def Obligations.SilentPeers : Prop :=
  (∀ (n : Station) (s : State),
     inService s = true → n = s.number →
     exec (.peerAgeExpiry n) s = .next (s)) ∧
  (∀ (n : Station) (s : State),
     inService s = true → n ≠ s.number → s.ptb.peers[n].presence ≠ .present →
     exec (.peerAgeExpiry n) s = .next ({ s with
         ptb := { s.ptb with peers := s.ptb.peers.set n { s.ptb.peers[n] with age := 100 } } })) ∧
  (∀ (n : Station) (s : State),
     inService s = true → n ≠ s.number → s.ptb.peers[n].presence = .present → (agreementWaiting s = false ∨ ∃ p ∈
       pacingPeers s, p.1 ≠ n ∧ p.2.qualified = false) →
     ∃ u, exec (.peerAgeExpiry n) s = .next u ∧
       (∀ i : Station, u.ptb.peers[i] = if i = n then { s.ptb.peers[i] with presence := .silent, age := 100 } else
         s.ptb.peers[i]) ∧
       faultRec .peerLost u = raisedRec (if s.ptb.peers[n].role = .head then (faultRec .peerLost s).action else .halt)
         (BitVec.ofNat 8 n.val) (roleCode s.ptb.peers[n].role) (faultRec .peerLost s) ∧
       u.flt.axisMark = (if s.ptb.peers[n].role = .head then s.flt.axisMark else true) ∧
       (if s.ptb.joined then (if rosterRight u then faultRec .frameRoster u = { faultRec .frameRoster s with
           latched := false } else raisedIn .frameRoster (octetSat (rosterCount .axisX u)) (octetSat (rosterCount .axisY u))
         s u) else faultRec .frameRoster u = faultRec .frameRoster s) ∧
       (∀ c : FaultCode, c ≠ .peerLost ∧ c ≠ .frameRoster → faultRec c u = faultRec c s) ∧
       u.flt.supply = s.flt.supply ∧
       u = { s with ptb := { s.ptb with peers := u.ptb.peers }, flt := u.flt }) ∧
  (∀ (n : Station) (s : State),
     inService s = true → n ≠ s.number → s.ptb.peers[n].presence = .present → s.ptb.peers[n].role = .head → agreementWaiting
       s = true → (∀ p ∈ pacingPeers s, p.1 ≠ n → p.2.qualified = true) →
     exec (.peerAgeExpiry n) s = exec .agreementTimerExpiry (rosterCheck { s with
         ptb := { s.ptb with peers := s.ptb.peers.set n { s.ptb.peers[n] with presence := .silent, age := 100 } },
         flt := (raise .peerLost (BitVec.ofNat 8 n.val) 0 s).flt })) ∧
  (∀ (n : Station) (s : State),
     inService s = true → n ≠ s.number → s.ptb.peers[n].presence = .present → s.ptb.peers[n].role ≠ .head → agreementWaiting
       s = true → (∀ p ∈ pacingPeers s, p.1 ≠ n → p.2.qualified = true) →
     exec (.peerAgeExpiry n) s = exec .agreementTimerExpiry (rosterCheck { s with
         ptb := { s.ptb with peers := s.ptb.peers.set n { s.ptb.peers[n] with presence := .silent, age := 100 } },
         flt := { (raiseAs .halt .peerLost (BitVec.ofNat 8 n.val) (roleCode s.ptb.peers[n].role) s).flt with
             axisMark := true } }))

/-- Agreement: the chosen cursor is adopted, the axis follows or loses its origin, a cursor below F rebases (R16, R26, R29,
R51, R53, R54, R55, R56, R70, R146, R149). Log entries: 16, the excursion flag keeps its value where the origin is lost; 39
and 41, as WindowEndsAndTheNextBegins names them. -/
def Obligations.AgreementCompletes : Prop :=
  (∀ (s : State),
     inService s = true → agreementWaiting s = true → chooseCursor s.pcu.cursor (qualifiedCursors s) = s.pcu.cursor →
     ∃ u, exec (.agreementTimerExpiry) s = .next u ∧
       u.flt = s.flt ∧
       u.axu = s.axu ∧
       u.stu = s.stu ∧
       u = { s with
           pcu := u.pcu, ptb := u.ptb, liu := u.liu, drg := u.drg, dld := u.dld, flt := u.flt, axu := u.axu, stu := u.stu }) ∧
  (∀ (c : Cursor) (s : State),
     inService s = true → agreementWaiting s = true → chooseCursor s.pcu.cursor (qualifiedCursors s) = c → c ≠ s.pcu.cursor
       → s.drg.F ≤ c.n → (isAxis s = false ∨ s.axu.originValid = false) →
     ∃ u, exec (.agreementTimerExpiry) s = .next u ∧
       u.flt.axisMark = s.flt.axisMark ∧
       u.flt.supply = s.flt.supply ∧
       raisedIn .outOfStep (octetSat ((s.pcu.cursor :: qualifiedCursors s).count c)) (octetSat ((qualifiedCursors s).length
         + 1)) s u ∧
       (∀ d : FaultCode, d ≠ .outOfStep → faultRec d u = faultRec d s) ∧
       u.axu = s.axu ∧
       u.stu = (if s.pcu.joinAgreement ∧ isHead s then { s.stu with C := c.n } else s.stu) ∧
       u = { s with
           pcu := u.pcu, ptb := u.ptb, liu := u.liu, drg := u.drg, dld := u.dld, flt := u.flt, axu := u.axu, stu := u.stu }) ∧
  (∀ (c : Cursor) (d : Int) (s : State),
     inService s = true → agreementWaiting s = true → chooseCursor s.pcu.cursor (qualifiedCursors s) = c → c ≠ s.pcu.cursor
       → s.drg.F ≤ c.n → isAxis s = true → s.axu.originValid = true → pcChange s.role s.drg s.pcu.cursor c = some d →
     ∃ u, exec (.agreementTimerExpiry) s = .next u ∧
       u.flt.axisMark = s.flt.axisMark ∧
       u.flt.supply = s.flt.supply ∧
       raisedIn .outOfStep (octetSat ((s.pcu.cursor :: qualifiedCursors s).count c)) (octetSat ((qualifiedCursors s).length
         + 1)) s u ∧
       (∀ e : FaultCode, e ≠ .outOfStep → faultRec e u = faultRec e s) ∧
       u.axu = { s.axu with pc := max (-1000000000) (min (s.axu.pc + d) 1000000000), excursion := true } ∧
       u.stu = s.stu ∧
       u = { s with
           pcu := u.pcu, ptb := u.ptb, liu := u.liu, drg := u.drg, dld := u.dld, flt := u.flt, axu := u.axu, stu := u.stu }) ∧
  (∀ (c : Cursor) (s : State),
     inService s = true → agreementWaiting s = true → chooseCursor s.pcu.cursor (qualifiedCursors s) = c → c ≠ s.pcu.cursor
       → s.drg.F ≤ c.n → isAxis s = true → s.axu.originValid = true → pcChange s.role s.drg s.pcu.cursor c = none →
     ∃ u, exec (.agreementTimerExpiry) s = .next u ∧
       u.flt.axisMark = s.flt.axisMark ∧
       u.flt.supply = s.flt.supply ∧
       raisedIn .outOfStep (octetSat ((s.pcu.cursor :: qualifiedCursors s).count c)) (octetSat ((qualifiedCursors s).length
         + 1)) s u ∧
       raisedIn .originLost 0 0 s u ∧
       (∀ e : FaultCode, e ≠ .outOfStep ∧ e ≠ .originLost → faultRec e u = faultRec e s) ∧
       u.axu = { s.axu with originValid := false } ∧
       u.stu = s.stu ∧
       u = { s with
           pcu := u.pcu, ptb := u.ptb, liu := u.liu, drg := u.drg, dld := u.dld, flt := u.flt, axu := u.axu, stu := u.stu }) ∧
  (∀ (c : Cursor) (s : State),
     inService s = true → agreementWaiting s = true → chooseCursor s.pcu.cursor (qualifiedCursors s) = c → c ≠ s.pcu.cursor
       → c.n < s.drg.F → (isAxis s = false ∨ s.axu.originValid = false) →
     ∃ u, exec (.agreementTimerExpiry) s = .next u ∧
       u.flt.axisMark = s.flt.axisMark ∧
       u.flt.supply = s.flt.supply ∧
       raisedIn .outOfStep (octetSat ((s.pcu.cursor :: qualifiedCursors s).count c)) (octetSat ((qualifiedCursors s).length
         + 1)) s u ∧
       raisedIn .loadLockout 5 s.dld.v s u ∧
       (∀ e : FaultCode, e ≠ .outOfStep ∧ e ≠ .loadLockout → faultRec e u = faultRec e s) ∧
       u.axu = s.axu ∧
       u.stu = (if s.pcu.joinAgreement ∧ isHead s then { s.stu with C := c.n } else s.stu) ∧
       u = { s with
           pcu := u.pcu, ptb := u.ptb, liu := u.liu, drg := u.drg, dld := u.dld, flt := u.flt, axu := u.axu, stu := u.stu }) ∧
  (∀ (c : Cursor) (s : State),
     inService s = true → agreementWaiting s = true → chooseCursor s.pcu.cursor (qualifiedCursors s) = c → c ≠ s.pcu.cursor
       → c.n < s.drg.F → isAxis s = true → s.axu.originValid = true →
     ∃ u, exec (.agreementTimerExpiry) s = .next u ∧
       u.flt.axisMark = s.flt.axisMark ∧
       u.flt.supply = s.flt.supply ∧
       raisedIn .outOfStep (octetSat ((s.pcu.cursor :: qualifiedCursors s).count c)) (octetSat ((qualifiedCursors s).length
         + 1)) s u ∧
       raisedIn .originLost 0 0 s u ∧
       raisedIn .loadLockout 5 s.dld.v s u ∧
       (∀ e : FaultCode, e ≠ .outOfStep ∧ e ≠ .originLost ∧ e ≠ .loadLockout → faultRec e u = faultRec e s) ∧
       u.axu = { s.axu with originValid := false } ∧
       u.stu = s.stu ∧
       u = { s with
           pcu := u.pcu, ptb := u.ptb, liu := u.liu, drg := u.drg, dld := u.dld, flt := u.flt, axu := u.axu, stu := u.stu }) ∧
  (∀ (c : Cursor) (s : State),
     inService s = true → agreementWaiting s = true → s.pcu.win = .preparing → s.pcu.run = .stopped → s.pcu.traversal = none
       → chooseCursor s.pcu.cursor (qualifiedCursors s) = c →
     ∃ u, exec (.agreementTimerExpiry) s = .next u ∧
       u.pcu = { s.pcu with agreement := .stopped, joinAgreement := false, starve := .stopped, cursor := c } ∧
       u.ptb = s.ptb ∧
       u.liu = s.liu ∧
       u.drg = chosenRing c s ∧
       u.dld = chosenLoader c s) ∧
  (∀ (c : Cursor) (s : State),
     inService s = true → agreementWaiting s = true → s.pcu.edge = .settled → s.pcu.traversal.map Traversal.target ≠ some
       none → chooseCursor s.pcu.cursor (qualifiedCursors s) = c →
     ∃ u, exec (.agreementTimerExpiry) s = .next u ∧
       goesOnTo { s with
           flt := u.flt, axu := u.axu, stu := u.stu, drg := chosenRing c s, dld := chosenLoader c s,
           pcu := { s.pcu with agreement := .stopped, joinAgreement := false, cursor := c } } u) ∧
  (∀ (r : Rec) (s : State),
     inService s = true → agreementWaiting s = true → s.pcu.win = .preparing → s.pcu.run = .running → chooseCursor
       s.pcu.cursor (qualifiedCursors s) = s.pcu.cursor → s.pcu.preparePending = true → s.pcu.traversal = none →
       s.pcu.pendingStop = none → s.pcu.haltSeen = false → s.pcu.edge = .settled → roleReady s = true → recAtN s = some r →
     exec (.agreementTimerExpiry) s = .next ({ s with
         pcu := { s.pcu with
             agreement := .stopped, joinAgreement := false, win := .ready, next := some ⟨.prepare, r⟩, pace := false,
             stall := .running (s.params.stallTime * 100000), starve := .stopped } })) ∧
  (∀ (d : TravDir) (k : Nat) (e : Bool) (c : Cursor) (t : Cursor) (lim : Bool) (s : State),
     inService s = true → agreementWaiting s = true → s.pcu.win = .preparing → isTraversing s.pcu.run → s.pcu.traversal =
       some ⟨d, k, none, e⟩ → chooseCursor s.pcu.cursor (qualifiedCursors s) = c → (if d = .back then (backTarget
       (chosenRing c s) c k, false) else forwardTarget (chosenRing c s) c k) = (t, lim) → t ≠ c → s.pcu.edge = .settled →
     ∃ u, exec (.agreementTimerExpiry) s = .next u ∧
       goesOnTo { s with
           flt := u.flt, axu := u.axu, stu := u.stu, drg := chosenRing c s, dld := chosenLoader c s,
           pcu := { s.pcu with
               agreement := .stopped, joinAgreement := false, cursor := c, traversal := some ⟨d, k, some t, lim⟩ } } u) ∧
  (∀ (d : TravDir) (k : Nat) (e : Bool) (c : Cursor) (t : Cursor) (lim : Bool) (s : State),
     inService s = true → agreementWaiting s = true → s.pcu.win = .preparing → isTraversing s.pcu.run → s.pcu.traversal =
       some ⟨d, k, none, e⟩ → chooseCursor s.pcu.cursor (qualifiedCursors s) = c → (if d = .back then (backTarget
       (chosenRing c s) c k, false) else forwardTarget (chosenRing c s) c k) = (t, lim) → t ≠ c →
     ∃ u, exec (.agreementTimerExpiry) s = .next u ∧
       u.pcu.traversal = some ⟨d, k, some t, lim⟩ ∧
       u.pcu.run = s.pcu.run ∧
       u.pcu.cursor = c ∧
       agreementWaiting u = false ∧
       (u.pcu.win = .ready ↔ s.pcu.pendingStop = none ∧ s.pcu.haltSeen = false ∧ s.pcu.edge = .settled ∧ roleReady s = true
         ∧ (isAxis s = false ∨ u.axu.originValid = true)) ∧
       (u.pcu.win = .ready → u.pcu.pace = false ∧ u.pcu.next = if d = .back then (nextBack u.drg c).map fun m => ⟨.retreat
         (m.1 + 1), m.2⟩ else (nextForward u.drg c).map fun m => ⟨.advance m.1, m.2⟩)) ∧
  (∀ (d : TravDir) (k : Nat) (e : Bool) (c : Cursor) (t : Cursor) (lim : Bool) (s : State),
     inService s = true → agreementWaiting s = true → s.pcu.win = .preparing → isTraversing s.pcu.run → s.pcu.traversal =
       some ⟨d, k, none, e⟩ → chooseCursor s.pcu.cursor (qualifiedCursors s) = c → (if d = .back then (backTarget
       (chosenRing c s) c k, false) else forwardTarget (chosenRing c s) c k) = (t, lim) → t = c →
     ∃ u, exec (.agreementTimerExpiry) s = .next u ∧
       u.pcu = { s.pcu with
           run := .stopped, win := .preparing, openW := none, next := none, preparePending := false, pendingStop := none,
           stopReason := s.pcu.pendingStop.getD (if lim then .designEnd else .traverseDone), starve := .stopped,
           stall := .stopped, haltWait := .stopped, pace := true, armed := true, traversal := none, joinAgreement := false,
           cursor := c, haltPulse := .running 50,
           agreement := if (pacingPeers s).isEmpty then .stopped else .running 100000 } ∧
       (∀ i : Station, u.ptb.peers[i] = { s.ptb.peers[i] with qualified := false }) ∧
       u.ptb.joined = s.ptb.joined ∧
       u.drg = chosenRing c s ∧
       u.dld = chosenLoader c s ∧
       u.liu = (if s.liu.tx.any (fun t => t.slot == .beacon) then { s.liu with
           tx := s.liu.tx.map fun t => { t with again := true } } else { s.liu with beaconDue := true }))

/-- The change of Pc is the sum of the displacements that come to lie behind the cursor, less those that leave it (R2, R55,
R56). -/
def Obligations.CommandedPositionFollowsCursor : Prop :=
  ∀ (role : Option Role) (r : Ring) (old new : Cursor),
    let behind (c : Cursor) (m : Nat) : Int :=
      if m < c.n ∨ (m = c.n ∧ c.step = .stroke ∧ (ringGet r m).any isStitch = true) then 1 else 0
    let move (m : Nat) : Int := ((ringGet r m).map (displacement role)).getD 0
    (∀ d, pcChange role r old new = some d →
      d = ((List.range (max old.n new.n + 1)).map fun m => (behind new m - behind old m) * move m).sum) ∧
    (pcChange role r old new = none ↔ new.n < r.F ∨ ringL r < new.n ∨
      (old.step = .stroke ∧ ringGet r old.n = none) ∨ (new.step = .stroke ∧ ringGet r new.n = none) ∨
      ∃ m, behind new m ≠ behind old m ∧ ringGet r m = none)

/-- A change of N advances F by retention or release, keeps every other record, L and the colours, and may end WAIT (R5, R8,
R9, R11, R12, R14, R54, R67). That such a change makes none of the tests is the model's reading, log entry 14. -/
def Obligations.RetentionFollowsCursor : Prop :=
  ∀ (c : Cursor) (s : State), ringForm s.drg → let u := followCursor { s with pcu := { s.pcu with cursor := c } }
    (c.n ≠ s.pcu.cursor.n → setCursor c s = u) ∧ (c.n = s.pcu.cursor.n → setCursor c s = { s with pcu := { s.pcu with cursor := c } }) ∧
    u.drg.F = (if s.dld.state = .wait ∧ ringL s.drg ≤ c.n then ringL s.drg
      else max s.drg.F (min (c.n - s.params.retain) (ringL s.drg))) ∧
    ringL u.drg = ringL s.drg ∧ ringForm u.drg ∧
    (∀ m, ringGet u.drg m = if m < u.drg.F then none else ringGet s.drg m) ∧
    (∀ m, u.drg.F ≤ m → m ≤ ringL s.drg → colorInForce u.drg m = colorInForce s.drg m) ∧
    u.dld = (if s.dld.state = .wait ∧ 64 ≤ ringRoom u.drg ∧ u.drg.trail.length ≤ 48
      then { s.dld with state := .opened, waitCause := .none } else s.dld) ∧
    u = { s with pcu := { s.pcu with cursor := c }, drg := u.drg, dld := u.dld }

/-- The band of a segment number against V (R61). -/
def Obligations.SegmentNumberBands : Prop :=
  (∀ (pw nw : Nat) (v seg : Byte), 1 ≤ pw → pw ≤ 255 → nw ≤ 255 → pw + nw ≤ 256 →
    let d : Int := ((seg.toNat : Int) - v.toNat) % 256
    (bandOf pw nw v seg = .expected ↔ d = 0) ∧ (bandOf pw nw v seg = .positive ↔ 1 ≤ d ∧ d ≤ pw - 1) ∧
    (bandOf pw nw v seg = .negative ↔ 256 - nw ≤ d ∧ d ≤ 255) ∧
    (bandOf pw nw v seg = .negative ↔ 1 ≤ ((v.toNat : Int) - seg.toNat) % 256 ∧ ((v.toNat : Int) - seg.toNat) % 256 ≤ nw) ∧
    (bandOf pw nw v seg = .outside ↔ (pw : Int) ≤ d ∧ d ≤ 255 - nw)) ∧
  bandOf 8 8 3 253 = .negative ∧ bandOf 8 8 254 1 = .positive ∧ bandOf 8 8 1 250 = .negative ∧ bandOf 8 8 20 11 = .outside

/-- A valid expected segment that fits is appended whole, with V counted up, and ends a starve (R5, R7, R8, R12, R24, R26,
R27, R36, R60, R63, R64, R150). Log entries: 15, the mark of the first agreement after joining ends at a stop; 39, the step
counts for a STITCH alone; 41, a traversal without a next record stays PREPARING. -/
def Obligations.SegmentsAreAppended : Prop :=
  (∀ (src : Station) (body : List Byte) (seg : Segment) (s : State),
     hearsFrames s → s.pcu.run ≠ .cut → parseSegment body = some seg → seg.designId = s.dld.designId → seg.number = s.dld.v
       → seg.r0 = ringL s.drg → segmentInvalid seg.r0 seg.records = none → s.dld.state = .opened → s.drg.trail.length +
       colorCount seg.records ≤ 64 → seg.records.length ≤ ringRoom s.drg → (s.pcu.win ≠ .preparing ∨ isMoving s.pcu.run =
       false ∨ s.pcu.pendingStop ≠ none ∨ s.pcu.haltSeen = true ∨ agreementWaiting s = true ∨ s.pcu.edge ≠ .settled ∨
       roleReady s = false) → (s.pcu.win = .opened → s.pcu.edge ≠ .settled ∨ workInFlight s = true) → ringForm s.drg →
     ∃ u, exec (.designSegment src body) s = .next u ∧
       u.drg.F = max s.drg.F (min (s.pcu.cursor.n - s.params.retain) (ringL s.drg + seg.records.length)) ∧
       ringL u.drg = ringL s.drg + seg.records.length ∧
       (∀ m : Nat, ringGet u.drg m = if m < u.drg.F then none else if m < ringL s.drg then ringGet s.drg m else
         seg.records[m - ringL s.drg]?) ∧
       ringForm u.drg ∧
       (∀ m : Nat, u.drg.F ≤ m → m ≤ ringL s.drg → colorInForce u.drg m = colorInForce s.drg m) ∧
       u = { frameTaken src s with
           drg := u.drg, dld := { s.dld with v := s.dld.v + 1, resend := false },
           pcu := { s.pcu with
               starve := if s.pcu.run ≠ .running ∨ (ringGet u.drg s.pcu.cursor.n).isSome = true then .stopped else if
                 s.pcu.win = .preparing ∧ s.pcu.pendingStop = none ∧ s.pcu.starve = .stopped then .running
                 (s.params.starveLimit * 100000) else s.pcu.starve } }) ∧
  (∀ (src : Station) (body : List Byte) (seg : Segment) (s : State) (r : Rec),
     hearsFrames s → s.pcu.run ≠ .cut → parseSegment body = some seg → seg.designId = s.dld.designId → seg.number = s.dld.v
       → seg.r0 = ringL s.drg → segmentInvalid seg.r0 seg.records = none → s.dld.state = .opened → s.drg.trail.length +
       colorCount seg.records ≤ 64 → seg.records.length ≤ ringRoom s.drg → s.pcu.win = .preparing → s.pcu.pendingStop = none
       → agreementWaiting s = false → s.pcu.edge = .settled → roleReady s = true → s.pcu.haltSeen = false → s.pcu.run =
       .running → s.pcu.preparePending = true → ringL s.drg ≤ s.pcu.cursor.n → seg.records[s.pcu.cursor.n - ringL s.drg]? =
       some r →
     ∃ u, exec (.designSegment src body) s = .next u ∧
       u.drg.F = max s.drg.F (min (s.pcu.cursor.n - s.params.retain) (ringL s.drg + seg.records.length)) ∧
       ringL u.drg = ringL s.drg + seg.records.length ∧
       (∀ m : Nat, ringGet u.drg m = if m < u.drg.F then none else if m < ringL s.drg then ringGet s.drg m else
         seg.records[m - ringL s.drg]?) ∧
       u = { frameTaken src s with
           drg := u.drg, dld := { s.dld with v := s.dld.v + 1, resend := false },
           pcu := { s.pcu with
               win := .ready, next := some ⟨.prepare, r⟩, pace := false, stall := .running (s.params.stallTime * 100000),
               starve := .stopped } }) ∧
  (∀ (src : Station) (body : List Byte) (seg : Segment) (s : State) (r : Rec) (k : Window),
     hearsFrames s → s.pcu.run ≠ .cut → parseSegment body = some seg → seg.designId = s.dld.designId → seg.number = s.dld.v
       → seg.r0 = ringL s.drg → segmentInvalid seg.r0 seg.records = none → s.dld.state = .opened → s.drg.trail.length +
       colorCount seg.records ≤ 64 → seg.records.length ≤ ringRoom s.drg → s.pcu.win = .preparing → s.pcu.pendingStop = none
       → agreementWaiting s = false → s.pcu.edge = .settled → roleReady s = true → s.pcu.haltSeen = false → s.pcu.run =
       .running → s.pcu.preparePending = false → ringL s.drg ≤ s.pcu.cursor.n → seg.records[s.pcu.cursor.n - ringL s.drg]? =
       some r → (if r.kind = 1 then (if s.pcu.cursor.step = .first then some (Window.move s.pcu.cursor.n) else some (.stroke
       s.pcu.cursor.n)) else if r.kind = 2 then some (.move s.pcu.cursor.n) else if r.kind = 3 then some (.trim
       s.pcu.cursor.n) else if r.kind = 4 then some (.change s.pcu.cursor.n) else none) = some k →
     ∃ u, exec (.designSegment src body) s = .next u ∧
       u.drg.F = max s.drg.F (min (s.pcu.cursor.n - s.params.retain) (ringL s.drg + seg.records.length)) ∧
       ringL u.drg = ringL s.drg + seg.records.length ∧
       (∀ m : Nat, ringGet u.drg m = if m < u.drg.F then none else if m < ringL s.drg then ringGet s.drg m else
         seg.records[m - ringL s.drg]?) ∧
       u = { frameTaken src s with
           drg := u.drg, dld := { s.dld with v := s.dld.v + 1, resend := false },
           pcu := { s.pcu with
               win := .ready, next := some ⟨k, r⟩, pace := false, stall := .running (s.params.stallTime * 100000),
               starve := .stopped } }) ∧
  (∀ (src : Station) (body : List Byte) (seg : Segment) (s : State) (r : Rec),
     hearsFrames s → s.pcu.run ≠ .cut → parseSegment body = some seg → seg.designId = s.dld.designId → seg.number = s.dld.v
       → seg.r0 = ringL s.drg → segmentInvalid seg.r0 seg.records = none → s.dld.state = .opened → s.drg.trail.length +
       colorCount seg.records ≤ 64 → seg.records.length ≤ ringRoom s.drg → s.pcu.win = .preparing → s.pcu.pendingStop = none
       → agreementWaiting s = false → s.pcu.edge = .settled → roleReady s = true → s.pcu.haltSeen = false → s.pcu.run =
       .running → s.pcu.preparePending = false → ringL s.drg ≤ s.pcu.cursor.n → seg.records[s.pcu.cursor.n - ringL s.drg]? =
       some r → r.kind = 5 →
     ∃ u, exec (.designSegment src body) s = .next u ∧
       u.drg.F = max s.drg.F (min ((s.pcu.cursor.n + 1) - s.params.retain) (ringL s.drg + seg.records.length)) ∧
       ringL u.drg = ringL s.drg + seg.records.length ∧
       (∀ m : Nat, ringGet u.drg m = if m < u.drg.F then none else if m < ringL s.drg then ringGet s.drg m else
         seg.records[m - ringL s.drg]?) ∧
       u.pcu = { s.pcu with
           run := .stopped, win := .preparing, openW := none, next := none, preparePending := false, pendingStop := none,
           stopReason := (s.pcu.pendingStop.getD .programmedStop), starve := .stopped, stall := .stopped,
           haltWait := .stopped, pace := true, armed := true, traversal := none, joinAgreement := false,
           cursor := ⟨s.pcu.cursor.n + 1, .first⟩,
           haltPulse := if s.pcu.traversal.map Traversal.target = some (some (⟨s.pcu.cursor.n + 1, .first⟩)) then .running
             50 else s.pcu.haltPulse, agreement := if (pacingPeers s).isEmpty then .stopped else .running 100000 } ∧
       (∀ i : Station, u.ptb.peers[i] = { (frameTaken src s).ptb.peers[i] with qualified := false }) ∧
       u.ptb.joined = s.ptb.joined ∧
       u.liu = { (frameTaken src s).liu with beaconDue := true } ∧
       u = { frameTaken src s with
           pcu := u.pcu, ptb := u.ptb, liu := u.liu, drg := u.drg,
           dld := { s.dld with v := s.dld.v + 1, resend := false } }) ∧
  (∀ (src : Station) (body : List Byte) (seg : Segment) (s : State) (r : Rec),
     hearsFrames s → s.pcu.run ≠ .cut → parseSegment body = some seg → seg.designId = s.dld.designId → seg.number = s.dld.v
       → seg.r0 = ringL s.drg → segmentInvalid seg.r0 seg.records = none → s.dld.state = .opened → s.drg.trail.length +
       colorCount seg.records ≤ 64 → seg.records.length ≤ ringRoom s.drg → s.pcu.win = .preparing → s.pcu.pendingStop = none
       → agreementWaiting s = false → s.pcu.edge = .settled → roleReady s = true → s.pcu.haltSeen = false → s.pcu.run =
       .running → s.pcu.preparePending = false → ringL s.drg ≤ s.pcu.cursor.n → seg.records[s.pcu.cursor.n - ringL s.drg]? =
       some r → r.kind = 6 →
     ∃ u, exec (.designSegment src body) s = .next u ∧
       u.drg.F = max s.drg.F (min (s.pcu.cursor.n - s.params.retain) (ringL s.drg + seg.records.length)) ∧
       ringL u.drg = ringL s.drg + seg.records.length ∧
       (∀ m : Nat, ringGet u.drg m = if m < u.drg.F then none else if m < ringL s.drg then ringGet s.drg m else
         seg.records[m - ringL s.drg]?) ∧
       u.pcu = { s.pcu with
           run := .stopped, win := .preparing, openW := none, next := none, preparePending := false, pendingStop := none,
           stopReason := (s.pcu.pendingStop.getD .designEnd), starve := .stopped, stall := .stopped, haltWait := .stopped,
           pace := true, armed := true, traversal := none, joinAgreement := false, cursor := s.pcu.cursor,
           haltPulse := if s.pcu.traversal.map Traversal.target = some (some (s.pcu.cursor)) then .running 50 else
             s.pcu.haltPulse, agreement := if (pacingPeers s).isEmpty then .stopped else .running 100000 } ∧
       (∀ i : Station, u.ptb.peers[i] = { (frameTaken src s).ptb.peers[i] with qualified := false }) ∧
       u.ptb.joined = s.ptb.joined ∧
       u.liu = { (frameTaken src s).liu with beaconDue := true } ∧
       u = { frameTaken src s with
           pcu := u.pcu, ptb := u.ptb, liu := u.liu, drg := u.drg,
           dld := { s.dld with v := s.dld.v + 1, resend := false } }) ∧
  (∀ (src : Station) (body : List Byte) (seg : Segment) (s : State),
     hearsFrames s → s.pcu.run ≠ .cut → parseSegment body = some seg → seg.designId = s.dld.designId → seg.number = s.dld.v
       → seg.r0 = ringL s.drg → segmentInvalid seg.r0 seg.records = none → s.dld.state = .opened → s.drg.trail.length +
       colorCount seg.records ≤ 64 → seg.records.length ≤ ringRoom s.drg → s.pcu.win = .preparing → s.pcu.pendingStop = none
       → agreementWaiting s = false → s.pcu.edge = .settled → roleReady s = true → s.pcu.haltSeen = false → s.pcu.run =
       .running → ringL s.drg + seg.records.length ≤ s.pcu.cursor.n →
     ∃ u, exec (.designSegment src body) s = .next u ∧
       u.drg.F = max s.drg.F (min (s.pcu.cursor.n - s.params.retain) (ringL s.drg + seg.records.length)) ∧
       ringL u.drg = ringL s.drg + seg.records.length ∧
       (∀ m : Nat, ringGet u.drg m = if m < u.drg.F then none else if m < ringL s.drg then ringGet s.drg m else
         seg.records[m - ringL s.drg]?) ∧
       u = { frameTaken src s with
           drg := u.drg, dld := { s.dld with v := s.dld.v + 1, resend := false },
           pcu := { s.pcu with
               starve := if s.pcu.starve = .stopped then .running (s.params.starveLimit * 100000) else s.pcu.starve } }) ∧
  (∀ (src : Station) (body : List Byte) (seg : Segment) (s : State) (tv : Traversal),
     hearsFrames s → s.pcu.run ≠ .cut → parseSegment body = some seg → seg.designId = s.dld.designId → seg.number = s.dld.v
       → seg.r0 = ringL s.drg → segmentInvalid seg.r0 seg.records = none → s.dld.state = .opened → s.drg.trail.length +
       colorCount seg.records ≤ 64 → seg.records.length ≤ ringRoom s.drg → s.pcu.win = .preparing → s.pcu.pendingStop = none
       → agreementWaiting s = false → s.pcu.edge = .settled → roleReady s = true → s.pcu.haltSeen = false → isTraversing
       s.pcu.run → s.pcu.traversal = some tv →
     ∃ u, exec (.designSegment src body) s = .next u ∧
       u.drg.F = max s.drg.F (min (s.pcu.cursor.n - s.params.retain) (ringL s.drg + seg.records.length)) ∧
       ringL u.drg = ringL s.drg + seg.records.length ∧
       (∀ m : Nat, ringGet u.drg m = if m < u.drg.F then none else if m < ringL s.drg then ringGet s.drg m else
         seg.records[m - ringL s.drg]?) ∧
       u = { frameTaken src s with drg := u.drg, dld := { s.dld with v := s.dld.v + 1, resend := false }, pcu := u.pcu } ∧
       u.pcu = Option.elim (if tv.target.isSome = true ∧ tv.target ≠ some s.pcu.cursor ∧ (isAxis s = false ∨
         s.axu.originValid = true) then (if tv.dir = .back then (nextBack u.drg s.pcu.cursor).map fun m => (⟨.retreat (m.1 +
         1), m.2⟩ : WindowRec) else (nextForward u.drg s.pcu.cursor).map fun m => (⟨.advance m.1, m.2⟩ : WindowRec)) else
         none) { s.pcu with starve := .stopped } (fun w => { s.pcu with
           win := .ready, next := some w, pace := false, stall := .running (s.params.stallTime * 100000),
           starve := .stopped }))

/-- Every segment that is not appended or sent to WAIT: what is discarded without change, RESEND, and the lockouts (R3, R60,
R62, R63, R65, R68, R69). Log entry 38: a record numbered 16,777,215 that meets both reasons gives BAD-RECORD. -/
def Obligations.SegmentsDiscardedOrLockedOut : Prop :=
  (∀ (src : Station) (body : List Byte) (s : State),
     hearsFrames s → (s.pcu.run = .cut ∨ parseSegment body = none ∨ s.dld.state = .lockout) →
     exec (.designSegment src body) s = .next ((frameTaken src s))) ∧
  (∀ (src : Station) (body : List Byte) (seg : Segment) (s : State),
     hearsFrames s → parseSegment body = some seg → (seg.designId ≠ s.dld.designId ∨ bandOf s.params.pw s.params.nw s.dld.v
       seg.number = .negative ∨ (bandOf s.params.pw s.params.nw s.dld.v seg.number = .positive ∧ s.dld.state = .wait) ∨
       (seg.number = s.dld.v ∧ seg.r0 = ringL s.drg ∧ segmentInvalid seg.r0 seg.records = none ∧ s.dld.state = .wait)) →
     exec (.designSegment src body) s = .next ((frameTaken src s))) ∧
  (∀ (src : Station) (body : List Byte) (seg : Segment) (s : State),
     hearsFrames s → s.pcu.run ≠ .cut → parseSegment body = some seg → seg.designId = s.dld.designId → bandOf s.params.pw
       s.params.nw s.dld.v seg.number = .positive → s.dld.state = .opened →
     exec (.designSegment src body) s = .next ({ frameTaken src s with dld := { s.dld with resend := true } })) ∧
  (∀ (src : Station) (body : List Byte) (seg : Segment) (s : State) (reason : LockReason),
     hearsFrames s → s.pcu.run ≠ .cut → parseSegment body = some seg → seg.designId = s.dld.designId → s.dld.state ≠
       .lockout → (if bandOf s.params.pw s.params.nw s.dld.v seg.number = .outside then some LockReason.window else if
       seg.number ≠ s.dld.v then none else if seg.r0 ≠ ringL s.drg then some .gap else segmentInvalid seg.r0 seg.records) =
       some reason →
     ∃ u, exec (.designSegment src body) s = .next u ∧
       raisedIn .loadLockout (lockCode reason) seg.number (frameTaken src s) u ∧
       (∀ c : FaultCode, c ≠ .loadLockout → faultRec c u = faultRec c (frameTaken src s)) ∧
       u.flt.supply = s.flt.supply ∧
       u.flt.axisMark = s.flt.axisMark ∧
       u = { frameTaken src s with
           dld := { s.dld with state := .lockout, lockReason := reason, waitCause := .none }, flt := u.flt }) ∧
  (∀ (n : Nat) (r : Rec),
    (recordInvalid n r = some .badRecord ↔ r.kind = 0 ∨ 7 ≤ r.kind.toNat ∨ (r.kind = 4 ∧ 32 ≤ r.o1.toNat)) ∧
    (recordInvalid n r = some .range ↔ n = 16777215 ∧ 1 ≤ r.kind.toNat ∧ r.kind.toNat ≤ 5 ∧ (r.kind = 4 → r.o1.toNat ≤ 31)) ∧
    (recordInvalid n r = none ∨ recordInvalid n r = some .badRecord ∨ recordInvalid n r = some .range)) ∧
  (∀ (r0 : Nat) (rs : List Rec),
    (16777216 < r0 + rs.length → segmentInvalid r0 rs = some .range) ∧
    (r0 + rs.length ≤ 16777216 →
      (segmentInvalid r0 rs = none ↔ ∀ i r, rs[i]? = some r → recordInvalid (r0 + i) r = none) ∧
      (∀ reason, segmentInvalid r0 rs = some reason ↔ ∃ i r, rs[i]? = some r ∧ recordInvalid (r0 + i) r = some reason ∧
        ∀ j q, j < i → rs[j]? = some q → recordInvalid (r0 + j) q = none)))

/-- A valid expected segment that does not fit: pruning, WAIT with its cause, and pruning that makes it fit (R7, R8, R11,
R12, R13, R14, R26, R36, R64, R66, R67). That the loader stays in WAIT with cause TRAIL, also where room and trail would
meet R67, is the model's reading, log entry 37. -/
def Obligations.SegmentsThatDoNotFit : Prop :=
  (∀ (src : Station) (body : List Byte) (seg : Segment) (s : State),
     hearsFrames s → s.pcu.run ≠ .cut → parseSegment body = some seg → seg.designId = s.dld.designId → seg.number = s.dld.v
       → seg.r0 = ringL s.drg → segmentInvalid seg.r0 seg.records = none → s.dld.state = .opened → s.drg.trail.length +
       colorCount seg.records ≤ 64 → ringRoom s.drg < seg.records.length → s.pcu.cursor.n < ringL s.drg →
     exec (.designSegment src body) s = .next ({ frameTaken src s with
         dld := { s.dld with state := .wait, resend := true, waitCause := .room } })) ∧
  (∀ (src : Station) (body : List Byte) (seg : Segment) (s : State),
     hearsFrames s → s.pcu.run ≠ .cut → parseSegment body = some seg → seg.designId = s.dld.designId → seg.number = s.dld.v
       → seg.r0 = ringL s.drg → segmentInvalid seg.r0 seg.records = none → s.dld.state = .opened → s.drg.trail.length +
       colorCount seg.records ≤ 64 → ringRoom s.drg < seg.records.length → ringL s.drg ≤ s.pcu.cursor.n → ringForm s.drg →
       seg.records.length ≤ 64 →
     exec (.designSegment src body) s = .next ({ frameTaken src s with
         drg := ⟨ringL s.drg, [], [], colorInForce s.drg (ringL s.drg)⟩,
         dld := { s.dld with resend := true, waitCause := .none } })) ∧
  (∀ (src : Station) (body : List Byte) (seg : Segment) (s : State) (e : Nat × Nat),
     hearsFrames s → s.pcu.run ≠ .cut → parseSegment body = some seg → seg.designId = s.dld.designId → seg.number = s.dld.v
       → seg.r0 = ringL s.drg → segmentInvalid seg.r0 seg.records = none → s.dld.state = .opened → 64 < s.drg.trail.length +
       colorCount seg.records → s.drg.trail[s.drg.trail.length + colorCount seg.records - 65]? = some e → s.pcu.cursor.n ≤
       e.1 → s.pcu.cursor.n < ringL s.drg → ringForm s.drg →
     ∃ u, exec (.designSegment src body) s = .next u ∧
       u.drg.F = max s.drg.F s.pcu.cursor.n ∧
       ringL u.drg = ringL s.drg ∧
       ringForm u.drg ∧
       (∀ m : Nat, ringGet u.drg m = if m < u.drg.F then none else ringGet s.drg m) ∧
       (∀ m : Nat, u.drg.F ≤ m → m ≤ ringL s.drg → colorInForce u.drg m = colorInForce s.drg m) ∧
       u = { frameTaken src s with
           drg := u.drg, dld := { s.dld with state := .wait, resend := true, waitCause := .trail } }) ∧
  (∀ (src : Station) (body : List Byte) (seg : Segment) (s : State) (e : Nat × Nat),
     hearsFrames s → s.pcu.run ≠ .cut → parseSegment body = some seg → seg.designId = s.dld.designId → seg.number = s.dld.v
       → seg.r0 = ringL s.drg → segmentInvalid seg.r0 seg.records = none → s.dld.state = .opened → 64 < s.drg.trail.length +
       colorCount seg.records → s.drg.trail[s.drg.trail.length + colorCount seg.records - 65]? = some e → e.1 <
       s.pcu.cursor.n → ringForm s.drg → seg.records.length + ringL s.drg ≤ 4096 + (e.1 + 1) → (s.pcu.win ≠ .preparing ∨
       isMoving s.pcu.run = false ∨ s.pcu.pendingStop ≠ none ∨ s.pcu.haltSeen = true ∨ agreementWaiting s = true ∨
       s.pcu.edge ≠ .settled ∨ roleReady s = false) → (s.pcu.win = .opened → s.pcu.edge ≠ .settled ∨ workInFlight s = true)
       →
     ∃ u, exec (.designSegment src body) s = .next u ∧
       u.drg.F = max (e.1 + 1) (min (s.pcu.cursor.n - s.params.retain) (ringL s.drg + seg.records.length)) ∧
       ringL u.drg = ringL s.drg + seg.records.length ∧
       ringForm u.drg ∧
       (∀ m : Nat, ringGet u.drg m = if m < u.drg.F then none else if m < ringL s.drg then ringGet s.drg m else
         seg.records[m - ringL s.drg]?) ∧
       (∀ m : Nat, u.drg.F ≤ m → m ≤ ringL s.drg → colorInForce u.drg m = colorInForce s.drg m) ∧
       u = { frameTaken src s with
           drg := u.drg, dld := { s.dld with v := s.dld.v + 1, resend := false },
           pcu := { s.pcu with
               starve := if s.pcu.run ≠ .running ∨ (ringGet u.drg s.pcu.cursor.n).isSome = true then .stopped else if
                 s.pcu.win = .preparing ∧ s.pcu.pendingStop = none ∧ s.pcu.starve = .stopped then .running
                 (s.params.starveLimit * 100000) else s.pcu.starve } }) ∧
  (∀ (src : Station) (body : List Byte) (seg : Segment) (s : State) (e : Nat × Nat),
     hearsFrames s → s.pcu.run ≠ .cut → parseSegment body = some seg → seg.designId = s.dld.designId → seg.number = s.dld.v
       → seg.r0 = ringL s.drg → segmentInvalid seg.r0 seg.records = none → s.dld.state = .opened → 64 < s.drg.trail.length +
       colorCount seg.records → s.drg.trail[s.drg.trail.length + colorCount seg.records - 65]? = some e → e.1 <
       s.pcu.cursor.n → ringForm s.drg →
     ∃ u, exec (.designSegment src body) s = .next u ∧
       exec (.designSegment src body) { s with drg := raiseF (e.1 + 1) s.drg } = .next u ∧
       (raiseF (e.1 + 1) s.drg).F = e.1 + 1 ∧
       ringL (raiseF (e.1 + 1) s.drg) = ringL s.drg ∧
       ringForm (raiseF (e.1 + 1) s.drg) ∧
       (raiseF (e.1 + 1) s.drg).trail.length + colorCount seg.records = 64 ∧
       (∀ m : Nat, ringGet (raiseF (e.1 + 1) s.drg) m = if m ≤ e.1 then none else ringGet s.drg m) ∧
       (∀ m : Nat, e.1 < m → m ≤ ringL s.drg → colorInForce (raiseF (e.1 + 1) s.drg) m = colorInForce s.drg m)) ∧
  (∀ (src : Station) (body : List Byte) (seg : Segment) (s : State) (e : Nat × Nat),
     hearsFrames s → s.pcu.run ≠ .cut → parseSegment body = some seg → seg.designId = s.dld.designId → seg.number = s.dld.v
       → seg.r0 = ringL s.drg → segmentInvalid seg.r0 seg.records = none → s.dld.state = .opened → 64 < s.drg.trail.length +
       colorCount seg.records → s.drg.trail[s.drg.trail.length + colorCount seg.records - 65]? = some e → e.1 <
       s.pcu.cursor.n → s.pcu.cursor.n < ringL s.drg → 4096 + max s.drg.F (e.1 + 1) < seg.records.length + ringL s.drg →
       ringForm s.drg →
     ∃ u, exec (.designSegment src body) s = .next u ∧
       u.drg.F = max s.drg.F (e.1 + 1) ∧
       ringL u.drg = ringL s.drg ∧
       ringForm u.drg ∧
       (∀ m : Nat, ringGet u.drg m = if m < u.drg.F then none else ringGet s.drg m) ∧
       (∀ m : Nat, u.drg.F ≤ m → m ≤ ringL s.drg → colorInForce u.drg m = colorInForce s.drg m) ∧
       u = { frameTaken src s with drg := u.drg, dld := { s.dld with state := .wait, resend := true, waitCause := .room } })

/-- A crossing at a READY station opens the next window: window state, cursor, rates, pending changes, frame (R5, R16, R20,
R22, R23, R38, R70, R106, R122, R150, R151, R153). Log entries: 4, a crossing that is not awaited changes nothing; 20, a
window that leaves the cursor below F, which pruning has raised since READY, rebases the ring with LOAD-LOCKOUT raised. -/
def Obligations.CrossingOpensTheNextWindow : Prop :=
  (∀ (lines : CodeLines) (w : WindowRec) (s : State),
     inService s = true → s.pcu.win = .ready → s.pcu.armed = true → s.pcu.next = some w →
     ∃ u, exec (.crossing lines) s = .next u ∧
       u.flt.axisMark = s.flt.axisMark ∧
       u.flt.supply = s.flt.supply ∧
       (w.kind = .prepare → u.pcu.cursor = s.pcu.cursor) ∧
       (∀ n : Nat, w.kind = .move n → u.pcu.cursor = if isStitch w.copy then ⟨s.pcu.cursor.n, .stroke⟩ else ⟨s.pcu.cursor.n
         + 1, .first⟩) ∧
       (∀ n : Nat, w.kind = .stroke n ∨ w.kind = .trim n ∨ w.kind = .change n → u.pcu.cursor = ⟨s.pcu.cursor.n + 1, .first⟩)
         ∧
       (∀ n : Nat, w.kind = .retreat n → u.pcu.cursor = ⟨n - 1, .first⟩) ∧
       (∀ n : Nat, w.kind = .advance n → u.pcu.cursor = if isStitch w.copy then ⟨n, .stroke⟩ else ⟨n + 1, .first⟩) ∧
       (∀ n : Nat, w.kind = .move n ∨ w.kind = .stroke n → u.pcu.workRate = s.pcu.setRate) ∧
       ((∀ n : Nat, w.kind ≠ .move n ∧ w.kind ≠ .stroke n) → u.pcu.workRate = s.pcu.workRate) ∧
       u.pcu = { s.pcu with
           win := .opened, openW := some w, next := none, cursor := u.pcu.cursor, edge := .inGuard, armed := false,
           stall := .stopped, haltWait := .stopped, workRate := u.pcu.workRate,
           run := if isRunning s.pcu.haltWait = true ∨ s.pcu.traversal.map Traversal.target = some (some u.pcu.cursor) then
             .stopping else s.pcu.run, preparePending := if w.kind = .prepare then false else s.pcu.preparePending,
           pendingStop := if s.pcu.traversal.map Traversal.target = some (some u.pcu.cursor) then some
             (s.pcu.pendingStop.getD (if s.pcu.traversal.map Traversal.endLimited = some true then .designEnd else
             .traverseDone)) else s.pcu.pendingStop } ∧
       (s.drg.F ≤ u.pcu.cursor.n → u.drg = (setCursor u.pcu.cursor s).drg ∧ u.dld = (setCursor u.pcu.cursor s).dld) ∧
       (u.pcu.cursor.n < s.drg.F → u.drg = ⟨u.pcu.cursor.n, [], [], s.drg.base⟩ ∧ u.dld = { s.dld with
           state := .lockout, lockReason := .rebase, waitCause := .none } ∧ raisedIn .loadLockout 5 s.dld.v s u) ∧
       (u.stu.participation = s.stu.pendingPart.getD s.stu.participation ∧ u.stu.pendingPart = none ∧ u.stu.C = s.stu.C ∧
         u.stu.tail = s.stu.tail) ∧
       (∀ i : Fin 15, u.slu.pendingNeedles[i] = ⟨none, false⟩ ∧ u.slu.needles[i] = if s.slu.pendingNeedles[i].clear then
         ⟨s.slu.pendingNeedles[i].state.getD s.slu.needles[i].state, 0, 0, 0⟩ else { s.slu.needles[i] with
           state := s.slu.pendingNeedles[i].state.getD s.slu.needles[i].state }) ∧
       (isHead s = true → u.axu = s.axu) ∧
       (isHead s = false → u.thm = s.thm ∧ u.slu = { s.slu with
           needles := u.slu.needles, pendingNeedles := u.slu.pendingNeedles } ∧ u.stu = { s.stu with
           participation := u.stu.participation, pendingPart := none }) ∧
       u = { s with
           pcu := u.pcu, drg := u.drg, dld := u.dld, axu := u.axu, slu := u.slu, stu := u.stu, thm := u.thm, flt := u.flt }) ∧
  (∀ (lines : CodeLines) (s : State),
     inService s = true → (s.pcu.win ≠ .ready ∨ s.pcu.armed = false ∨ s.pcu.next = none) →
     exec (.crossing lines) s = .next (s))

/-- At a STROKE window a head strokes exactly where the four conditions hold, and rides otherwise (R12, R103, R114, R124,
R125, R127, R133). F is at or below N, as CursorStaysInTheRing keeps it. That the colour is read at the cursor's new record
is log entry 33. -/
def Obligations.StrokeOrRideAtAStrokeWindow : Prop :=
  ∀ (lines : CodeLines) (n : Nat) (r : Rec) (s : State),
    inService s = true → isHead s = true → s.pcu.win = .ready → s.pcu.armed = true → s.pcu.next = some ⟨.stroke n, r⟩ →
      s.drg.F ≤ s.pcu.cursor.n →
    ∃ u, exec (.crossing lines) s = .next u ∧
      u.slu = { s.slu with needles := u.slu.needles, pendingNeedles := u.slu.pendingNeedles } ∧
      (if u.stu.participation = .enabled ∧ s.stu.C ≤ n then (if mapNeedle (colorInForce u.drg u.pcu.cursor.n) s ≠ 0 ∧
        (needleEntry (mapNeedle (colorInForce u.drg u.pcu.cursor.n) s) u).state = .ready ∧ s.slu.sel = .settled (mapNeedle
        (colorInForce u.drg u.pcu.cursor.n) s) then u.flt = s.flt ∧ u.thm = { s.thm with
          feed := 0, surge := false, oneShot := .stopped, conv := .none, sample := none } ∧ u.stu = { s.stu with
          participation := .enabled, pendingPart := none, phase := .downstroke, recNo := n, copy := r,
          needle := mapNeedle (colorInForce u.drg u.pcu.cursor.n) s, downSeen := false,
          tsWait := .running (60000000 / s.pcu.setRate - 60000000 / s.pcu.setRate * s.params.moveShare / 16),
          strokeLimit := .running (s.params.strokeLimit * 10000) } ∧ needleDrive u = true else raisedIn .needleUnmapped
        (BitVec.ofNat 8 (colorInForce u.drg u.pcu.cursor.n)) (BitVec.ofNat 8 (mapNeedle (colorInForce u.drg u.pcu.cursor.n)
        s)) s u ∧ (∀ c : FaultCode, c ≠ .needleUnmapped → faultRec c u = faultRec c s) ∧ u.flt.axisMark = s.flt.axisMark ∧
        u.flt.supply = s.flt.supply ∧ u.thm = s.thm ∧ u.stu = { s.stu with
          participation := .enabled, pendingPart := none }) else u.flt = s.flt ∧ u.thm = s.thm ∧ u.stu = { s.stu with
          participation := u.stu.participation, pendingPart := none })

/-- The work of each window at an axis: commanded position, clamp, steps, move time, limit faults (R2, R25, R39, R80, R88,
R89, R91, R93, R94, R95). A RETREAT or ADVANCE that leaves the cursor below F raises LOAD-LOCKOUT, log entry 20. -/
def Obligations.WindowMovesOfAnAxis : Prop :=
  (∀ (lines : CodeLines) (n : Nat) (r : Rec) (pc : Int) (pt : Int) (st : Int) (d : Int) (s : State),
     inService s = true → isAxis s = true → s.pcu.win = .ready → s.pcu.armed = true → s.pcu.next = some ⟨.move n, r⟩ →
       s.drg.F ≤ s.pcu.cursor.n → max (-1000000000) (min (s.axu.pc + displacement s.role r) 1000000000) = pc → min
       s.params.lmax (max pc s.params.lmin) = pt → pt * s.params.p / 100 = st → st - s.axu.sPos = d →
     ∃ u, exec (.crossing lines) s = .next u ∧
       u.axu = (if d = 0 then { s.axu with
           sPos := st, pf := pt, pc := pc, move := none, excursion := false, clampFlag := decide (pt ≠ pc) } else { s.axu
         with
           clampFlag := decide (pt ≠ pc), dir := some (if d < 0 then .negative else .positive),
           move := some ⟨pc, pt, st, d, max (60000000 / s.pcu.setRate * s.params.moveShare / 16) (max ((d.natAbs * 1000 +
             s.params.vmax - 1) / s.params.vmax) (if s.axu.excursion then (d.natAbs * 1000 + s.params.homeRate - 1) /
             s.params.homeRate else 0)), 0⟩ }) ∧
       (if pt = pc then u.flt = s.flt else raisedIn (if isStitch r then .limitStitch else .limitJump) (if pt < pc then 1
         else 2) (BitVec.ofNat 8 (min (pc - pt).natAbs 255)) s u ∧ (∀ c : FaultCode, c ≠ (if isStitch r then .limitStitch
         else .limitJump) → faultRec c u = faultRec c s) ∧ u.flt.axisMark = s.flt.axisMark ∧ u.flt.supply = s.flt.supply)) ∧
  (∀ (lines : CodeLines) (n : Nat) (r : Rec) (pc : Int) (pt : Int) (st : Int) (d : Int) (s : State),
     inService s = true → isAxis s = true → s.pcu.win = .ready → s.pcu.armed = true → s.pcu.next = some ⟨.advance n, r⟩ →
       max (-1000000000) (min (s.axu.pc + displacement s.role r) 1000000000) = pc → min s.params.lmax (max pc s.params.lmin)
       = pt → pt * s.params.p / 100 = st → st - s.axu.sPos = d →
     ∃ u, exec (.crossing lines) s = .next u ∧
       u.flt.axisMark = s.flt.axisMark ∧
       u.flt.supply = s.flt.supply ∧
       u.axu = (if d = 0 then { s.axu with
           sPos := st, pf := pt, pc := pc, move := none, excursion := false, clampFlag := decide (pt ≠ pc) } else { s.axu
         with
           clampFlag := decide (pt ≠ pc), dir := some (if d < 0 then .negative else .positive),
           move := some ⟨pc, pt, st, d, max (60000000 / s.params.traverseRate) (max ((d.natAbs * 1000 + s.params.vmax - 1) /
             s.params.vmax) (if s.axu.excursion then (d.natAbs * 1000 + s.params.homeRate - 1) / s.params.homeRate else 0)),
             0⟩ }) ∧
       (s.drg.F ≤ u.pcu.cursor.n → u.flt = s.flt) ∧
       (∀ c : FaultCode, c ≠ .loadLockout → faultRec c u = faultRec c s)) ∧
  (∀ (lines : CodeLines) (n : Nat) (r : Rec) (pc : Int) (pt : Int) (st : Int) (d : Int) (s : State),
     inService s = true → isAxis s = true → s.pcu.win = .ready → s.pcu.armed = true → s.pcu.next = some ⟨.retreat n, r⟩ →
       max (-1000000000) (min (s.axu.pc - displacement s.role r) 1000000000) = pc → min s.params.lmax (max pc s.params.lmin)
       = pt → pt * s.params.p / 100 = st → st - s.axu.sPos = d →
     ∃ u, exec (.crossing lines) s = .next u ∧
       u.flt.axisMark = s.flt.axisMark ∧
       u.flt.supply = s.flt.supply ∧
       u.axu = (if d = 0 then { s.axu with
           sPos := st, pf := pt, pc := pc, move := none, excursion := false, clampFlag := decide (pt ≠ pc) } else { s.axu
         with
           clampFlag := decide (pt ≠ pc), dir := some (if d < 0 then .negative else .positive),
           move := some ⟨pc, pt, st, d, max (60000000 / s.params.traverseRate) (max ((d.natAbs * 1000 + s.params.vmax - 1) /
             s.params.vmax) (if s.axu.excursion then (d.natAbs * 1000 + s.params.homeRate - 1) / s.params.homeRate else 0)),
             0⟩ }) ∧
       (s.drg.F ≤ u.pcu.cursor.n → u.flt = s.flt) ∧
       (∀ c : FaultCode, c ≠ .loadLockout → faultRec c u = faultRec c s)) ∧
  (∀ (lines : CodeLines) (r : Rec) (pc : Int) (pt : Int) (st : Int) (d : Int) (s : State),
     inService s = true → isAxis s = true → s.pcu.win = .ready → s.pcu.armed = true → s.pcu.next = some ⟨.prepare, r⟩ →
       s.drg.F ≤ s.pcu.cursor.n → max (-1000000000) (min (s.axu.pc) 1000000000) = pc → min s.params.lmax (max pc
       s.params.lmin) = pt → pt * s.params.p / 100 = st → st - s.axu.sPos = d →
     ∃ u, exec (.crossing lines) s = .next u ∧
       u.axu = (if d = 0 then { s.axu with
           sPos := st, pf := pt, pc := pc, move := none, excursion := false, clampFlag := decide (pt ≠ pc) } else { s.axu
         with
           clampFlag := decide (pt ≠ pc), dir := some (if d < 0 then .negative else .positive),
           move := some ⟨pc, pt, st, d, max (60000000 / s.params.traverseRate) (max ((d.natAbs * 1000 + s.params.vmax - 1) /
             s.params.vmax) (if s.axu.excursion then (d.natAbs * 1000 + s.params.homeRate - 1) / s.params.homeRate else 0)),
             0⟩ }) ∧
       u.flt = s.flt) ∧
  (∀ (lines : CodeLines) (w : WindowRec) (s : State),
     inService s = true → s.pcu.win = .ready → s.pcu.armed = true → s.pcu.next = some w → isAxis s = true → restsAxis w.kind
       = true → s.drg.F ≤ s.pcu.cursor.n →
     ∃ u, exec (.crossing lines) s = .next u ∧
       u.axu = s.axu ∧
       u.flt = s.flt)

/-- A head at PREPARE, CHANGE and TRIM: trim due, look-up, move to the needle found; and no work in MOVE, RETREAT and
ADVANCE (R25, R103, R107, R110, R111, R113, R114, R115, R116, R117, R118, R152). F is at or below N, as CursorStaysInTheRing
keeps it. Only a window that leaves the cursor below F raises LOAD-LOCKOUT, log entry 20. -/
def Obligations.SelectorAndTrimmerAtAWindow : Prop :=
  (∀ (lines : CodeLines) (w : WindowRec) (s : State),
     inService s = true → isHead s = true → s.pcu.win = .ready → s.pcu.armed = true → s.pcu.next = some w → restsHead w.kind
       = true →
     ∃ u, exec (.crossing lines) s = .next u ∧
       u.flt.axisMark = s.flt.axisMark ∧
       u.flt.supply = s.flt.supply ∧
       u.slu = { s.slu with needles := u.slu.needles, pendingNeedles := u.slu.pendingNeedles } ∧
       u.thm = s.thm ∧
       u.stu = { s.stu with participation := s.stu.pendingPart.getD s.stu.participation, pendingPart := none } ∧
       u.axu = s.axu ∧
       (s.drg.F ≤ u.pcu.cursor.n → u.flt = s.flt) ∧
       (∀ c : FaultCode, c ≠ .loadLockout → faultRec c u = faultRec c s)) ∧
  (∀ (lines : CodeLines) (w : WindowRec) (s : State),
     inService s = true → isHead s = true → s.pcu.win = .ready → s.pcu.armed = true → s.drg.F ≤ s.pcu.cursor.n → s.pcu.next
       = some w → trimWindow w.kind = true → ((s.stu.pendingPart.getD s.stu.participation = .enabled ∧ s.stu.tail = true)) →
     ∃ u, exec (.crossing lines) s = .next u ∧
       u.slu = { s.slu with
           needles := u.slu.needles, pendingNeedles := u.slu.pendingNeedles,
           trim := if isRunning s.slu.trim then s.slu.trim else .running (s.params.trimPulse * 1000) } ∧
       u.flt = s.flt ∧
       u.thm = s.thm ∧
       u.stu = { s.stu with participation := .enabled, pendingPart := none }) ∧
  (∀ (lines : CodeLines) (n : Nat) (r : Rec) (s : State),
     inService s = true → isHead s = true → s.pcu.win = .ready → s.pcu.armed = true → s.drg.F ≤ s.pcu.cursor.n → s.pcu.next
       = some ⟨.trim n, r⟩ → (¬ (s.stu.pendingPart.getD s.stu.participation = .enabled ∧ s.stu.tail = true)) →
     ∃ u, exec (.crossing lines) s = .next u ∧
       u.slu = { s.slu with needles := u.slu.needles, pendingNeedles := u.slu.pendingNeedles } ∧
       u.flt = s.flt ∧
       u.thm = s.thm ∧
       u.stu = { s.stu with participation := u.stu.participation, pendingPart := none }) ∧
  (∀ (lines : CodeLines) (colour : Nat) (n : Nat) (s : State),
     inService s = true → isHead s = true → s.pcu.win = .ready → s.pcu.armed = true → s.drg.F ≤ s.pcu.cursor.n → (¬
       (s.stu.pendingPart.getD s.stu.participation = .enabled ∧ s.stu.tail = true)) → colourWanted s = some colour →
       mapNeedle colour s = n →
     ∃ u, exec (.crossing lines) s = .next u ∧
       u.flt.axisMark = s.flt.axisMark ∧
       u.flt.supply = s.flt.supply ∧
       u.thm = s.thm ∧
       u.stu = { s.stu with participation := u.stu.participation, pendingPart := none } ∧
       (if needleUsable n u = false then u.slu = { s.slu with
           needles := u.slu.needles, pendingNeedles := u.slu.pendingNeedles } ∧ raisedIn .needleUnmapped (BitVec.ofNat 8
         colour) (BitVec.ofNat 8 n) s u ∧ (∀ c : FaultCode, c ≠ .needleUnmapped → faultRec c u = faultRec c s) else if
         s.slu.sel = .settled n then u.flt = s.flt ∧ u.slu = { s.slu with
           needles := u.slu.needles, pendingNeedles := u.slu.pendingNeedles, counter := n } else if s.slu.sel = .jammed then
         u.flt = s.flt ∧ u.slu = { s.slu with needles := u.slu.needles, pendingNeedles := u.slu.pendingNeedles } else if
         s.slu.sel = .unknown ∧ readCode s.params.needles s.slu.detent lines = none then raisedIn .selectorJam (BitVec.ofNat
         8 n) 0 s u ∧ (∀ c : FaultCode, c ≠ .selectorJam → faultRec c u = faultRec c s) ∧ u.slu.sel = .jammed else if
         s.slu.sel = .unknown ∧ readCode s.params.needles s.slu.detent lines = some n then u.flt = s.flt ∧ u.slu.sel =
         .settled n ∧ u.slu.counter = n else u.flt = s.flt)) ∧
  (∀ (lines : CodeLines) (colour : Nat) (n : Nat) (q : Nat) (s : State),
     inService s = true → isHead s = true → s.pcu.win = .ready → s.pcu.armed = true → s.drg.F ≤ s.pcu.cursor.n → (¬
       (s.stu.pendingPart.getD s.stu.participation = .enabled ∧ s.stu.tail = true)) → colourWanted s = some colour →
       mapNeedle colour s = n → selectorStart lines s = some q → q ≠ n →
     ∃ u, exec (.crossing lines) s = .next u ∧
       (needleUsable n u = true → u.flt = s.flt ∧ selectorBusy u = true ∧ u.slu = { s.slu with
           needles := u.slu.needles, pendingNeedles := u.slu.pendingNeedles, sel := .moving n, counter := q,
           dir := if q < n then .positive else .negative,
           moveLimit := .running (((n - q) + (q - n)) * (s.params.selLimit * 10000)), settle := .stopped, reMoved := false,
           stepPulses := 1, lastCode := if s.slu.sel = .unknown then some q else none }))

/-- GUARD_END and MIN_ASSERTION_END: PACE again, the end of a window's work, and what the station then does (R8, R22, R23,
R24, R25, R26, R27, R35, R36, R52, R150, R151). Log entries: 4, such an expiry elsewhere changes nothing; 15, the mark of
the first agreement after joining ends at a stop; 18, a stop pending stops the station also while its run state still reads
RUNNING; 39, the step counts for a STITCH alone; 41, a traversal whose records are given up stays PREPARING. -/
def Obligations.WindowEndsAndTheNextBegins : Prop :=
  (∀ (s : State),
     inService s = true → s.pcu.edge = .inGuard →
     exec (.guardEnd) s = .next ({ s with pcu := { s.pcu with edge := .minAssertion, pace := true, armed := true } })) ∧
  (∀ (s : State),
     inService s = true → s.pcu.edge ≠ .inGuard →
     exec (.guardEnd) s = .next (s)) ∧
  (∀ (s : State),
     inService s = true → s.pcu.edge ≠ .minAssertion →
     exec (.minAssertionEnd) s = .next (s)) ∧
  (∀ (s : State),
     inService s = true → s.pcu.edge = .minAssertion → (s.pcu.win = .ready ∨ (s.pcu.win = .opened ∧ workInFlight s = true) ∨
       (s.pcu.win = .preparing ∧ (isMoving s.pcu.run = false ∨ s.pcu.pendingStop ≠ none ∨ s.pcu.haltSeen = true ∨
       agreementWaiting s = true ∨ roleReady s = false))) →
     exec (.minAssertionEnd) s = .next ({ s with
         pcu := { s.pcu with
             edge := .settled,
             starve := if s.pcu.run ≠ .running ∨ (recAtN s).isSome = true then .stopped else if s.pcu.win = .preparing ∧
               s.pcu.pendingStop = none ∧ s.pcu.starve = .stopped then .running (s.params.starveLimit * 100000) else
               s.pcu.starve } })) ∧
  (∀ (s : State),
     inService s = true → s.pcu.edge = .minAssertion → s.pcu.win = .opened → workInFlight s = false → s.pcu.pendingStop =
       none → (isMoving s.pcu.run = false ∨ s.pcu.pendingStop ≠ none ∨ s.pcu.haltSeen = true ∨ agreementWaiting s = true ∨
       roleReady s = false) →
     exec (.minAssertionEnd) s = .next ({ s with
         pcu := { s.pcu with
             edge := .settled, win := .preparing, openW := none,
             starve := if s.pcu.run ≠ .running ∨ (recAtN s).isSome = true then .stopped else if s.pcu.starve = .stopped then
               .running (s.params.starveLimit * 100000) else s.pcu.starve } })) ∧
  (∀ (s : State) (r : StopReason),
     inService s = true → s.pcu.edge = .minAssertion → s.pcu.win = .opened → workInFlight s = false → s.pcu.pendingStop =
       some r →
     ∃ u, exec (.minAssertionEnd) s = .next u ∧
       u.pcu = { s.pcu with
           run := .stopped, win := .preparing, openW := none, next := none, preparePending := false, pendingStop := none,
           stopReason := r, starve := .stopped, stall := .stopped, haltWait := .stopped, pace := true, armed := true,
           traversal := none, joinAgreement := false, cursor := s.pcu.cursor,
           haltPulse := if s.pcu.traversal.map Traversal.target = some (some (s.pcu.cursor)) then .running 50 else
             s.pcu.haltPulse, agreement := if (pacingPeers s).isEmpty then .stopped else .running 100000,
           edge := .settled } ∧
       (∀ i : Station, u.ptb.peers[i] = { s.ptb.peers[i] with qualified := false }) ∧
       u.ptb.joined = s.ptb.joined ∧
       u.liu = (if s.liu.tx.any (fun t => t.slot == .beacon) then { s.liu with
           tx := s.liu.tx.map fun t => { t with again := true } } else { s.liu with beaconDue := true }) ∧
       u = { s with pcu := u.pcu, ptb := u.ptb, liu := u.liu }) ∧
  (∀ (r : Rec) (s : State),
     inService s = true → s.pcu.edge = .minAssertion → (s.pcu.win = .preparing ∨ (s.pcu.win = .opened ∧ workInFlight s =
       false)) → s.pcu.pendingStop = none → s.pcu.haltSeen = false → agreementWaiting s = false → roleReady s = true →
       s.pcu.run = .running → s.pcu.preparePending = true → recAtN s = some r →
     exec (.minAssertionEnd) s = .next ({ s with
         pcu := { s.pcu with
             edge := .settled, openW := if s.pcu.win = .opened then none else s.pcu.openW, win := .ready,
             next := some ⟨.prepare, r⟩, pace := false, stall := .running (s.params.stallTime * 100000),
             starve := .stopped } })) ∧
  (∀ (r : Rec) (k : Window) (s : State),
     inService s = true → s.pcu.edge = .minAssertion → (s.pcu.win = .preparing ∨ (s.pcu.win = .opened ∧ workInFlight s =
       false)) → s.pcu.pendingStop = none → s.pcu.haltSeen = false → agreementWaiting s = false → roleReady s = true →
       s.pcu.run = .running → s.pcu.preparePending = false → recAtN s = some r → (if r.kind = 1 then (if s.pcu.cursor.step =
       .first then some (Window.move s.pcu.cursor.n) else some (.stroke s.pcu.cursor.n)) else if r.kind = 2 then some (.move
       s.pcu.cursor.n) else if r.kind = 3 then some (.trim s.pcu.cursor.n) else if r.kind = 4 then some (.change
       s.pcu.cursor.n) else none) = some k →
     exec (.minAssertionEnd) s = .next ({ s with
         pcu := { s.pcu with
             edge := .settled, openW := if s.pcu.win = .opened then none else s.pcu.openW, win := .ready,
             next := some ⟨k, r⟩, pace := false, stall := .running (s.params.stallTime * 100000), starve := .stopped } })) ∧
  (∀ (r : Rec) (s : State),
     inService s = true → s.pcu.edge = .minAssertion → (s.pcu.win = .preparing ∨ (s.pcu.win = .opened ∧ workInFlight s =
       false)) → s.pcu.pendingStop = none → s.pcu.haltSeen = false → agreementWaiting s = false → roleReady s = true →
       s.pcu.run = .running → s.pcu.preparePending = false → recAtN s = some r → r.kind = 5 →
     ∃ u, exec (.minAssertionEnd) s = .next u ∧
       u.pcu = { s.pcu with
           run := .stopped, win := .preparing, openW := none, next := none, preparePending := false, pendingStop := none,
           stopReason := .programmedStop, starve := .stopped, stall := .stopped, haltWait := .stopped, pace := true,
           armed := true, traversal := none, joinAgreement := false, cursor := ⟨s.pcu.cursor.n + 1, .first⟩,
           haltPulse := if s.pcu.traversal.map Traversal.target = some (some (⟨s.pcu.cursor.n + 1, .first⟩)) then .running
             50 else s.pcu.haltPulse, agreement := if (pacingPeers s).isEmpty then .stopped else .running 100000,
           edge := .settled } ∧
       (∀ i : Station, u.ptb.peers[i] = { s.ptb.peers[i] with qualified := false }) ∧
       u.ptb.joined = s.ptb.joined ∧
       u.liu = (if s.liu.tx.any (fun t => t.slot == .beacon) then { s.liu with
           tx := s.liu.tx.map fun t => { t with again := true } } else { s.liu with beaconDue := true }) ∧
       u = { s with
           pcu := u.pcu, ptb := u.ptb, liu := u.liu, drg := (setCursor ⟨s.pcu.cursor.n + 1, .first⟩ s).drg,
           dld := (setCursor ⟨s.pcu.cursor.n + 1, .first⟩ s).dld }) ∧
  (∀ (r : Rec) (s : State),
     inService s = true → s.pcu.edge = .minAssertion → (s.pcu.win = .preparing ∨ (s.pcu.win = .opened ∧ workInFlight s =
       false)) → s.pcu.pendingStop = none → s.pcu.haltSeen = false → agreementWaiting s = false → roleReady s = true →
       s.pcu.run = .running → s.pcu.preparePending = false → recAtN s = some r → r.kind = 6 →
     ∃ u, exec (.minAssertionEnd) s = .next u ∧
       u.pcu = { s.pcu with
           run := .stopped, win := .preparing, openW := none, next := none, preparePending := false, pendingStop := none,
           stopReason := .designEnd, starve := .stopped, stall := .stopped, haltWait := .stopped, pace := true,
           armed := true, traversal := none, joinAgreement := false, cursor := s.pcu.cursor,
           haltPulse := if s.pcu.traversal.map Traversal.target = some (some (s.pcu.cursor)) then .running 50 else
             s.pcu.haltPulse, agreement := if (pacingPeers s).isEmpty then .stopped else .running 100000,
           edge := .settled } ∧
       (∀ i : Station, u.ptb.peers[i] = { s.ptb.peers[i] with qualified := false }) ∧
       u.ptb.joined = s.ptb.joined ∧
       u.liu = (if s.liu.tx.any (fun t => t.slot == .beacon) then { s.liu with
           tx := s.liu.tx.map fun t => { t with again := true } } else { s.liu with beaconDue := true }) ∧
       u = { s with pcu := u.pcu, ptb := u.ptb, liu := u.liu }) ∧
  (∀ (s : State),
     inService s = true → s.pcu.edge = .minAssertion → (s.pcu.win = .preparing ∨ (s.pcu.win = .opened ∧ workInFlight s =
       false)) → s.pcu.pendingStop = none → s.pcu.haltSeen = false → agreementWaiting s = false → roleReady s = true →
       s.pcu.run = .running → recAtN s = none →
     exec (.minAssertionEnd) s = .next ({ s with
         pcu := { s.pcu with
             edge := .settled, win := .preparing, openW := if s.pcu.win = .opened then none else s.pcu.openW,
             starve := if s.pcu.starve = .stopped then .running (s.params.starveLimit * 100000) else s.pcu.starve } })) ∧
  (∀ (tv : Traversal) (s : State),
     inService s = true → s.pcu.edge = .minAssertion → (s.pcu.win = .preparing ∨ (s.pcu.win = .opened ∧ workInFlight s =
       false)) → s.pcu.pendingStop = none → s.pcu.haltSeen = false → agreementWaiting s = false → roleReady s = true →
       isTraversing s.pcu.run → s.pcu.traversal = some tv →
     ∃ u, exec (.minAssertionEnd) s = .next u ∧
       u.pcu = Option.elim (if tv.target.isSome = true ∧ tv.target ≠ some s.pcu.cursor ∧ (isAxis s = false ∨
         s.axu.originValid = true) then (if tv.dir = .back then (nextBack s.drg s.pcu.cursor).map fun m => (⟨.retreat (m.1 +
         1), m.2⟩ : WindowRec) else (nextForward s.drg s.pcu.cursor).map fun m => (⟨.advance m.1, m.2⟩ : WindowRec)) else
         none) { s.pcu with
           edge := .settled, win := .preparing, openW := if s.pcu.win = .opened then none else s.pcu.openW,
           starve := .stopped } (fun w => { s.pcu with
           edge := .settled, openW := if s.pcu.win = .opened then none else s.pcu.openW, win := .ready, next := some w,
           pace := false, stall := .running (s.params.stallTime * 100000), starve := .stopped }) ∧
       u = { s with pcu := u.pcu })

/-- HALT seen asserted and released, the halt wait and the HALT pulse (R21, R22, R24, R26, R27, R32, R33, R34, R35, R36,
R52, R150). Log entries: 4, HALT_WAIT_EXPIRY elsewhere changes nothing; 15, the mark of the first agreement after joining
ends at a stop; 39, the step counts for a STITCH alone; 41, a traversal whose records are given up stays PREPARING; 34,
HALT_PULSE_END without a pulse leaves it stopped. -/
def Obligations.HaltStopsTheStation : Prop :=
  (∀ (s : State),
     inService s = true → isMoving s.pcu.run = false →
     exec (.haltSeenAsserted) s = .next ({ s with pcu := { s.pcu with haltSeen := true } })) ∧
  (∀ (s : State),
     inService s = true → isMoving s.pcu.run = true → s.pcu.win = .opened →
     exec (.haltSeenAsserted) s = .next ({ s with
         pcu := { s.pcu with haltSeen := true, run := .stopping, pendingStop := some (s.pcu.pendingStop.getD .halted) } })) ∧
  (∀ (s : State),
     inService s = true → isMoving s.pcu.run = true → s.pcu.win = .ready →
     exec (.haltSeenAsserted) s = .next ({ s with
         pcu := { s.pcu with
             haltSeen := true, haltWait := .running 20, pendingStop := some (s.pcu.pendingStop.getD .halted) } })) ∧
  (∀ (s : State),
     inService s = true → isMoving s.pcu.run = true → s.pcu.win = .preparing →
     ∃ u, exec (.haltSeenAsserted) s = .next u ∧
       u.pcu = { s.pcu with
           run := .stopped, win := .preparing, openW := none, next := none, preparePending := false, pendingStop := none,
           stopReason := s.pcu.pendingStop.getD .halted, starve := .stopped, stall := .stopped, haltWait := .stopped,
           pace := true, armed := true, traversal := none, joinAgreement := false, cursor := s.pcu.cursor,
           haltPulse := if s.pcu.traversal.map Traversal.target = some (some (s.pcu.cursor)) then .running 50 else
             s.pcu.haltPulse, agreement := if (pacingPeers s).isEmpty then .stopped else .running 100000,
           haltSeen := true } ∧
       (∀ i : Station, u.ptb.peers[i] = { s.ptb.peers[i] with qualified := false }) ∧
       u.ptb.joined = s.ptb.joined ∧
       u.liu = (if s.liu.tx.any (fun t => t.slot == .beacon) then { s.liu with
           tx := s.liu.tx.map fun t => { t with again := true } } else { s.liu with beaconDue := true }) ∧
       u = { s with pcu := u.pcu, ptb := u.ptb, liu := u.liu }) ∧
  (∀ (s : State),
     inService s = true → (s.pcu.win ≠ .preparing ∨ isMoving s.pcu.run = false ∨ s.pcu.pendingStop ≠ none ∨ agreementWaiting
       s = true ∨ s.pcu.edge ≠ .settled ∨ roleReady s = false) → (s.pcu.win = .opened → s.pcu.edge ≠ .settled ∨ workInFlight
       s = true) →
     exec (.haltSeenReleased) s = .next ({ s with
         pcu := { s.pcu with
             haltSeen := false,
             starve := if s.pcu.run ≠ .running ∨ (recAtN s).isSome = true then .stopped else if s.pcu.win = .preparing ∧
               s.pcu.pendingStop = none ∧ s.pcu.starve = .stopped then .running (s.params.starveLimit * 100000) else
               s.pcu.starve } })) ∧
  (∀ (r : Rec) (s : State),
     inService s = true → s.pcu.run = .running → s.pcu.win = .preparing → s.pcu.pendingStop = none → agreementWaiting s =
       false → s.pcu.edge = .settled → roleReady s = true → s.pcu.preparePending = true → recAtN s = some r →
     exec (.haltSeenReleased) s = .next ({ s with
         pcu := { s.pcu with
             haltSeen := false, win := .ready, next := some ⟨.prepare, r⟩, pace := false,
             stall := .running (s.params.stallTime * 100000), starve := .stopped } })) ∧
  (∀ (r : Rec) (k : Window) (s : State),
     inService s = true → s.pcu.run = .running → s.pcu.win = .preparing → s.pcu.pendingStop = none → agreementWaiting s =
       false → s.pcu.edge = .settled → roleReady s = true → s.pcu.preparePending = false → recAtN s = some r → (if r.kind =
       1 then (if s.pcu.cursor.step = .first then some (Window.move s.pcu.cursor.n) else some (.stroke s.pcu.cursor.n)) else
       if r.kind = 2 then some (.move s.pcu.cursor.n) else if r.kind = 3 then some (.trim s.pcu.cursor.n) else if r.kind = 4
       then some (.change s.pcu.cursor.n) else none) = some k →
     exec (.haltSeenReleased) s = .next ({ s with
         pcu := { s.pcu with
             haltSeen := false, win := .ready, next := some ⟨k, r⟩, pace := false,
             stall := .running (s.params.stallTime * 100000), starve := .stopped } })) ∧
  (∀ (r : Rec) (s : State),
     inService s = true → s.pcu.run = .running → s.pcu.win = .preparing → s.pcu.pendingStop = none → agreementWaiting s =
       false → s.pcu.edge = .settled → roleReady s = true → s.pcu.preparePending = false → recAtN s = some r → r.kind = 5 →
     ∃ u, exec (.haltSeenReleased) s = .next u ∧
       u.pcu = { s.pcu with
           run := .stopped, win := .preparing, openW := none, next := none, preparePending := false, pendingStop := none,
           stopReason := .programmedStop, starve := .stopped, stall := .stopped, haltWait := .stopped, pace := true,
           armed := true, traversal := none, joinAgreement := false, cursor := ⟨s.pcu.cursor.n + 1, .first⟩,
           haltPulse := if s.pcu.traversal.map Traversal.target = some (some (⟨s.pcu.cursor.n + 1, .first⟩)) then .running
             50 else s.pcu.haltPulse, agreement := if (pacingPeers s).isEmpty then .stopped else .running 100000,
           haltSeen := false } ∧
       (∀ i : Station, u.ptb.peers[i] = { s.ptb.peers[i] with qualified := false }) ∧
       u.ptb.joined = s.ptb.joined ∧
       u.liu = (if s.liu.tx.any (fun t => t.slot == .beacon) then { s.liu with
           tx := s.liu.tx.map fun t => { t with again := true } } else { s.liu with beaconDue := true }) ∧
       u = { s with
           pcu := u.pcu, ptb := u.ptb, liu := u.liu, drg := (setCursor ⟨s.pcu.cursor.n + 1, .first⟩ s).drg,
           dld := (setCursor ⟨s.pcu.cursor.n + 1, .first⟩ s).dld }) ∧
  (∀ (r : Rec) (s : State),
     inService s = true → s.pcu.run = .running → s.pcu.win = .preparing → s.pcu.pendingStop = none → agreementWaiting s =
       false → s.pcu.edge = .settled → roleReady s = true → s.pcu.preparePending = false → recAtN s = some r → r.kind = 6 →
     ∃ u, exec (.haltSeenReleased) s = .next u ∧
       u.pcu = { s.pcu with
           run := .stopped, win := .preparing, openW := none, next := none, preparePending := false, pendingStop := none,
           stopReason := .designEnd, starve := .stopped, stall := .stopped, haltWait := .stopped, pace := true,
           armed := true, traversal := none, joinAgreement := false, cursor := s.pcu.cursor,
           haltPulse := if s.pcu.traversal.map Traversal.target = some (some (s.pcu.cursor)) then .running 50 else
             s.pcu.haltPulse, agreement := if (pacingPeers s).isEmpty then .stopped else .running 100000,
           haltSeen := false } ∧
       (∀ i : Station, u.ptb.peers[i] = { s.ptb.peers[i] with qualified := false }) ∧
       u.ptb.joined = s.ptb.joined ∧
       u.liu = (if s.liu.tx.any (fun t => t.slot == .beacon) then { s.liu with
           tx := s.liu.tx.map fun t => { t with again := true } } else { s.liu with beaconDue := true }) ∧
       u = { s with pcu := u.pcu, ptb := u.ptb, liu := u.liu }) ∧
  (∀ (s : State),
     inService s = true → s.pcu.run = .running → s.pcu.win = .preparing → s.pcu.pendingStop = none → agreementWaiting s =
       false → s.pcu.edge = .settled → roleReady s = true → recAtN s = none →
     exec (.haltSeenReleased) s = .next ({ s with
         pcu := { s.pcu with
             haltSeen := false,
             starve := if s.pcu.starve = .stopped then .running (s.params.starveLimit * 100000) else s.pcu.starve } })) ∧
  (∀ (tv : Traversal) (s : State),
     inService s = true → s.pcu.win = .preparing → s.pcu.pendingStop = none → agreementWaiting s = false → s.pcu.edge =
       .settled → roleReady s = true → isTraversing s.pcu.run → s.pcu.traversal = some tv →
     ∃ u, exec (.haltSeenReleased) s = .next u ∧
       u.pcu = Option.elim (if tv.target.isSome = true ∧ tv.target ≠ some s.pcu.cursor ∧ (isAxis s = false ∨
         s.axu.originValid = true) then (if tv.dir = .back then (nextBack s.drg s.pcu.cursor).map fun m => (⟨.retreat (m.1 +
         1), m.2⟩ : WindowRec) else (nextForward s.drg s.pcu.cursor).map fun m => (⟨.advance m.1, m.2⟩ : WindowRec)) else
         none) { s.pcu with haltSeen := false, starve := .stopped } (fun w => { s.pcu with
           haltSeen := false, win := .ready, next := some w, pace := false,
           stall := .running (s.params.stallTime * 100000), starve := .stopped }) ∧
       u = { s with pcu := u.pcu }) ∧
  (∀ (s : State),
     inService s = true → s.pcu.win = .ready → isRunning s.pcu.haltWait = true → s.pcu.run ≠ .cut →
     ∃ u, exec (.haltWaitExpiry) s = .next u ∧
       u.pcu = { s.pcu with
           run := .stopped, win := .preparing, openW := none, next := none, preparePending := false, pendingStop := none,
           stopReason := s.pcu.pendingStop.getD .halted, starve := .stopped, stall := .stopped, haltWait := .stopped,
           pace := true, armed := true, traversal := none, joinAgreement := false, cursor := s.pcu.cursor,
           haltPulse := if s.pcu.traversal.map Traversal.target = some (some (s.pcu.cursor)) then .running 50 else
             s.pcu.haltPulse, agreement := if (pacingPeers s).isEmpty then .stopped else .running 100000 } ∧
       (∀ i : Station, u.ptb.peers[i] = { s.ptb.peers[i] with qualified := false }) ∧
       u.ptb.joined = s.ptb.joined ∧
       u.liu = (if s.liu.tx.any (fun t => t.slot == .beacon) then { s.liu with
           tx := s.liu.tx.map fun t => { t with again := true } } else { s.liu with beaconDue := true }) ∧
       u = { s with pcu := u.pcu, ptb := u.ptb, liu := u.liu }) ∧
  (∀ (s : State),
     inService s = true → (s.pcu.win ≠ .ready ∨ isRunning s.pcu.haltWait = false) →
     exec (.haltWaitExpiry) s = .next (s)) ∧
  (∀ (s : State),
     inService s = true →
     exec (.haltPulseEnd) s = .next ({ s with pcu := { s.pcu with haltPulse := .stopped } }))

/-- What raising a fault does; STARVED, STALL and DRIVE-FAIL with their details, from the timers and the drive-fault input
(R36, R37, R98, R158, R159, R160). That a timer that does not run, and the drive-fault input of a head, change nothing is
the model's choice, log entry 4. -/
def Obligations.EventsThatOnlyRaiseFaults : Prop :=
  (∀ (s : State),
     inService s = true → isRunning s.pcu.starve = true →
     ∃ u, exec (.starveTimerExpiry) s = .next u ∧
       raisedIn .starved (BitVec.ofNat 8 (s.pcu.cursor.n / 256)) (BitVec.ofNat 8 s.pcu.cursor.n) s u ∧
       (∀ c : FaultCode, c ≠ .starved → faultRec c u = faultRec c s) ∧
       u.flt.supply = s.flt.supply ∧
       u.flt.axisMark = s.flt.axisMark ∧
       u = { s with flt := u.flt, pcu := { s.pcu with starve := .expired } }) ∧
  (∀ (s : State),
     inService s = true → isRunning s.pcu.starve = false →
     exec (.starveTimerExpiry) s = .next (s)) ∧
  (∀ (s : State),
     inService s = true → isRunning s.pcu.stall = true →
     ∃ u, exec (.stallTimerExpiry) s = .next u ∧
       raisedIn .stall (octetSat ((pacingPeers s).countP fun p => p.2.ready == false || p.2.run == .stopped))
         ((((pacingPeers s).find? fun p => p.2.ready == false || p.2.run == .stopped).map fun p => BitVec.ofNat 8
         p.1.val).getD 0xFF) s u ∧
       (∀ c : FaultCode, c ≠ .stall → faultRec c u = faultRec c s) ∧
       u.flt.supply = s.flt.supply ∧
       u.flt.axisMark = s.flt.axisMark ∧
       u = { s with flt := u.flt, pcu := { s.pcu with stall := .expired } }) ∧
  (∀ (s : State),
     inService s = true → isRunning s.pcu.stall = false →
     exec (.stallTimerExpiry) s = .next (s)) ∧
  (∀ (s : State),
     inService s = true → isAxis s = true →
     ∃ u, exec (.driveFaultAsserted) s = .next u ∧
       raisedIn .driveFail (if s.axu.move.isSome ∨ s.axu.op.isSome then 1 else 0) 0 s u ∧
       (∀ c : FaultCode, c ≠ .driveFail → faultRec c u = faultRec c s) ∧
       u.flt.supply = s.flt.supply ∧
       u.flt.axisMark = s.flt.axisMark ∧
       condition .driveFail u = true ∧
       u = { s with flt := u.flt, axu := { s.axu with driveFault := true } }) ∧
  (∀ (s : State),
     inService s = true → isAxis s = true →
     ∃ u, exec (.driveFaultReleased) s = .next u ∧
       condition .driveFail u = false ∧
       u = { s with axu := { s.axu with driveFault := false } }) ∧
  (∀ (s : State),
     inService s = true → isAxis s = false →
     exec (.driveFaultAsserted) s = .next (s)) ∧
  (∀ (s : State),
     inService s = true → isAxis s = false →
     exec (.driveFaultReleased) s = .next (s)) ∧
  (∀ (c : FaultCode) (d1 d2 : Byte) (s u : State), raisedIn c d1 d2 s u ↔
    faultRec c u =
      { action := (faultRec c s).action, count := if (faultRec c s).count < 255 then (faultRec c s).count + 1 else 255,
        d1 := d1, d2 := d2, latched := if (faultRec c s).action = .ignore then (faultRec c s).latched else true,
        pending := if (faultRec c s).action = .ignore then (faultRec c s).pending else true,
        fresh := if (faultRec c s).action = .ignore then (faultRec c s).fresh else true }) ∧
  (∀ (c : FaultCode) (d1 d2 : Byte) (s : State), raisedIn c d1 d2 s (raise c d1 d2 s) ∧
    (∀ e : FaultCode, e ≠ c → faultRec e (raise c d1 d2 s) = faultRec e s) ∧
    raise c d1 d2 s = { s with flt := { s.flt with recs := (raise c d1 d2 s).flt.recs } })

/-- The steps of a window move, of MOVETO and of homing, and how each operation ends (R24, R25, R26, R35, R52, R82, R83,
R84, R86, R92, R93, R99). Log entries: 4, a step without its operation, HOMING_FAIL before HOME_TRAVEL steps and the switch
outside homing; 15, the mark of the first agreement after joining ends at a stop; 18, a stop pending stops the station
whatever its run state reads; 39, the step counts for a STITCH alone. -/
def Obligations.StepsOfAnAxis : Prop :=
  (∀ (s : State),
     inService s = true → s.axu.move = none →
     exec (.windowMoveStep) s = .next (s)) ∧
  (∀ (m : AxisMove) (s : State),
     inService s = true → s.axu.move = some m → m.issued + 1 < m.delta.natAbs →
     exec (.windowMoveStep) s = .next ({ s with axu := { s.axu with move := some { m with issued := m.issued + 1 } } })) ∧
  (∀ (m : AxisMove) (s : State),
     inService s = true → s.axu.move = some m → m.delta.natAbs ≤ m.issued + 1 →
     ∃ u, exec (.windowMoveStep) s = .next u ∧
       u.axu = { s.axu with sPos := m.st, pf := m.pt, pc := m.pcNew, move := none, excursion := false } ∧
       u.flt = s.flt ∧
       u = { s with axu := u.axu, flt := u.flt, pcu := u.pcu, ptb := u.ptb, liu := u.liu, drg := u.drg, dld := u.dld }) ∧
  (∀ (m : AxisMove) (s : State),
     inService s = true → s.axu.move = some m → m.delta.natAbs ≤ m.issued + 1 →
     ∃ u, exec (.windowMoveStep) s = .next u ∧
       followsReport s u) ∧
  (∀ (m : AxisMove) (s : State),
     inService s = true → s.axu.move = some m → m.delta.natAbs ≤ m.issued + 1 → s.pcu.win = .opened → s.pcu.edge ≠ .settled
       → s.pcu.starve = .stopped →
     exec (.windowMoveStep) s = .next ({ s with
         axu := { s.axu with sPos := m.st, pf := m.pt, pc := m.pcNew, move := none, excursion := false } })) ∧
  (∀ (m : AxisMove) (s : State) (r : StopReason),
     inService s = true → isAxis s = true → s.axu.move = some m → m.delta.natAbs ≤ m.issued + 1 → s.pcu.win = .opened →
       s.pcu.edge = .settled → s.pcu.pendingStop = some r → s.pcu.run ≠ .cut → workInFlight { s with
         axu := { s.axu with move := none } } = false →
     ∃ u, exec (.windowMoveStep) s = .next u ∧
       u.pcu = { s.pcu with
           run := .stopped, win := .preparing, openW := none, next := none, preparePending := false, pendingStop := none,
           stopReason := r, starve := .stopped, stall := .stopped, haltWait := .stopped, pace := true, armed := true,
           traversal := none, joinAgreement := false, cursor := s.pcu.cursor,
           haltPulse := if s.pcu.traversal.map Traversal.target = some (some (s.pcu.cursor)) then .running 50 else
             s.pcu.haltPulse, agreement := if (pacingPeers s).isEmpty then .stopped else .running 100000 } ∧
       (∀ i : Station, u.ptb.peers[i] = { s.ptb.peers[i] with qualified := false }) ∧
       u.ptb.joined = s.ptb.joined ∧
       u.liu = (if s.liu.tx.any (fun t => t.slot == .beacon) then { s.liu with
           tx := s.liu.tx.map fun t => { t with again := true } } else { s.liu with beaconDue := true }) ∧
       u = { s with
           pcu := u.pcu, ptb := u.ptb, liu := u.liu,
           axu := { s.axu with sPos := m.st, pf := m.pt, pc := m.pcNew, move := none, excursion := false } }) ∧
  (∀ (m : AxisMove) (s : State) (r : Rec) (k : Window),
     inService s = true → isAxis s = true → s.axu.move = some m → m.delta.natAbs ≤ m.issued + 1 → s.pcu.win = .opened →
       s.pcu.edge = .settled → workInFlight { s with axu := { s.axu with move := none } } = false → s.axu.op = none →
       s.pcu.pendingStop = none → s.pcu.haltSeen = false → agreementWaiting s = false → s.pcu.run = .running →
       s.pcu.preparePending = false → recAtN s = some r → (if r.kind = 1 then (if s.pcu.cursor.step = .first then some
       (Window.move s.pcu.cursor.n) else some (.stroke s.pcu.cursor.n)) else if r.kind = 2 then some (.move s.pcu.cursor.n)
       else if r.kind = 3 then some (.trim s.pcu.cursor.n) else if r.kind = 4 then some (.change s.pcu.cursor.n) else none)
       = some k →
     exec (.windowMoveStep) s = .next ({ s with
         axu := { s.axu with sPos := m.st, pf := m.pt, pc := m.pcNew, move := none, excursion := false },
         pcu := { s.pcu with
             win := .ready, openW := none, next := some ⟨k, r⟩, pace := false,
             stall := .running (s.params.stallTime * 100000), starve := .stopped } })) ∧
  (∀ (pt : Int) (st : Int) (d : Int) (k : Nat) (s : State),
     inService s = true → s.axu.op = some (.moveto pt st d k) → k + 1 < d.natAbs →
     exec (.movetoStep) s = .next ({ s with axu := { s.axu with op := some (.moveto pt st d (k + 1)) } })) ∧
  (∀ (pt : Int) (st : Int) (d : Int) (k : Nat) (s : State),
     inService s = true → s.axu.op = some (.moveto pt st d k) → d.natAbs ≤ k + 1 →
     ∃ u, exec (.movetoStep) s = .next u ∧
       u.axu = { s.axu with sPos := st, pf := pt, op := none, excursion := true } ∧
       u.flt = s.flt ∧
       u = { s with axu := u.axu, flt := u.flt, pcu := u.pcu, ptb := u.ptb, liu := u.liu, drg := u.drg, dld := u.dld }) ∧
  (∀ (pt : Int) (st : Int) (d : Int) (k : Nat) (s : State),
     inService s = true → s.axu.op = some (.moveto pt st d k) → d.natAbs ≤ k + 1 →
     ∃ u, exec (.movetoStep) s = .next u ∧
       followsReport s u) ∧
  (∀ (pt : Int) (st : Int) (d : Int) (k : Nat) (s : State),
     inService s = true → s.axu.op = some (.moveto pt st d k) → d.natAbs ≤ k + 1 → s.pcu.run = .stopped → s.pcu.win =
       .preparing →
     exec (.movetoStep) s = .next ({ s with
         axu := { s.axu with sPos := st, pf := pt, op := none, excursion := true },
         pcu := { s.pcu with starve := .stopped } })) ∧
  (∀ (k : Nat) (s : State),
     inService s = true → s.axu.op = some (.homing k) →
     exec (.homingStep) s = .next ({ s with
         axu := { s.axu with op := some (.homing (min (k + 1) (max k s.params.homeTravel))) } })) ∧
  (∀ (k : Nat) (s : State),
     inService s = true → isAxis s = true → s.axu.op = some (.homing k) →
     ∃ u, exec (.homeSwitchSeenClosed) s = .next u ∧
       u.axu = { s.axu with
           homeSwitch := true, homing := .homed, op := none, pf := s.params.homeOffset,
           sPos := s.params.homeOffset * s.params.p / 100, excursion := true } ∧
       faultRec .notHomed u = { faultRec .notHomed s with latched := false } ∧
       (∀ c : FaultCode, c ≠ .notHomed → faultRec c u = faultRec c s) ∧
       u.flt.supply = s.flt.supply ∧
       u.flt.axisMark = s.flt.axisMark ∧
       u = { s with axu := u.axu, flt := u.flt, pcu := u.pcu, ptb := u.ptb, liu := u.liu, drg := u.drg, dld := u.dld }) ∧
  (∀ (k : Nat) (s : State),
     inService s = true → isAxis s = true → s.axu.op = some (.homing k) →
     ∃ u, exec (.homeSwitchSeenClosed) s = .next u ∧
       followsReport s u) ∧
  (∀ (k : Nat) (s : State),
     inService s = true → isAxis s = true → s.axu.op = some (.homing k) → s.pcu.run = .stopped → s.pcu.win = .preparing →
     ∃ u, exec (.homeSwitchSeenClosed) s = .next u ∧
       faultRec .notHomed u = { faultRec .notHomed s with latched := false } ∧
       (∀ c : FaultCode, c ≠ .notHomed → faultRec c u = faultRec c s) ∧
       u.flt.supply = s.flt.supply ∧
       u.flt.axisMark = s.flt.axisMark ∧
       u = { s with
           flt := u.flt,
           axu := { s.axu with
               homeSwitch := true, homing := .homed, op := none, pf := s.params.homeOffset,
               sPos := s.params.homeOffset * s.params.p / 100, excursion := true },
           pcu := { s.pcu with starve := .stopped } }) ∧
  (∀ (k : Nat) (s : State),
     inService s = true → s.axu.op = some (.homing k) → s.params.homeTravel ≤ k →
     ∃ u, exec (.homingFail) s = .next u ∧
       u.axu = { s.axu with homing := .unhomed, op := none } ∧
       raisedIn .homeFail (BitVec.ofNat 8 s.params.homeDir) 0 s u ∧
       (∀ c : FaultCode, c ≠ .homeFail → faultRec c u = faultRec c s) ∧
       u.flt.supply = s.flt.supply ∧
       u.flt.axisMark = s.flt.axisMark ∧
       u = { s with axu := u.axu, flt := u.flt, pcu := u.pcu, ptb := u.ptb, liu := u.liu, drg := u.drg, dld := u.dld }) ∧
  (∀ (k : Nat) (s : State),
     inService s = true → s.axu.op = some (.homing k) → s.params.homeTravel ≤ k →
     ∃ u, exec (.homingFail) s = .next u ∧
       followsReport s u) ∧
  (∀ (k : Nat) (s : State),
     inService s = true → s.axu.op = some (.homing k) → s.params.homeTravel ≤ k → s.pcu.run = .stopped → s.pcu.win =
       .preparing →
     ∃ u, exec (.homingFail) s = .next u ∧
       raisedIn .homeFail (BitVec.ofNat 8 s.params.homeDir) 0 s u ∧
       (∀ c : FaultCode, c ≠ .homeFail → faultRec c u = faultRec c s) ∧
       u.flt.supply = s.flt.supply ∧
       u.flt.axisMark = s.flt.axisMark ∧
       u = { s with
           flt := u.flt, axu := { s.axu with homing := .unhomed, op := none }, pcu := { s.pcu with starve := .stopped } }) ∧
  (∀ (k : Nat) (s : State),
     inService s = true → s.axu.op = some (.homing k) → k < s.params.homeTravel →
     exec (.homingFail) s = .next (s)) ∧
  (∀ (s : State),
     inService s = true → s.axu.op = none →
     exec (.homingFail) s = .next (s)) ∧
  (∀ (s : State),
     inService s = true → s.axu.op = none →
     exec (.homingStep) s = .next (s)) ∧
  (∀ (s : State),
     inService s = true → s.axu.op = none →
     exec (.movetoStep) s = .next (s)) ∧
  (∀ (s : State),
     inService s = true → isAxis s = true → s.axu.op = none →
     exec (.homeSwitchSeenClosed) s = .next ({ s with axu := { s.axu with homeSwitch := true } })) ∧
  (∀ (s : State),
     inService s = true → isAxis s = false →
     exec (.homeSwitchSeenClosed) s = .next (s)) ∧
  (∀ (pt : Int) (st : Int) (d : Int) (k : Nat) (s : State),
     inService s = true → isAxis s = true → s.axu.op = some (.moveto pt st d k) →
     exec (.homeSwitchSeenClosed) s = .next ({ s with axu := { s.axu with homeSwitch := true } })) ∧
  (∀ (pt : Int) (st : Int) (d : Int) (k : Nat) (s : State),
     inService s = true → s.axu.op = some (.moveto pt st d k) →
     exec (.homingStep) s = .next (s)) ∧
  (∀ (pt : Int) (st : Int) (d : Int) (k : Nat) (s : State),
     inService s = true → s.axu.op = some (.moveto pt st d k) →
     exec (.homingFail) s = .next (s)) ∧
  (∀ (k : Nat) (s : State),
     inService s = true → s.axu.op = some (.homing k) →
     exec (.movetoStep) s = .next (s))

/-- Detent pulses, the move limit, the settle read and the end of a trim pulse (R22, R25, R26, R107, R108, R109, R110, R111,
R112, R113, R118). Log entries: 4, a move limit, settle wait or trim pulse that does not run, and the detent input of an
axis; 9, the counter past 15 and below 0. -/
def Obligations.SelectorInputsAndTimers : Prop :=
  (∀ (p : Nat) (s : State),
     inService s = true → isHead s = true → s.pcu.win = .opened → s.pcu.starve = .stopped → s.slu.sel = .moving p →
       s.slu.dir = .positive → s.slu.counter + 1 = p → p ≤ s.params.needles → s.slu.counter < 15 →
     exec (.detentPulse) s = .next ({ s with
         slu := { s.slu with
             detent := true, counter := p, sel := .confirming p, moveLimit := .stopped,
             settle := .running (s.params.selSettle * 1000) } })) ∧
  (∀ (p : Nat) (s : State),
     inService s = true → isHead s = true → s.pcu.win = .opened → s.pcu.starve = .stopped → s.slu.sel = .moving p →
       s.slu.dir = .negative → s.slu.counter = p + 1 → 1 ≤ p → p ≤ s.params.needles →
     exec (.detentPulse) s = .next ({ s with
         slu := { s.slu with
             detent := true, counter := p, sel := .confirming p, moveLimit := .stopped,
             settle := .running (s.params.selSettle * 1000) } })) ∧
  (∀ (p : Nat) (s : State),
     inService s = true → isHead s = true → s.pcu.win = .opened → s.pcu.starve = .stopped → s.slu.sel = .moving p →
       s.slu.dir = .positive → s.slu.counter + 1 ≠ p → s.slu.counter + 1 ≤ s.params.needles → s.slu.counter < 15 →
     exec (.detentPulse) s = .next ({ s with
         slu := { s.slu with detent := true, counter := s.slu.counter + 1, stepPulses := s.slu.stepPulses + 1 } })) ∧
  (∀ (p : Nat) (s : State),
     inService s = true → isHead s = true → s.pcu.win = .opened → s.pcu.starve = .stopped → s.slu.sel = .moving p →
       s.slu.dir = .negative → s.slu.counter ≠ p + 1 → 2 ≤ s.slu.counter → s.slu.counter ≤ s.params.needles + 1 →
     exec (.detentPulse) s = .next ({ s with
         slu := { s.slu with detent := true, counter := s.slu.counter - 1, stepPulses := s.slu.stepPulses + 1 } })) ∧
  (∀ (p : Nat) (s : State),
     inService s = true → isHead s = true → selectorTarget s.slu.sel = some p → s.slu.dir = .positive → s.params.needles <
       s.slu.counter + 1 → s.slu.counter < 15 →
     ∃ u, exec (.detentPulse) s = .next u ∧
       u.flt.axisMark = s.flt.axisMark ∧
       raisedIn .selectorJam (BitVec.ofNat 8 p) (BitVec.ofNat 8 (s.slu.lastCode.getD 0)) s u ∧
       (∀ c : FaultCode, c ≠ .selectorJam → faultRec c u = faultRec c s) ∧
       u.flt.supply = s.flt.supply ∧
       u.stu = s.stu ∧
       u.thm = s.thm ∧
       u.axu = s.axu ∧
       u.slu = { s.slu with
           sel := .jammed, moveLimit := .stopped, settle := .stopped, detent := true, counter := s.slu.counter + 1 } ∧
       u.free = s.free) ∧
  (∀ (p : Nat) (s : State),
     inService s = true → isHead s = true → selectorTarget s.slu.sel = some p → s.slu.dir = .positive → s.slu.counter = 15 →
       s.params.needles ≤ 15 →
     ∃ u, exec (.detentPulse) s = .next u ∧
       u.flt.axisMark = s.flt.axisMark ∧
       raisedIn .selectorJam (BitVec.ofNat 8 p) (BitVec.ofNat 8 (s.slu.lastCode.getD 0)) s u ∧
       (∀ c : FaultCode, c ≠ .selectorJam → faultRec c u = faultRec c s) ∧
       u.flt.supply = s.flt.supply ∧
       u.stu = s.stu ∧
       u.thm = s.thm ∧
       u.axu = s.axu ∧
       u.slu = { s.slu with
           sel := .jammed, moveLimit := .stopped, settle := .stopped, detent := true,
           counter := (Config.counterOutOfRange s.free).val } ∧
       u.free = s.free + 1) ∧
  (∀ (p : Nat) (s : State),
     inService s = true → isHead s = true → selectorTarget s.slu.sel = some p → s.slu.dir = .negative → s.slu.counter = 1 →
     ∃ u, exec (.detentPulse) s = .next u ∧
       u.flt.axisMark = s.flt.axisMark ∧
       raisedIn .selectorJam (BitVec.ofNat 8 p) (BitVec.ofNat 8 (s.slu.lastCode.getD 0)) s u ∧
       (∀ c : FaultCode, c ≠ .selectorJam → faultRec c u = faultRec c s) ∧
       u.flt.supply = s.flt.supply ∧
       u.stu = s.stu ∧
       u.thm = s.thm ∧
       u.axu = s.axu ∧
       u.slu = { s.slu with sel := .jammed, moveLimit := .stopped, settle := .stopped, detent := true, counter := 0 } ∧
       u.free = s.free) ∧
  (∀ (p : Nat) (s : State),
     inService s = true → isHead s = true → selectorTarget s.slu.sel = some p → s.slu.dir = .negative → s.slu.counter = 0 →
     ∃ u, exec (.detentPulse) s = .next u ∧
       u.flt.axisMark = s.flt.axisMark ∧
       raisedIn .selectorJam (BitVec.ofNat 8 p) (BitVec.ofNat 8 (s.slu.lastCode.getD 0)) s u ∧
       (∀ c : FaultCode, c ≠ .selectorJam → faultRec c u = faultRec c s) ∧
       u.flt.supply = s.flt.supply ∧
       u.stu = s.stu ∧
       u.thm = s.thm ∧
       u.axu = s.axu ∧
       u.slu = { s.slu with
           sel := .jammed, moveLimit := .stopped, settle := .stopped, detent := true,
           counter := (Config.counterOutOfRange s.free).val } ∧
       u.free = s.free + 1) ∧
  (∀ (p : Nat) (s : State),
     inService s = true → isHead s = true → s.pcu.win = .opened → s.pcu.starve = .stopped → s.slu.sel = .confirming p →
       s.slu.dir = .positive → s.slu.counter + 1 ≤ s.params.needles → s.slu.counter < 15 →
     exec (.detentPulse) s = .next ({ s with slu := { s.slu with detent := true, counter := s.slu.counter + 1 } })) ∧
  (∀ (p : Nat) (s : State),
     inService s = true → isHead s = true → s.pcu.win = .opened → s.pcu.starve = .stopped → s.slu.sel = .confirming p →
       s.slu.dir = .negative → 2 ≤ s.slu.counter → s.slu.counter ≤ s.params.needles + 1 →
     exec (.detentPulse) s = .next ({ s with slu := { s.slu with detent := true, counter := s.slu.counter - 1 } })) ∧
  (∀ (s : State),
     inService s = true → isHead s = true → selectorBusy s = false →
     exec (.detentPulse) s = .next ({ s with slu := { s.slu with detent := true } })) ∧
  (∀ (s : State),
     inService s = true → isHead s = true → (selectorBusy s = true ∨ s.slu.sel = .unknown ∨ s.slu.sel = .jammed) →
     exec (.detentReleased) s = .next ({ s with slu := { s.slu with detent := false } })) ∧
  (∀ (p : Nat) (s : State),
     inService s = true → isHead s = true → s.slu.sel = .settled p → s.pcu.run = .stopped → s.pcu.win = .preparing →
     exec (.detentReleased) s = .next ({ s with
         slu := { s.slu with detent := false, sel := .unknown }, pcu := { s.pcu with starve := .stopped } })) ∧
  (∀ (p : Nat) (s : State),
     inService s = true → isHead s = true → s.slu.sel = .settled p →
     ∃ u, exec (.detentReleased) s = .next u ∧
       u.flt = s.flt ∧
       u = { s with
           pcu := u.pcu, ptb := u.ptb, liu := u.liu, drg := u.drg, dld := u.dld,
           slu := { s.slu with detent := false, sel := .unknown } }) ∧
  (∀ (p : Nat) (s : State),
     inService s = true → s.slu.sel = .moving p → isRunning s.slu.moveLimit = true →
     ∃ u, exec (.selMoveLimitExpiry) s = .next u ∧
       u.flt.axisMark = s.flt.axisMark ∧
       raisedIn .selectorJam (BitVec.ofNat 8 p) (BitVec.ofNat 8 (s.slu.lastCode.getD 0)) s u ∧
       (∀ c : FaultCode, c ≠ .selectorJam → faultRec c u = faultRec c s) ∧
       u.flt.supply = s.flt.supply ∧
       u.stu = s.stu ∧
       u.thm = s.thm ∧
       u.axu = s.axu ∧
       u.slu = { s.slu with sel := .jammed, moveLimit := .stopped, settle := .stopped } ∧
       u.free = s.free) ∧
  (∀ (s : State),
     inService s = true → isRunning s.slu.moveLimit = false →
     exec (.selMoveLimitExpiry) s = .next (s)) ∧
  (∀ (lines : CodeLines) (p : Nat) (s : State),
     inService s = true → s.slu.sel = .confirming p → isRunning s.slu.settle = true → readCode s.params.needles s.slu.detent
       lines = none →
     ∃ u, exec (.selSettleExpiry lines) s = .next u ∧
       u.flt.axisMark = s.flt.axisMark ∧
       raisedIn .selectorJam (BitVec.ofNat 8 p) (BitVec.ofNat 8 (s.slu.lastCode.getD 0)) s u ∧
       (∀ c : FaultCode, c ≠ .selectorJam → faultRec c u = faultRec c s) ∧
       u.flt.supply = s.flt.supply ∧
       u.stu = s.stu ∧
       u.thm = s.thm ∧
       u.axu = s.axu ∧
       u.slu = { s.slu with sel := .jammed, moveLimit := .stopped, settle := .stopped } ∧
       u.free = s.free) ∧
  (∀ (lines : CodeLines) (p : Nat) (s : State),
     inService s = true → s.slu.sel = .confirming p → isRunning s.slu.settle = true → readCode s.params.needles s.slu.detent
       lines = some p →
     ∃ u, exec (.selSettleExpiry lines) s = .next u ∧
       u.slu = { s.slu with sel := .settled p, counter := p, lastCode := some p, settle := .stopped } ∧
       u.flt = s.flt ∧
       u.stu = s.stu ∧
       u.thm = s.thm ∧
       u.axu = s.axu) ∧
  (∀ (lines : CodeLines) (p : Nat) (q : Nat) (s : State),
     inService s = true → s.pcu.win = .opened → s.pcu.starve = .stopped → s.slu.sel = .confirming p → isRunning s.slu.settle
       = true → readCode s.params.needles s.slu.detent lines = some q → q ≠ p → s.slu.reMoved = false →
     exec (.selSettleExpiry lines) s = .next ({ s with
         slu := { s.slu with
             sel := .moving p, counter := q, lastCode := some q, settle := .stopped, reMoved := true,
             stepPulses := s.slu.stepPulses + 1, dir := if q < p then .positive else .negative,
             moveLimit := .running (((p - q) + (q - p)) * (s.params.selLimit * 10000)) } })) ∧
  (∀ (lines : CodeLines) (p : Nat) (q : Nat) (s : State),
     inService s = true → s.slu.sel = .confirming p → isRunning s.slu.settle = true → readCode s.params.needles s.slu.detent
       lines = some q → q ≠ p → s.slu.reMoved = true →
     ∃ u, exec (.selSettleExpiry lines) s = .next u ∧
       u.flt.axisMark = s.flt.axisMark ∧
       raisedIn .selectorJam (BitVec.ofNat 8 p) (BitVec.ofNat 8 q) s u ∧
       (∀ c : FaultCode, c ≠ .selectorJam → faultRec c u = faultRec c s) ∧
       u.flt.supply = s.flt.supply ∧
       u.stu = s.stu ∧
       u.thm = s.thm ∧
       u.axu = s.axu ∧
       u.slu = { s.slu with sel := .jammed, moveLimit := .stopped, settle := .stopped, lastCode := some q, counter := q } ∧
       u.free = s.free) ∧
  (∀ (lines : CodeLines) (s : State),
     inService s = true → isRunning s.slu.settle = false →
     exec (.selSettleExpiry lines) s = .next (s)) ∧
  (∀ (lines : CodeLines) (s : State),
     inService s = true → isRunning s.slu.trim = false →
     exec (.trimPulseEnd lines) s = .next (s)) ∧
  (∀ (lines : CodeLines) (n : Nat) (r : Rec) (s : State),
     inService s = true → isRunning s.slu.trim = true → s.pcu.openW = some ⟨.trim n, r⟩ →
     ∃ u, exec (.trimPulseEnd lines) s = .next u ∧
       u.slu = { s.slu with trim := .stopped } ∧
       u.stu = { s.stu with tail := false } ∧
       u.flt = s.flt ∧
       u.thm = s.thm ∧
       u.axu = s.axu) ∧
  (∀ (lines : CodeLines) (n : Nat) (r : Rec) (p : Nat) (s : State),
     inService s = true → isRunning s.slu.trim = true → s.pcu.openW = some ⟨.change n, r⟩ → mapNeedle r.o1.toNat s = p →
       needleUsable p s = false →
     ∃ u, exec (.trimPulseEnd lines) s = .next u ∧
       u.flt.axisMark = s.flt.axisMark ∧
       u.flt.supply = s.flt.supply ∧
       raisedIn .needleUnmapped r.o1 (BitVec.ofNat 8 p) s u ∧
       (∀ c : FaultCode, c ≠ .needleUnmapped → faultRec c u = faultRec c s) ∧
       u.slu = { s.slu with trim := .stopped } ∧
       u.stu = { s.stu with tail := false } ∧
       u.thm = s.thm ∧
       u.axu = s.axu) ∧
  (∀ (lines : CodeLines) (w : WindowRec) (colour : Nat) (p : Nat) (s : State),
     inService s = true → isRunning s.slu.trim = true → s.pcu.openW = some w → colourOfWindow w s = some colour → mapNeedle
       colour s = p →
     ∃ u, exec (.trimPulseEnd lines) s = .next u ∧
       u.flt.axisMark = s.flt.axisMark ∧
       u.flt.supply = s.flt.supply ∧
       u.stu = { s.stu with tail := false } ∧
       u = { s with
           pcu := u.pcu, ptb := u.ptb, liu := u.liu, drg := u.drg, dld := u.dld, stu := u.stu, slu := u.slu, flt := u.flt }
         ∧
       (if needleUsable p s = false then raisedIn .needleUnmapped (BitVec.ofNat 8 colour) (BitVec.ofNat 8 p) s u ∧ (∀ c :
         FaultCode, c ≠ .needleUnmapped → faultRec c u = faultRec c s) ∧ u.slu = { s.slu with trim := .stopped } else if
         s.slu.sel = .settled p then u.flt = s.flt ∧ u.slu = { s.slu with trim := .stopped, counter := p } else if s.slu.sel
         = .jammed then u.flt = s.flt ∧ u.slu = { s.slu with trim := .stopped } else if s.slu.sel = .unknown ∧ readCode
         s.params.needles s.slu.detent lines = none then raisedIn .selectorJam (BitVec.ofNat 8 p) 0 s u ∧ (∀ c : FaultCode,
         c ≠ .selectorJam → faultRec c u = faultRec c s) ∧ u.slu = { s.slu with
           trim := .stopped, sel := .jammed, reMoved := false, lastCode := none, stepPulses := 0, moveLimit := .stopped,
           settle := .stopped } else if s.slu.sel = .unknown ∧ readCode s.params.needles s.slu.detent lines = some p then
         u.flt = s.flt ∧ u.slu = { s.slu with
           trim := .stopped, sel := .settled p, counter := p, reMoved := false, lastCode := some p, stepPulses := 0 } else
         u.flt = s.flt)) ∧
  (∀ (lines : CodeLines) (n : Nat) (r : Rec) (p : Nat) (q : Nat) (s : State),
     inService s = true → s.pcu.win = .opened → s.pcu.starve = .stopped → isRunning s.slu.trim = true → s.pcu.openW = some
       ⟨.change n, r⟩ → mapNeedle r.o1.toNat s = p → needleUsable p s = true → selectorStart lines s = some q → q ≠ p →
     exec (.trimPulseEnd lines) s = .next ({ s with
         stu := { s.stu with tail := false },
         slu := { s.slu with
             trim := .stopped, sel := .moving p, counter := q, dir := if q < p then .positive else .negative,
             settle := .stopped, reMoved := false, stepPulses := 1,
             moveLimit := .running (((p - q) + (q - p)) * (s.params.selLimit * 10000)),
             lastCode := if s.slu.sel = .unknown then some q else none } })) ∧
  (∀ (lines : CodeLines) (r : Rec) (p : Nat) (q : Nat) (s : State),
     inService s = true → s.pcu.win = .opened → s.pcu.starve = .stopped → isRunning s.slu.trim = true → s.pcu.openW = some
       ⟨.prepare, r⟩ → mapNeedle (colorInForce s.drg s.pcu.cursor.n) s = p → needleUsable p s = true → selectorStart lines s
       = some q → q ≠ p →
     exec (.trimPulseEnd lines) s = .next ({ s with
         stu := { s.stu with tail := false },
         slu := { s.slu with
             trim := .stopped, sel := .moving p, counter := q, dir := if q < p then .positive else .negative,
             settle := .stopped, reMoved := false, stepPulses := 1,
             moveLimit := .running (((p - q) + (q - p)) * (s.params.selLimit * 10000)),
             lastCode := if s.slu.sel = .unknown then some q else none } })) ∧
  (∀ (p : Nat) (s : State),
     inService s = true → isHead s = true → selectorTarget s.slu.sel = some p →
     ∃ u, exec (.detentPulse) s = .next u ∧
       followsReport s u) ∧
  (∀ (p : Nat) (s : State),
     inService s = true → isHead s = true → s.slu.sel = .settled p →
     ∃ u, exec (.detentReleased) s = .next u ∧
       followsReport s u) ∧
  (∀ (p : Nat) (s : State),
     inService s = true → s.slu.sel = .moving p → isRunning s.slu.moveLimit = true →
     ∃ u, exec (.selMoveLimitExpiry) s = .next u ∧
       followsReport s u) ∧
  (∀ (lines : CodeLines) (p : Nat) (s : State),
     inService s = true → s.slu.sel = .confirming p → isRunning s.slu.settle = true →
     ∃ u, exec (.selSettleExpiry lines) s = .next u ∧
       followsReport s u) ∧
  (∀ (lines : CodeLines) (s : State),
     inService s = true → isRunning s.slu.trim = true →
     ∃ u, exec (.trimPulseEnd lines) s = .next u ∧
       followsReport s u) ∧
  (∀ (s : State),
     inService s = true → isHead s = false →
     exec (.detentPulse) s = .next (s)) ∧
  (∀ (s : State),
     inService s = true → isHead s = false →
     exec (.detentReleased) s = .next (s)) ∧
  (∀ (s : State),
     inService s = true → selectorBusy s = false →
     exec (.selMoveLimitExpiry) s = .next (s)) ∧
  (∀ (p : Nat) (s : State),
     inService s = true → s.slu.sel = .confirming p →
     exec (.selMoveLimitExpiry) s = .next (s)) ∧
  (∀ (lines : CodeLines) (s : State),
     inService s = true → selectorBusy s = false →
     exec (.selSettleExpiry lines) s = .next (s)) ∧
  (∀ (lines : CodeLines) (p : Nat) (s : State),
     inService s = true → s.slu.sel = .moving p →
     exec (.selSettleExpiry lines) s = .next (s)) ∧
  (∀ (lines : CodeLines) (s : State),
     inService s = true → isRunning s.slu.trim = true → s.pcu.openW.bind (colourOfWindow · s) = none →
     ∃ u, exec (.trimPulseEnd lines) s = .next u ∧
       u.slu = { s.slu with trim := .stopped } ∧
       u.stu = { s.stu with tail := false } ∧
       u.flt = s.flt ∧
       u.thm = s.thm ∧
       u.axu = s.axu)

/-- The needle inputs and the stroke limit: the phases of a stroke, DRIVE-FAIL and NEEDLE-STUCK (R22, R25, R26, R126, R127,
R128, R129, R130, R132, R133, R159). Log entries: 4, a stroke limit that does not run, and the needle inputs of an axis; 26,
the late conversion begun wherever none runs; 40, the thread monitor stopped at DRIVE-FAIL. -/
def Obligations.NeedleInputs : Prop :=
  (∀ (s : State),
     inService s = true → isHead s = true → s.stu.phase = .downstroke →
     exec (.needleDownSeen) s = .next ({ s with
         stu := { s.stu with
             needleDown := true, phase := .upstroke, strokeLimit := .running (s.params.strokeLimit * 10000),
             downSeen := true },
         thm := { s.thm with
             conv := if s.params.sampleDelay = 0 then .onTime else s.thm.conv,
             oneShot := if s.params.sampleDelay = 0 then s.thm.oneShot else .running (s.params.sampleDelay * 100) } })) ∧
  (∀ (s : State),
     inService s = true → isHead s = true → s.stu.phase ≠ .downstroke →
     exec (.needleDownSeen) s = .next ({ s with stu := { s.stu with needleDown := true } })) ∧
  (∀ (s : State),
     inService s = true → isHead s = true →
     exec (.needleDownReleased) s = .next ({ s with stu := { s.stu with needleDown := false } })) ∧
  (∀ (s : State),
     inService s = true → isHead s = true →
     exec (.needleUpReleased) s = .next ({ s with stu := { s.stu with needleUp := false } })) ∧
  (∀ (s : State),
     inService s = true → isHead s = true → s.stu.phase = .upstroke → s.thm.sample = none → s.pcu.win = .opened →
       s.pcu.starve = .stopped →
     exec (.needleUpSeen) s = .next ({ s with
         stu := { s.stu with needleUp := true, needleHeld := false, phase := .sampling, strokeLimit := .stopped },
         thm := { s.thm with oneShot := .stopped, conv := if s.thm.conv = .none then .late else s.thm.conv } })) ∧
  (∀ (s : State),
     inService s = true → isHead s = true → s.stu.phase = .stuck →
     ∃ u, exec (.needleUpSeen) s = .next u ∧
       u.stu = { s.stu with
           needleUp := true, needleHeld := false, tail := true, phase := .idle, tsWait := .stopped,
           strokeLimit := .stopped } ∧
       u.thm = s.thm ∧
       u.slu = s.slu ∧
       u.flt = s.flt ∧
       condition .needleStuck u = false) ∧
  (∀ (s : State),
     inService s = true → isHead s = true → s.stu.phase ≠ .upstroke → s.stu.phase ≠ .stuck →
     ∃ u, exec (.needleUpSeen) s = .next u ∧
       u.stu = { s.stu with needleUp := true, needleHeld := false } ∧
       u.thm = s.thm ∧
       u.slu = s.slu ∧
       u.flt = s.flt ∧
       u.axu = s.axu ∧
       condition .needleStuck u = false) ∧
  (∀ (r : Rec) (s : State),
     inService s = true → isHead s = true → s.stu.phase = .idle → s.pcu.run = .running → s.pcu.win = .preparing →
       s.pcu.pendingStop = none → s.pcu.haltSeen = false → agreementWaiting s = false → s.pcu.edge = .settled → trimming s =
       false → selectorBusy s = false → s.pcu.preparePending = true → recAtN s = some r →
     ∃ u, exec (.needleUpSeen) s = .next u ∧
       u.pcu.win = .ready ∧
       u.pcu.next = some ⟨.prepare, r⟩ ∧
       u.pcu.pace = false) ∧
  (∀ (s : State),
     inService s = true → isRunning s.stu.strokeLimit = true → s.stu.phase = .downstroke → s.stu.needleUp = true →
     ∃ u, exec (.strokeLimitExpiry) s = .next u ∧
       raisedIn .driveFail 1 (BitVec.ofNat 8 s.stu.needle) s u ∧
       (∀ c : FaultCode, c ≠ .driveFail → faultRec c u = faultRec c s) ∧
       u.flt.supply = s.flt.supply ∧
       u.flt.axisMark = s.flt.axisMark ∧
       u.slu = s.slu ∧
       u.axu = s.axu ∧
       u.stu = { s.stu with phase := .idle, tsWait := .stopped, strokeLimit := .stopped } ∧
       u.thm = { s.thm with oneShot := .stopped, conv := .none }) ∧
  (∀ (s : State),
     inService s = true → isHead s = true →
     ∃ u, exec (.needleUpSeen) s = .next u ∧
       followsReport s u) ∧
  (∀ (s : State),
     inService s = true → isRunning s.stu.strokeLimit = true → s.stu.phase = .downstroke → s.stu.needleUp = true →
     ∃ u, exec (.strokeLimitExpiry) s = .next u ∧
       followsReport s u) ∧
  (∀ (s : State),
     inService s = true → isRunning s.stu.strokeLimit = true → (s.stu.phase = .upstroke ∨ (s.stu.phase = .downstroke ∧
       s.stu.needleUp = false)) →
     ∃ u, exec (.strokeLimitExpiry) s = .next u ∧
       raisedIn .needleStuck (BitVec.ofNat 8 s.stu.needle) (if s.stu.downSeen then 1 else 0) s u ∧
       (∀ c : FaultCode, c ≠ .needleStuck → faultRec c u = faultRec c s) ∧
       u.flt.supply = s.flt.supply ∧
       u.flt.axisMark = s.flt.axisMark ∧
       condition .needleStuck u = true ∧
       u = { s with
           flt := u.flt, stu := { s.stu with phase := .stuck, strokeLimit := .stopped, needleHeld := true },
           thm := { s.thm with oneShot := .stopped, conv := .none } }) ∧
  (∀ (s : State),
     inService s = true → s.stu.phase ≠ .downstroke → s.stu.phase ≠ .upstroke →
     exec (.strokeLimitExpiry) s = .next (s)) ∧
  (∀ (s : State),
     inService s = true → isHead s = true → s.stu.phase = .upstroke → s.thm.sample = none →
     ∃ u, exec (.needleUpSeen) s = .next u ∧
       u.stu = { s.stu with needleUp := true, needleHeld := false, phase := .sampling, strokeLimit := .stopped } ∧
       u.thm = { s.thm with oneShot := .stopped, conv := if s.thm.conv = .none then .late else s.thm.conv } ∧
       u.slu = s.slu ∧
       u.flt = s.flt ∧
       u.axu = s.axu ∧
       condition .needleStuck u = false) ∧
  (∀ (s : State),
     inService s = true → isHead s = false →
     exec (.needleDownSeen) s = .next (s)) ∧
  (∀ (s : State),
     inService s = true → isHead s = false →
     exec (.needleDownReleased) s = .next (s)) ∧
  (∀ (s : State),
     inService s = true → isHead s = false →
     exec (.needleUpSeen) s = .next (s)) ∧
  (∀ (s : State),
     inService s = true → isHead s = false →
     exec (.needleUpReleased) s = .next (s)) ∧
  (∀ (s : State),
     inService s = true → isRunning s.stu.strokeLimit = false →
     exec (.strokeLimitExpiry) s = .next (s))

/-- The sample, the feed counter, the surge latch and the end of DWELL (R22, R24, R25, R26, R27, R36, R127, R129, R130,
R131, R134). Log entries: 4, a one-shot, conversion or Ts that does not run; 26, the late conversion. -/
def Obligations.SampleFeedSurgeAndDwell : Prop :=
  (∀ (s : State),
     inService s = true → isRunning s.thm.oneShot = true →
     exec (.sampleOneShotEnd) s = .next ({ s with thm := { s.thm with oneShot := .stopped, conv := .onTime } })) ∧
  (∀ (s : State),
     inService s = true → isRunning s.thm.oneShot = false →
     exec (.sampleOneShotEnd) s = .next (s)) ∧
  (∀ (v : BitVec 10) (s : State),
     inService s = true → s.thm.conv = .none →
     exec (.conversionEnd v) s = .next (s)) ∧
  (∀ (v : BitVec 10) (s : State),
     inService s = true → s.thm.conv ≠ .none → s.stu.phase ≠ .sampling →
     exec (.conversionEnd v) s = .next ({ s with
         thm := { s.thm with conv := .none, sample := some ⟨v.toNat, s.thm.conv == .late⟩ } })) ∧
  (∀ (v : BitVec 10) (s : State),
     inService s = true → s.thm.conv ≠ .none → s.stu.phase = .sampling →
     ∃ u, exec (.conversionEnd v) s = .next u ∧
       u.stu.tail = true ∧
       (u.stu.phase = .dwell ∨ u.stu.phase = .idle) ∧
       u.thm.sample = some ⟨v.toNat, s.thm.conv == .late⟩ ∧
       u.thm.conv = .none) ∧
  (∀ (v : BitVec 10) (s : State),
     inService s = true → s.thm.conv ≠ .none → s.stu.phase = .sampling →
     ∃ u, exec (.conversionEnd v) s = .next u ∧
       followsReport s u) ∧
  (∀ (s : State),
     inService s = true → (s.stu.phase = .downstroke ∨ s.stu.phase = .upstroke) →
     exec (.feedPulse) s = .next ({ s with thm := { s.thm with feed := min 1023 (s.thm.feed + 1) } })) ∧
  (∀ (s : State),
     inService s = true → s.stu.phase ≠ .downstroke → s.stu.phase ≠ .upstroke →
     exec (.feedPulse) s = .next (s)) ∧
  (∀ (s : State),
     inService s = true → (s.stu.phase = .downstroke ∨ s.stu.phase = .upstroke ∨ s.stu.phase = .stuck) →
     exec (.surge) s = .next ({ s with thm := { s.thm with surge := true } })) ∧
  (∀ (s : State),
     inService s = true → s.stu.phase ≠ .downstroke → s.stu.phase ≠ .upstroke → s.stu.phase ≠ .stuck →
     exec (.surge) s = .next (s)) ∧
  (∀ (s : State),
     inService s = true → isRunning s.stu.tsWait = true → s.stu.phase = .dwell →
     ∃ u, exec (.dwellEnd) s = .next u ∧
       u.stu = { s.stu with phase := .idle, tsWait := .stopped, strokeLimit := .stopped } ∧
       u.thm = s.thm ∧
       u.slu = s.slu ∧
       u.flt = s.flt ∧
       u.axu = s.axu) ∧
  (∀ (r : StopReason) (s : State),
     inService s = true → isHead s = true → isRunning s.stu.tsWait = true → s.stu.phase = .dwell → s.pcu.win = .opened →
       s.pcu.edge = .settled → s.pcu.pendingStop = some r → s.axu.move = none → trimming s = false → selectorBusy s = false
       →
     ∃ u, exec (.dwellEnd) s = .next u ∧
       u.pcu.run = .stopped ∧
       u.pcu.stopReason = r ∧
       u.pcu.pace = true ∧
       u.pcu.cursor = s.pcu.cursor) ∧
  (∀ (s : State),
     inService s = true → isRunning s.stu.tsWait = true → s.stu.phase = .dwell →
     ∃ u, exec (.dwellEnd) s = .next u ∧
       followsReport s u) ∧
  (∀ (r : Rec) (k : Window) (s : State),
     inService s = true → isHead s = true → isRunning s.stu.tsWait = true → s.stu.phase = .dwell → s.pcu.win = .opened →
       s.pcu.edge = .settled → s.axu.move = none → trimming s = false → selectorBusy s = false → s.stu.needleUp = true →
       s.pcu.pendingStop = none → s.pcu.haltSeen = false → agreementWaiting s = false → s.pcu.run = .running →
       s.pcu.preparePending = false → recAtN s = some r → (if r.kind = 1 then (if s.pcu.cursor.step = .first then some
       (Window.move s.pcu.cursor.n) else some (.stroke s.pcu.cursor.n)) else if r.kind = 2 then some (.move s.pcu.cursor.n)
       else if r.kind = 3 then some (.trim s.pcu.cursor.n) else if r.kind = 4 then some (.change s.pcu.cursor.n) else none)
       = some k →
     exec (.dwellEnd) s = .next ({ s with
         stu := { s.stu with phase := .idle, tsWait := .stopped, strokeLimit := .stopped },
         pcu := { s.pcu with
             openW := none, win := .ready, next := some ⟨k, r⟩, pace := false,
             stall := .running (s.params.stallTime * 100000), starve := .stopped } })) ∧
  (∀ (s : State),
     inService s = true → isRunning s.stu.tsWait = true → s.stu.phase ≠ .dwell →
     exec (.dwellEnd) s = .next ({ s with stu := { s.stu with tsWait := .expired } })) ∧
  (∀ (s : State),
     inService s = true → isRunning s.stu.tsWait = false →
     exec (.dwellEnd) s = .next (s))

/-- The end of a stroke: class, covered mark, tail, fault runs, needle counts, break rewind, DWELL (R22, R25, R26, R105,
R129, R130, R131, R136, R137, R138, R139). Log entries: 26, the late conversion; 44, a rewind after SETSEG with NEW may
raise C. -/
def Obligations.StrokeEnds : Prop :=
  (∀ (x : Sample) (s : State),
     inService s = true → isHead s = true → s.stu.phase = .upstroke → s.thm.sample = some x →
     ∃ u, exec (.needleUpSeen) s = .next u ∧
       followsReport s u) ∧
  (∀ (v : BitVec 10) (s : State),
     inService s = true → s.stu.phase = .sampling → s.thm.conv ≠ .none →
     ∃ u, exec (.conversionEnd v) s = .next u ∧
       followsReport s u) ∧
  (∀ (t : Nat) (late : Bool) (s : State),
     inService s = true → isHead s = true → s.stu.phase = .upstroke → s.thm.sample = some ⟨t, late⟩ → strokeClass (feedClass
       s.params s.stu.copy s.thm.feed) (tensionClass s.params t s.thm.surge) = .good →
     ∃ u, exec (.needleUpSeen) s = .next u ∧
       u.flt.axisMark = s.flt.axisMark ∧
       u.flt.supply = s.flt.supply ∧
       u.stu = { s.stu with
           needleUp := true, needleHeld := false, strokeLimit := .stopped,
           phase := (if s.stu.tsWait = .expired then .idle else .dwell),
           tsWait := if s.stu.tsWait = .expired then .stopped else s.stu.tsWait, tail := true, C := s.stu.recNo + 1 } ∧
       u.thm = { s.thm with
           lastNeedle := s.stu.needle, breakRun := 0, snagRun := 0, looseRun := 0, tightRun := 0,
           firstSuspect := s.thm.firstSuspect, bobbin := u.thm.bobbin } ∧
       u.slu = s.slu ∧
       u = { s with
           pcu := u.pcu, ptb := u.ptb, liu := u.liu, drg := u.drg, dld := u.dld, stu := u.stu, thm := u.thm, slu := u.slu,
           flt := u.flt } ∧
       u.thm.bobbin = (s.thm.bobbin.map fun b => b - bobbinThread s.params s.stu.copy) ∧
       (∀ c : FaultCode, c ≠ .bobbinLow ∧ c ≠ .bobbinEmpty → faultRec c u = faultRec c s)) ∧
  (∀ (t : Nat) (late : Bool) (s : State),
     inService s = true → isHead s = true → s.stu.phase = .upstroke → s.thm.sample = some ⟨t, late⟩ → strokeClass (feedClass
       s.params s.stu.copy s.thm.feed) (tensionClass s.params t s.thm.surge) = .breakSuspect → 1 ≤ s.stu.needle →
       s.stu.needle ≤ 15 →
     ∃ u, exec (.needleUpSeen) s = .next u ∧
       u.flt.axisMark = s.flt.axisMark ∧
       u.flt.supply = s.flt.supply ∧
       u.stu = { s.stu with
           needleUp := true, needleHeld := false, strokeLimit := .stopped,
           phase := (if s.stu.tsWait = .expired then .idle else .dwell),
           tsWait := if s.stu.tsWait = .expired then .stopped else s.stu.tsWait, tail := true,
           C := if s.params.breakRun ≤ runFrom s.thm.breakRun s + 1 then (firstSuspectAfter s).getD 0 - s.params.overlap
             else s.stu.recNo + 1 } ∧
       u.thm = { s.thm with
           lastNeedle := s.stu.needle,
           breakRun := if s.params.breakRun ≤ runFrom s.thm.breakRun s + 1 then 0 else runFrom s.thm.breakRun s + 1,
           snagRun := 0, looseRun := 0, tightRun := 0, firstSuspect := firstSuspectAfter s, bobbin := u.thm.bobbin } ∧
       (∀ i : Fin 15, u.slu.needles[i] = if i.val + 1 = s.stu.needle then (if s.params.breakRun ≤ runFrom s.thm.breakRun s +
         1 then { s.slu.needles[i] with breaks := min 255 (s.slu.needles[i].breaks + 1) } else s.slu.needles[i]) else
         s.slu.needles[i]) ∧
       u.slu = { s.slu with needles := u.slu.needles } ∧
       u = { s with
           pcu := u.pcu, ptb := u.ptb, liu := u.liu, drg := u.drg, dld := u.dld, stu := u.stu, thm := u.thm, slu := u.slu,
           flt := u.flt } ∧
       u.thm.bobbin = (s.thm.bobbin.map fun b => b - bobbinThread s.params s.stu.copy) ∧
       (if s.params.breakRun ≤ runFrom s.thm.breakRun s + 1 then raisedIn .threadBreak (BitVec.ofNat 8 (s.stu.needle + if
         late then 128 else 0)) (octetSat (min 255 ((needleEntry s.stu.needle s).breaks + 1))) s u else faultRec
         .threadBreak u = faultRec .threadBreak s) ∧
       (∀ c : FaultCode, c ≠ .threadBreak ∧ c ≠ .bobbinLow ∧ c ≠ .bobbinEmpty → faultRec c u = faultRec c s)) ∧
  (∀ (t : Nat) (late : Bool) (s : State),
     inService s = true → isHead s = true → s.stu.phase = .upstroke → s.thm.sample = some ⟨t, late⟩ → strokeClass (feedClass
       s.params s.stu.copy s.thm.feed) (tensionClass s.params t s.thm.surge) = .snagSuspect →
     ∃ u, exec (.needleUpSeen) s = .next u ∧
       u.flt.axisMark = s.flt.axisMark ∧
       u.flt.supply = s.flt.supply ∧
       u.stu = { s.stu with
           needleUp := true, needleHeld := false, strokeLimit := .stopped,
           phase := (if s.stu.tsWait = .expired then .idle else .dwell),
           tsWait := if s.stu.tsWait = .expired then .stopped else s.stu.tsWait, tail := true, C := s.stu.recNo + 1 } ∧
       u.thm = { s.thm with
           lastNeedle := s.stu.needle, breakRun := 0,
           snagRun := if s.params.snagRun ≤ runFrom s.thm.snagRun s + 1 then 0 else runFrom s.thm.snagRun s + 1,
           looseRun := 0, tightRun := 0, firstSuspect := s.thm.firstSuspect, bobbin := u.thm.bobbin } ∧
       u.slu = s.slu ∧
       u = { s with
           pcu := u.pcu, ptb := u.ptb, liu := u.liu, drg := u.drg, dld := u.dld, stu := u.stu, thm := u.thm, slu := u.slu,
           flt := u.flt } ∧
       u.thm.bobbin = (s.thm.bobbin.map fun b => b - bobbinThread s.params s.stu.copy) ∧
       (if s.params.snagRun ≤ runFrom s.thm.snagRun s + 1 then raisedIn .threadSnag (BitVec.ofNat 8 (s.stu.needle + if late
         then 128 else 0)) (octetSat (runFrom s.thm.snagRun s + 1)) s u else faultRec .threadSnag u = faultRec .threadSnag
         s) ∧
       (∀ c : FaultCode, c ≠ .threadSnag ∧ c ≠ .bobbinLow ∧ c ≠ .bobbinEmpty → faultRec c u = faultRec c s)) ∧
  (∀ (t : Nat) (late : Bool) (s : State),
     inService s = true → isHead s = true → s.stu.phase = .upstroke → s.thm.sample = some ⟨t, late⟩ → strokeClass (feedClass
       s.params s.stu.copy s.thm.feed) (tensionClass s.params t s.thm.surge) = .loose → 1 ≤ s.stu.needle → s.stu.needle ≤ 15
       →
     ∃ u, exec (.needleUpSeen) s = .next u ∧
       u.flt.axisMark = s.flt.axisMark ∧
       u.flt.supply = s.flt.supply ∧
       u.stu = { s.stu with
           needleUp := true, needleHeld := false, strokeLimit := .stopped,
           phase := (if s.stu.tsWait = .expired then .idle else .dwell),
           tsWait := if s.stu.tsWait = .expired then .stopped else s.stu.tsWait, tail := true, C := s.stu.recNo + 1 } ∧
       u.thm = { s.thm with
           lastNeedle := s.stu.needle, breakRun := 0, snagRun := 0,
           looseRun := if s.params.looseRun ≤ runFrom s.thm.looseRun s + 1 then 0 else runFrom s.thm.looseRun s + 1,
           tightRun := 0, firstSuspect := s.thm.firstSuspect, bobbin := u.thm.bobbin } ∧
       (∀ i : Fin 15, u.slu.needles[i] = if i.val + 1 = s.stu.needle then { s.slu.needles[i] with
           loose := min 255 (s.slu.needles[i].loose + 1) } else s.slu.needles[i]) ∧
       u.slu = { s.slu with needles := u.slu.needles } ∧
       u = { s with
           pcu := u.pcu, ptb := u.ptb, liu := u.liu, drg := u.drg, dld := u.dld, stu := u.stu, thm := u.thm, slu := u.slu,
           flt := u.flt } ∧
       u.thm.bobbin = (s.thm.bobbin.map fun b => b - bobbinThread s.params s.stu.copy) ∧
       (if s.params.looseRun ≤ runFrom s.thm.looseRun s + 1 then raisedIn .tensionLoose (BitVec.ofNat 8 (s.stu.needle + if
         late then 128 else 0)) (octetSat (min 255 ((needleEntry s.stu.needle s).loose + 1))) s u else faultRec
         .tensionLoose u = faultRec .tensionLoose s) ∧
       (∀ c : FaultCode, c ≠ .tensionLoose ∧ c ≠ .bobbinLow ∧ c ≠ .bobbinEmpty → faultRec c u = faultRec c s)) ∧
  (∀ (t : Nat) (late : Bool) (s : State),
     inService s = true → isHead s = true → s.stu.phase = .upstroke → s.thm.sample = some ⟨t, late⟩ → strokeClass (feedClass
       s.params s.stu.copy s.thm.feed) (tensionClass s.params t s.thm.surge) = .tight → 1 ≤ s.stu.needle → s.stu.needle ≤ 15
       →
     ∃ u, exec (.needleUpSeen) s = .next u ∧
       u.flt.axisMark = s.flt.axisMark ∧
       u.flt.supply = s.flt.supply ∧
       u.stu = { s.stu with
           needleUp := true, needleHeld := false, strokeLimit := .stopped,
           phase := (if s.stu.tsWait = .expired then .idle else .dwell),
           tsWait := if s.stu.tsWait = .expired then .stopped else s.stu.tsWait, tail := true, C := s.stu.recNo + 1 } ∧
       u.thm = { s.thm with
           lastNeedle := s.stu.needle, breakRun := 0, snagRun := 0, looseRun := 0,
           tightRun := if s.params.tightRun ≤ runFrom s.thm.tightRun s + 1 then 0 else runFrom s.thm.tightRun s + 1,
           firstSuspect := s.thm.firstSuspect, bobbin := u.thm.bobbin } ∧
       (∀ i : Fin 15, u.slu.needles[i] = if i.val + 1 = s.stu.needle then { s.slu.needles[i] with
           tight := min 255 (s.slu.needles[i].tight + 1) } else s.slu.needles[i]) ∧
       u.slu = { s.slu with needles := u.slu.needles } ∧
       u = { s with
           pcu := u.pcu, ptb := u.ptb, liu := u.liu, drg := u.drg, dld := u.dld, stu := u.stu, thm := u.thm, slu := u.slu,
           flt := u.flt } ∧
       u.thm.bobbin = (s.thm.bobbin.map fun b => b - bobbinThread s.params s.stu.copy) ∧
       (if s.params.tightRun ≤ runFrom s.thm.tightRun s + 1 then raisedIn .tensionTight (BitVec.ofNat 8 (s.stu.needle + if
         late then 128 else 0)) (octetSat (min 255 ((needleEntry s.stu.needle s).tight + 1))) s u else faultRec
         .tensionTight u = faultRec .tensionTight s) ∧
       (∀ c : FaultCode, c ≠ .tensionTight ∧ c ≠ .bobbinLow ∧ c ≠ .bobbinEmpty → faultRec c u = faultRec c s)) ∧
  (∀ (v : BitVec 10) (s : State),
     inService s = true → s.stu.phase = .sampling → s.thm.conv ≠ .none → strokeClass (feedClass s.params s.stu.copy
       s.thm.feed) (tensionClass s.params v.toNat s.thm.surge) = .good →
     ∃ u, exec (.conversionEnd v) s = .next u ∧
       u.flt.axisMark = s.flt.axisMark ∧
       u.flt.supply = s.flt.supply ∧
       u.stu = { s.stu with
           strokeLimit := if s.stu.tsWait = .expired then .stopped else s.stu.strokeLimit,
           phase := (if s.stu.tsWait = .expired then .idle else .dwell),
           tsWait := if s.stu.tsWait = .expired then .stopped else s.stu.tsWait, tail := true, C := s.stu.recNo + 1 } ∧
       u.thm = { s.thm with
           lastNeedle := s.stu.needle, breakRun := 0, snagRun := 0, looseRun := 0, tightRun := 0,
           firstSuspect := s.thm.firstSuspect, bobbin := u.thm.bobbin, conv := .none,
           sample := some ⟨v.toNat, s.thm.conv == .late⟩ } ∧
       u.slu = s.slu ∧
       u = { s with
           pcu := u.pcu, ptb := u.ptb, liu := u.liu, drg := u.drg, dld := u.dld, stu := u.stu, thm := u.thm, slu := u.slu,
           flt := u.flt } ∧
       u.thm.bobbin = (s.thm.bobbin.map fun b => b - bobbinThread s.params s.stu.copy) ∧
       (∀ c : FaultCode, c ≠ .bobbinLow ∧ c ≠ .bobbinEmpty → faultRec c u = faultRec c s)) ∧
  (∀ (v : BitVec 10) (s : State),
     inService s = true → s.stu.phase = .sampling → s.thm.conv ≠ .none → strokeClass (feedClass s.params s.stu.copy
       s.thm.feed) (tensionClass s.params v.toNat s.thm.surge) = .breakSuspect → 1 ≤ s.stu.needle → s.stu.needle ≤ 15 →
     ∃ u, exec (.conversionEnd v) s = .next u ∧
       u.flt.axisMark = s.flt.axisMark ∧
       u.flt.supply = s.flt.supply ∧
       u.stu = { s.stu with
           strokeLimit := if s.stu.tsWait = .expired then .stopped else s.stu.strokeLimit,
           phase := (if s.stu.tsWait = .expired then .idle else .dwell),
           tsWait := if s.stu.tsWait = .expired then .stopped else s.stu.tsWait, tail := true,
           C := if s.params.breakRun ≤ runFrom s.thm.breakRun s + 1 then (firstSuspectAfter s).getD 0 - s.params.overlap
             else s.stu.recNo + 1 } ∧
       u.thm = { s.thm with
           lastNeedle := s.stu.needle,
           breakRun := if s.params.breakRun ≤ runFrom s.thm.breakRun s + 1 then 0 else runFrom s.thm.breakRun s + 1,
           snagRun := 0, looseRun := 0, tightRun := 0, firstSuspect := firstSuspectAfter s, bobbin := u.thm.bobbin,
           conv := .none, sample := some ⟨v.toNat, s.thm.conv == .late⟩ } ∧
       (∀ i : Fin 15, u.slu.needles[i] = if i.val + 1 = s.stu.needle then (if s.params.breakRun ≤ runFrom s.thm.breakRun s +
         1 then { s.slu.needles[i] with breaks := min 255 (s.slu.needles[i].breaks + 1) } else s.slu.needles[i]) else
         s.slu.needles[i]) ∧
       u.slu = { s.slu with needles := u.slu.needles } ∧
       u = { s with
           pcu := u.pcu, ptb := u.ptb, liu := u.liu, drg := u.drg, dld := u.dld, stu := u.stu, thm := u.thm, slu := u.slu,
           flt := u.flt } ∧
       u.thm.bobbin = (s.thm.bobbin.map fun b => b - bobbinThread s.params s.stu.copy) ∧
       (if s.params.breakRun ≤ runFrom s.thm.breakRun s + 1 then raisedIn .threadBreak (BitVec.ofNat 8 (s.stu.needle + if
         s.thm.conv = .late then 128 else 0)) (octetSat (min 255 ((needleEntry s.stu.needle s).breaks + 1))) s u else
         faultRec .threadBreak u = faultRec .threadBreak s) ∧
       (∀ c : FaultCode, c ≠ .threadBreak ∧ c ≠ .bobbinLow ∧ c ≠ .bobbinEmpty → faultRec c u = faultRec c s)) ∧
  (∀ (v : BitVec 10) (s : State),
     inService s = true → s.stu.phase = .sampling → s.thm.conv ≠ .none → strokeClass (feedClass s.params s.stu.copy
       s.thm.feed) (tensionClass s.params v.toNat s.thm.surge) = .snagSuspect →
     ∃ u, exec (.conversionEnd v) s = .next u ∧
       u.flt.axisMark = s.flt.axisMark ∧
       u.flt.supply = s.flt.supply ∧
       u.stu = { s.stu with
           strokeLimit := if s.stu.tsWait = .expired then .stopped else s.stu.strokeLimit,
           phase := (if s.stu.tsWait = .expired then .idle else .dwell),
           tsWait := if s.stu.tsWait = .expired then .stopped else s.stu.tsWait, tail := true, C := s.stu.recNo + 1 } ∧
       u.thm = { s.thm with
           lastNeedle := s.stu.needle, breakRun := 0,
           snagRun := if s.params.snagRun ≤ runFrom s.thm.snagRun s + 1 then 0 else runFrom s.thm.snagRun s + 1,
           looseRun := 0, tightRun := 0, firstSuspect := s.thm.firstSuspect, bobbin := u.thm.bobbin, conv := .none,
           sample := some ⟨v.toNat, s.thm.conv == .late⟩ } ∧
       u.slu = s.slu ∧
       u = { s with
           pcu := u.pcu, ptb := u.ptb, liu := u.liu, drg := u.drg, dld := u.dld, stu := u.stu, thm := u.thm, slu := u.slu,
           flt := u.flt } ∧
       u.thm.bobbin = (s.thm.bobbin.map fun b => b - bobbinThread s.params s.stu.copy) ∧
       (if s.params.snagRun ≤ runFrom s.thm.snagRun s + 1 then raisedIn .threadSnag (BitVec.ofNat 8 (s.stu.needle + if
         s.thm.conv = .late then 128 else 0)) (octetSat (runFrom s.thm.snagRun s + 1)) s u else faultRec .threadSnag u =
         faultRec .threadSnag s) ∧
       (∀ c : FaultCode, c ≠ .threadSnag ∧ c ≠ .bobbinLow ∧ c ≠ .bobbinEmpty → faultRec c u = faultRec c s)) ∧
  (∀ (v : BitVec 10) (s : State),
     inService s = true → s.stu.phase = .sampling → s.thm.conv ≠ .none → strokeClass (feedClass s.params s.stu.copy
       s.thm.feed) (tensionClass s.params v.toNat s.thm.surge) = .loose → 1 ≤ s.stu.needle → s.stu.needle ≤ 15 →
     ∃ u, exec (.conversionEnd v) s = .next u ∧
       u.flt.axisMark = s.flt.axisMark ∧
       u.flt.supply = s.flt.supply ∧
       u.stu = { s.stu with
           strokeLimit := if s.stu.tsWait = .expired then .stopped else s.stu.strokeLimit,
           phase := (if s.stu.tsWait = .expired then .idle else .dwell),
           tsWait := if s.stu.tsWait = .expired then .stopped else s.stu.tsWait, tail := true, C := s.stu.recNo + 1 } ∧
       u.thm = { s.thm with
           lastNeedle := s.stu.needle, breakRun := 0, snagRun := 0,
           looseRun := if s.params.looseRun ≤ runFrom s.thm.looseRun s + 1 then 0 else runFrom s.thm.looseRun s + 1,
           tightRun := 0, firstSuspect := s.thm.firstSuspect, bobbin := u.thm.bobbin, conv := .none,
           sample := some ⟨v.toNat, s.thm.conv == .late⟩ } ∧
       (∀ i : Fin 15, u.slu.needles[i] = if i.val + 1 = s.stu.needle then { s.slu.needles[i] with
           loose := min 255 (s.slu.needles[i].loose + 1) } else s.slu.needles[i]) ∧
       u.slu = { s.slu with needles := u.slu.needles } ∧
       u = { s with
           pcu := u.pcu, ptb := u.ptb, liu := u.liu, drg := u.drg, dld := u.dld, stu := u.stu, thm := u.thm, slu := u.slu,
           flt := u.flt } ∧
       u.thm.bobbin = (s.thm.bobbin.map fun b => b - bobbinThread s.params s.stu.copy) ∧
       (if s.params.looseRun ≤ runFrom s.thm.looseRun s + 1 then raisedIn .tensionLoose (BitVec.ofNat 8 (s.stu.needle + if
         s.thm.conv = .late then 128 else 0)) (octetSat (min 255 ((needleEntry s.stu.needle s).loose + 1))) s u else
         faultRec .tensionLoose u = faultRec .tensionLoose s) ∧
       (∀ c : FaultCode, c ≠ .tensionLoose ∧ c ≠ .bobbinLow ∧ c ≠ .bobbinEmpty → faultRec c u = faultRec c s)) ∧
  (∀ (v : BitVec 10) (s : State),
     inService s = true → s.stu.phase = .sampling → s.thm.conv ≠ .none → strokeClass (feedClass s.params s.stu.copy
       s.thm.feed) (tensionClass s.params v.toNat s.thm.surge) = .tight → 1 ≤ s.stu.needle → s.stu.needle ≤ 15 →
     ∃ u, exec (.conversionEnd v) s = .next u ∧
       u.flt.axisMark = s.flt.axisMark ∧
       u.flt.supply = s.flt.supply ∧
       u.stu = { s.stu with
           strokeLimit := if s.stu.tsWait = .expired then .stopped else s.stu.strokeLimit,
           phase := (if s.stu.tsWait = .expired then .idle else .dwell),
           tsWait := if s.stu.tsWait = .expired then .stopped else s.stu.tsWait, tail := true, C := s.stu.recNo + 1 } ∧
       u.thm = { s.thm with
           lastNeedle := s.stu.needle, breakRun := 0, snagRun := 0, looseRun := 0,
           tightRun := if s.params.tightRun ≤ runFrom s.thm.tightRun s + 1 then 0 else runFrom s.thm.tightRun s + 1,
           firstSuspect := s.thm.firstSuspect, bobbin := u.thm.bobbin, conv := .none,
           sample := some ⟨v.toNat, s.thm.conv == .late⟩ } ∧
       (∀ i : Fin 15, u.slu.needles[i] = if i.val + 1 = s.stu.needle then { s.slu.needles[i] with
           tight := min 255 (s.slu.needles[i].tight + 1) } else s.slu.needles[i]) ∧
       u.slu = { s.slu with needles := u.slu.needles } ∧
       u = { s with
           pcu := u.pcu, ptb := u.ptb, liu := u.liu, drg := u.drg, dld := u.dld, stu := u.stu, thm := u.thm, slu := u.slu,
           flt := u.flt } ∧
       u.thm.bobbin = (s.thm.bobbin.map fun b => b - bobbinThread s.params s.stu.copy) ∧
       (if s.params.tightRun ≤ runFrom s.thm.tightRun s + 1 then raisedIn .tensionTight (BitVec.ofNat 8 (s.stu.needle + if
         s.thm.conv = .late then 128 else 0)) (octetSat (min 255 ((needleEntry s.stu.needle s).tight + 1))) s u else
         faultRec .tensionTight u = faultRec .tensionTight s) ∧
       (∀ c : FaultCode, c ≠ .tensionTight ∧ c ≠ .bobbinLow ∧ c ≠ .bobbinEmpty → faultRec c u = faultRec c s))

/-- The six supply crossings: levels, SUPPLY-WARN and SUPPLY-LOW, entry into CUT, restart at recovery (R17, R41, R43, R77,
R100, R101, R120, R142, R143, R167, R168, R169). Log entries: 4, no effect at another level; 8, the restart values that the
spec does not give; 17, the selector UNKNOWN and what CUT keeps, the direction outputs among it; 23, what a restart keeps,
the fresh mark among it; 34, the HALT pulse ends in CUT; 40, the surge comparator is not watched in CUT. -/
def Obligations.SupplyCrossings : Prop :=
  (∀ (s : State),
     inService s = true → s.flt.supply = .normal →
     ∃ u, exec (.supplyFallWarn) s = .next u ∧
       raisedIn .supplyWarn 0 0 s u ∧
       (∀ c : FaultCode, c ≠ .supplyWarn → faultRec c u = faultRec c s) ∧
       u.flt.supply = .warn ∧
       u.flt.axisMark = s.flt.axisMark ∧
       u = { s with flt := u.flt }) ∧
  (∀ (s : State),
     inService s = true → s.flt.supply ≠ .normal →
     exec (.supplyFallWarn) s = .next (s)) ∧
  (∀ (s : State),
     inService s = true → s.flt.supply = .warn →
     exec (.supplyRiseNormal) s = .next ({ s with flt := { s.flt with supply := .normal } })) ∧
  (∀ (s : State),
     inService s = true → s.flt.supply ≠ .warn →
     exec (.supplyRiseNormal) s = .next (s)) ∧
  (∀ (s : State),
     inService s = true → s.flt.supply = .warn →
     ∃ u, exec (.supplyFallLow) s = .next u ∧
       raisedIn .supplyLow 0 0 s u ∧
       (∀ c : FaultCode, c ≠ .supplyLow → faultRec c u = faultRec c s) ∧
       u.flt.supply = .low ∧
       u.flt.axisMark = s.flt.axisMark ∧
       u = { s with flt := u.flt }) ∧
  (∀ (s : State),
     inService s = true → s.flt.supply ≠ .warn →
     exec (.supplyFallLow) s = .next (s)) ∧
  (∀ (s : State),
     inService s = true → s.flt.supply = .low →
     exec (.supplyRiseWarn) s = .next ({ s with flt := { s.flt with supply := .warn } })) ∧
  (∀ (s : State),
     inService s = true → s.flt.supply ≠ .low →
     exec (.supplyRiseWarn) s = .next (s)) ∧
  (∀ (s : State),
     inService s = true → s.flt.supply = .low →
     exec (.supplyFallCut) s = .next ({ s with
         flt := { s.flt with supply := .cut },
         pcu := { s.pcu with
             run := .cut, win := .preparing, openW := none, next := none, pace := true, armed := true, edge := .settled,
             starve := .stopped, stall := .stopped, haltWait := .stopped, haltPulse := .stopped, listen := .stopped,
             agreement := .stopped, joinAgreement := false, traversal := none },
         axu := { s.axu with move := none, op := none },
         slu := { s.slu with sel := .unknown, moveLimit := .stopped, settle := .stopped, trim := .stopped },
         stu := { s.stu with phase := .idle, tsWait := .stopped, strokeLimit := .stopped },
         thm := { s.thm with oneShot := .stopped, conv := .none }, liu := { s.liu with tx := none, beaconDue := false } })) ∧
  (∀ (s : State),
     inService s = true → s.flt.supply ≠ .low →
     exec (.supplyFallCut) s = .next (s)) ∧
  (∀ (s : State),
     inService s = true → s.flt.supply = .cut →
     ∃ u, exec (.supplyRecovery) s = .next u ∧
       (∀ c : FaultCode, faultRec c u = if c = .selfTest ∨ c = .duplicateNumber then { faultRec c s with
           pending := (faultRec c s).pending || (faultRec c s).latched } else if c = .supplyLow ∨ c = .supplyWarn then {
         faultRec c s with pending := true } else FaultRec.clearedWith (faultRec c s).action) ∧
       u.flt.supply = .low ∧
       u.flt.axisMark = false ∧
       u = { State.ofStraps s.pending s.number s.role with
           selfTesting := s.selfTesting, resultCode := s.resultCode, params := s.params, free := s.free, flt := u.flt,
           pcu := { PaceUnit.initial with listen := .running 100000 },
           liu := { LineInterface.initial with beaconTimer := .running (s.number.val * 500) },
           ord := { s.ord with setupOpen := true },
           slu := { SelectorUnit.initial with map := s.slu.map, needles := s.slu.needles },
           thm := { ThreadMonitor.initial with bobbin := s.thm.bobbin, lastLoaded := s.thm.lastLoaded } }) ∧
  (∀ (s : State),
     inService s = true → s.flt.supply ≠ .cut →
     exec (.supplyRecovery) s = .next (s))

/-- The beacon timer, what an attempt sends, and what its end and the framer's events do (R47, R49, R165, R166, R180, R182,
R184, R186, R187, R188). Log entries: 11, when an attempt begins, the framer after a lost arbitration or a collision, and a
frame end or idle line without effect; 4, an end without a transmission. -/
def Obligations.TransmitSlotsAndFramer : Prop :=
  (∀ (s : State),
     inService s = true → s.pcu.run ≠ .cut →
     exec (.beaconTimer) s = .next ({ s with
         liu := { s.liu with
             beaconTimer := .running 20000,
             tx := s.liu.tx.map fun t => if t.slot = .beacon then { t with again := true } else t,
             beaconDue := if s.liu.tx.any (fun t => t.slot == .beacon) then s.liu.beaconDue else true } })) ∧
  (∀ (s : State),
     inService s = true → s.pcu.run = .cut →
     exec (.beaconTimer) s = .next ({ s with liu := { s.liu with beaconTimer := .running 20000 } })) ∧
  (∀ (s : State),
     inService s = true → (s.liu.framer ≠ .hunting ∨ s.liu.tx.isSome = true ∨ s.pcu.run = .cut) →
     exec (.transmitAttempt) s = .next (s)) ∧
  (∀ (cs : List FaultCode) (s : State),
     inService s = true → s.liu.framer = .hunting → s.liu.tx = none → s.pcu.run ≠ .cut → (allFaults.filter fun c =>
       (faultRec c s).pending).take 8 = cs → cs ≠ [] →
     ∃ u, exec (.transmitAttempt) s = .next u ∧
       (∀ c : FaultCode, faultRec c u = if c ∈ cs then { faultRec c s with fresh := false } else faultRec c s) ∧
       u.flt.supply = s.flt.supply ∧
       u.flt.axisMark = s.flt.axisMark ∧
       u = { s with
           flt := u.flt,
           liu := { s.liu with
               framer := .inFrame,
               tx := some ⟨.urgent, buildFrame .urgent s.number (octets3 s.pcu.cursor.n ++ [if s.pcu.cursor.step = .first
                 then 0 else 1, BitVec.ofNat 8 cs.length] ++ cs.flatMap fun c => [BitVec.ofNat 8 (faultNumber c), octetSat
                 (faultRec c s).count, (faultRec c s).d1, (faultRec c s).d2]), cs, false⟩ } }) ∧
  (∀ (r : Role) (s : State),
     inService s = true → s.liu.framer = .hunting → s.liu.tx = none → s.pcu.run ≠ .cut → (∀ c ∈ allFaults, (faultRec c
       s).pending = false) → s.liu.beaconDue = true → s.role = some r →
     exec (.transmitAttempt) s = .next ({ s with
         liu := { s.liu with
             framer := .inFrame, tx := some ⟨.beacon, buildFrame .beacon s.number (beaconBody r s), [], false⟩ } })) ∧
  (∀ (s : State),
     inService s = true → (∀ c ∈ allFaults, (faultRec c s).pending = false) → s.liu.beaconDue = false →
     exec (.transmitAttempt) s = .next (s)) ∧
  (∀ (s : State),
     inService s = true → s.liu.tx.isSome = true →
     exec (.arbitrationLost) s = .next ({ s with liu := { s.liu with tx := none, framer := .inFrame } })) ∧
  (∀ (s : State),
     inService s = true → s.liu.tx.isSome = true → s.liu.collisions = 0 →
     exec (.collision) s = .next ({ s with liu := { s.liu with tx := none, framer := .inFrame, collisions := 1 } })) ∧
  (∀ (s : State),
     inService s = true → s.liu.tx.isSome = true → 1 ≤ s.liu.collisions →
     ∃ u, exec (.collision) s = .next u ∧
       raisedIn .duplicateNumber 2 0 s u ∧
       (∀ c : FaultCode, c ≠ .duplicateNumber → faultRec c u = faultRec c s) ∧
       u.flt.supply = s.flt.supply ∧
       u.flt.axisMark = s.flt.axisMark ∧
       u = { s with flt := u.flt, liu := { s.liu with tx := none, framer := .inFrame, collisions := 0 } }) ∧
  (∀ (t : Transmission) (s : State),
     inService s = true → s.liu.tx = some t → t.slot = .urgent →
     ∃ u, exec (.frameSent) s = .next u ∧
       (∀ c : FaultCode, faultRec c u = if c ∈ t.listed ∧ (faultRec c s).fresh = false then { faultRec c s with
           pending := false } else faultRec c s) ∧
       u.flt.supply = s.flt.supply ∧
       u.flt.axisMark = s.flt.axisMark ∧
       u = { s with flt := u.flt, liu := { s.liu with tx := none, framer := .waitIdle, collisions := 0 } }) ∧
  (∀ (t : Transmission) (s : State),
     inService s = true → s.liu.tx = some t → t.slot = .beacon →
     exec (.frameSent) s = .next ({ s with
         liu := { s.liu with tx := none, framer := .waitIdle, collisions := 0, beaconDue := t.again } })) ∧
  (∀ (s : State),
     inService s = true → s.liu.tx = none →
     exec (.arbitrationLost) s = .next (s)) ∧
  (∀ (s : State),
     inService s = true → s.liu.tx = none →
     exec (.collision) s = .next (s)) ∧
  (∀ (s : State),
     inService s = true → s.liu.tx = none →
     exec (.frameSent) s = .next (s)) ∧
  (∀ (s : State),
     inService s = true → s.liu.tx = none →
     exec (.frameAbandoned) s = .next ({ s with liu := { s.liu with framer := .waitIdle } })) ∧
  (∀ (s : State),
     inService s = true → s.liu.tx.isSome = true →
     exec (.frameAbandoned) s = .next (s)) ∧
  (∀ (s : State),
     inService s = true → s.liu.framer ≠ .inFrame →
     exec (.lineIdle) s = .next ({ s with liu := { s.liu with framer := .hunting } })) ∧
  (∀ (s : State),
     inService s = true → s.liu.framer = .inFrame →
     exec (.lineIdle) s = .next (s))

/-- Stitch length, expected feed, band and bounds, and SHORT, LONG or NORMAL (R135). -/
def Obligations.FeedBandArithmetic : Prop :=
  ∀ (ps : Params) (r : Rec) (p : Nat), ps.ka ≤ 255 → ps.kb ≤ 4095 → 1 ≤ ps.delta → ps.delta ≤ 15 →
    let a : Nat := r.o1.toInt.natAbs
    let b : Nat := r.o2.toInt.natAbs
    let ls : Nat := max a b + 3 * min a b / 8
    let e : Nat := (ps.ka * ls + ps.kb) / 64
    let band : Nat := max 1 (e * ps.delta / 16)
    let lo : Int := (e : Int) - band
    let hi : Int := (e : Int) + band
    (a ≤ 128 ∧ b ≤ 128 ∧ stitchLength r = ls ∧ ls ≤ 176) ∧ (expectedFeed ps ls = e ∧ e ≤ 765) ∧
    (feedBand ps e = band ∧ 1 ≤ band ∧ band ≤ 717) ∧ (-1 ≤ lo ∧ lo ≤ 718) ∧ (1 ≤ hi ∧ hi ≤ 1482) ∧
    (feedClass ps r p = .short ↔ (p : Int) < lo) ∧ (feedClass ps r p = .long ↔ hi < (p : Int)) ∧
    (feedClass ps r p = .normal ↔ lo ≤ (p : Int) ∧ (p : Int) ≤ hi) ∧
    (lo < 0 → feedClass ps r p ≠ .short) ∧ (1023 ≤ hi → p ≤ 1023 → feedClass ps r p ≠ .long)

/-- Step positions in their ranges, the move time, and the even spread of the steps (R39, R79, R90, R91, R92). -/
def Obligations.StepsAndMoveTimes : Prop :=
  (∀ (ps : Params) (x y : Int), ps.p ≤ 65535 → 1 ≤ ps.p → -32768 ≤ x → x ≤ 32767 → -32768 ≤ y → y ≤ 32767 →
    (∀ st : Int, toSteps ps x = st ↔ st * 100 ≤ x * ps.p ∧ x * ps.p < (st + 1) * 100) ∧
    -21474509 ≤ toSteps ps x ∧ toSteps ps x ≤ 21473853 ∧ (toSteps ps x - toSteps ps y).natAbs ≤ 42948362) ∧
  (∀ (ps : Params) (base : Nat) (e : Bool) (d : Int) (t : Nat), 1 ≤ ps.vmax → 1 ≤ ps.homeRate →
    (moveDuration ps base e d ≤ t ↔
      base ≤ t ∧ d.natAbs * 1000 ≤ t * ps.vmax ∧ (e = true → d.natAbs * 1000 ≤ t * ps.homeRate))) ∧
  (∀ (ps : Params) (base : Nat) (e : Bool) (d : Int) (j k : Nat), 1 ≤ ps.vmax → ps.vmax ≤ 400 → d ≠ 0 → j < k →
    moveStepTime (moveDuration ps base e d) d j < moveStepTime (moveDuration ps base e d) d k ∧
    moveStepTime (moveDuration ps base e d) d d.natAbs = moveDuration ps base e d) ∧
  (∀ rate share : Nat, stitchPeriod rate = 60000000 / rate ∧ moveTime rate share = 60000000 / rate * share / 16 ∧
    strokeTime rate share + moveTime rate share = max (stitchPeriod rate) (moveTime rate share))

/-- The station laws hold right after reset, at every station number and role (R5, R10, R17, R28, R41, R79, R141, R158,
R160, R167, R175). The straps of State.reset are log entry 2. -/
def Obligations.LawsHoldAtReset : Prop :=
  (∀ (waiting : List Instr) (number : Fin 32) (role : Option Role), let s : State := State.ofStraps waiting number role
    paceLaw s ∧ cutLaw s ∧ loadingLaw s ∧ cursorLaw s ∧ numberLaw s ∧ axisLaw s ∧ faultLaw s ∧ bobbinLaw s ∧ paramsLaw s.params) ∧
  State.reset = State.ofStraps [] 0 (some .head)

/-- Every step keeps the laws of run state, window state, PACE, guard, stops, agreement, traversal and CUT (R19, R20, R22,
R23, R25, R28, R34, R52, R145, R168, R177, R186). -/
def Obligations.PaceAndCutLawsAreKept : Prop :=
  ∀ s t : State, step s = .next t →
    (paceLaw s → paceLaw t) ∧ (paceLaw s → cutLaw s → cutLaw t)

/-- Every step keeps the ring and the loader in their laws (R3, R4, R5, R10, R11, R14, R59, R66). -/
def Obligations.RingAndLoaderLawsAreKept : Prop :=
  ∀ s t : State, step s = .next t →
    loadingLaw s → loadingLaw t

/-- Every step keeps the cursor at or above the oldest record held, and at or below record 16,777,215 (R3, R4, R5, R6, R8,
R13, R16, R41, R150). A BACK window whose record pruning has given up since READY rebases the ring at its opening, log entry
20. -/
def Obligations.CursorStaysInTheRing : Prop :=
  ∀ s t : State, step s = .next t →
    (paceLaw s → cursorLaw s → cursorLaw t) ∧ (paceLaw s → ringForm s.drg → numberLaw s → numberLaw t)

/-- Every step keeps a homed axis at its step position, within the limits, and at Pc without an excursion (R79, R82, R86,
R87, R88, R89, R90, R93, R175). -/
def Obligations.AxisLawIsKept : Prop :=
  ∀ s t : State, step s = .next t →
    paceLaw s → axisLaw s → axisLaw t

/-- Every step keeps fault records, bobbin counter and parameters in their laws (R141, R158, R159, R160, R161, R162, R175).
-/
def Obligations.RecordsCountersAndParametersStayInRange : Prop :=
  ∀ s t : State, step s = .next t →
    (faultLaw s → faultLaw t) ∧ (bobbinLaw s → bobbinLaw t) ∧ (paramsLaw s.params → paramsLaw t.params)

/-- The octets of every well-formed received command are read back as that command (R180, R181, R183, R184, R185, R189). -/
def Obligations.LineFramesReadBack : Prop :=
  ∀ (i : Instr) (octets : List Byte), i.wf = true → encodeLine i = some octets → decodeLine (sampledOf i) octets = i

/-- A codeblock with one bit in error is corrected, one with two is rejected, and none is the tail (R183, R184). -/
def Obligations.BlockCodeCorrectsOneBitAndDetectsTwo : Prop :=
  ∀ data : List Byte, data.length = 7 →
    decodeBlock (encodeBlock data) = some data ∧ encodeBlock data ≠ tailOctets ∧
    (∀ i < 64, decodeBlock (octetsOf (flipAt i (bitsOf (encodeBlock data)))) = some data) ∧
    (∀ i j, i < j → j < 64 → decodeBlock (octetsOf (flipAt i (flipAt j (bitsOf (encodeBlock data))))) = none)
end

