-- ==== Sys2Proof/Laws/State.lean ====
section
/-! SUPPORT. What each state update keeps: one lemma per update, whose clauses are one equation per field it leaves alone, true by rfl. -/

namespace Sys2Proof.Machine

@[simp] theorem setFault_keeps (c : FaultCode) (x : FaultRec) (s : State) :
    (setFault c x s).pending = s.pending ∧ (setFault c x s).number = s.number ∧ (setFault c x s).role = s.role ∧
    (setFault c x s).selfTesting = s.selfTesting ∧ (setFault c x s).resultCode = s.resultCode ∧
    (setFault c x s).params = s.params ∧ (setFault c x s).liu = s.liu ∧ (setFault c x s).ord = s.ord ∧
    (setFault c x s).ptb = s.ptb ∧ (setFault c x s).pcu = s.pcu ∧ (setFault c x s).dld = s.dld ∧
    (setFault c x s).drg = s.drg ∧ (setFault c x s).axu = s.axu ∧ (setFault c x s).slu = s.slu ∧
    (setFault c x s).stu = s.stu ∧ (setFault c x s).thm = s.thm ∧ (setFault c x s).free = s.free := by
  and_intros <;> rfl

@[simp] theorem raiseAs_keeps (a : Action) (c : FaultCode) (d1 d2 : Byte) (s : State) :
    (raiseAs a c d1 d2 s).pending = s.pending ∧ (raiseAs a c d1 d2 s).number = s.number ∧
    (raiseAs a c d1 d2 s).role = s.role ∧ (raiseAs a c d1 d2 s).selfTesting = s.selfTesting ∧
    (raiseAs a c d1 d2 s).resultCode = s.resultCode ∧ (raiseAs a c d1 d2 s).params = s.params ∧
    (raiseAs a c d1 d2 s).liu = s.liu ∧ (raiseAs a c d1 d2 s).ord = s.ord ∧ (raiseAs a c d1 d2 s).ptb = s.ptb ∧
    (raiseAs a c d1 d2 s).pcu = s.pcu ∧ (raiseAs a c d1 d2 s).dld = s.dld ∧ (raiseAs a c d1 d2 s).drg = s.drg ∧
    (raiseAs a c d1 d2 s).axu = s.axu ∧ (raiseAs a c d1 d2 s).slu = s.slu ∧ (raiseAs a c d1 d2 s).stu = s.stu ∧
    (raiseAs a c d1 d2 s).thm = s.thm ∧ (raiseAs a c d1 d2 s).free = s.free := by
  and_intros <;> rfl

@[simp] theorem raise_keeps (c : FaultCode) (d1 d2 : Byte) (s : State) :
    (raise c d1 d2 s).pending = s.pending ∧ (raise c d1 d2 s).number = s.number ∧ (raise c d1 d2 s).role = s.role ∧
    (raise c d1 d2 s).selfTesting = s.selfTesting ∧ (raise c d1 d2 s).resultCode = s.resultCode ∧
    (raise c d1 d2 s).params = s.params ∧ (raise c d1 d2 s).liu = s.liu ∧ (raise c d1 d2 s).ord = s.ord ∧
    (raise c d1 d2 s).ptb = s.ptb ∧ (raise c d1 d2 s).pcu = s.pcu ∧ (raise c d1 d2 s).dld = s.dld ∧
    (raise c d1 d2 s).drg = s.drg ∧ (raise c d1 d2 s).axu = s.axu ∧ (raise c d1 d2 s).slu = s.slu ∧
    (raise c d1 d2 s).stu = s.stu ∧ (raise c d1 d2 s).thm = s.thm ∧ (raise c d1 d2 s).free = s.free := by
  and_intros <;> rfl

@[simp] theorem retainRing_keeps (s : State) :
    (retainRing s).pending = s.pending ∧ (retainRing s).number = s.number ∧ (retainRing s).role = s.role ∧
    (retainRing s).selfTesting = s.selfTesting ∧ (retainRing s).resultCode = s.resultCode ∧
    (retainRing s).params = s.params ∧ (retainRing s).liu = s.liu ∧ (retainRing s).ord = s.ord ∧
    (retainRing s).ptb = s.ptb ∧ (retainRing s).pcu = s.pcu ∧ (retainRing s).dld = s.dld ∧
    (retainRing s).axu = s.axu ∧ (retainRing s).slu = s.slu ∧ (retainRing s).stu = s.stu ∧
    (retainRing s).thm = s.thm ∧ (retainRing s).flt = s.flt ∧ (retainRing s).free = s.free := by
  and_intros <;> rfl

@[simp] theorem writeCursor_keeps (c : Cursor) (s : State) :
    (writeCursor c s).pending = s.pending ∧ (writeCursor c s).number = s.number ∧ (writeCursor c s).role = s.role ∧
    (writeCursor c s).selfTesting = s.selfTesting ∧ (writeCursor c s).resultCode = s.resultCode ∧
    (writeCursor c s).params = s.params ∧ (writeCursor c s).liu = s.liu ∧ (writeCursor c s).ord = s.ord ∧
    (writeCursor c s).ptb = s.ptb ∧ (writeCursor c s).dld = s.dld ∧ (writeCursor c s).drg = s.drg ∧
    (writeCursor c s).axu = s.axu ∧ (writeCursor c s).slu = s.slu ∧ (writeCursor c s).stu = s.stu ∧
    (writeCursor c s).thm = s.thm ∧ (writeCursor c s).flt = s.flt ∧ (writeCursor c s).free = s.free := by
  and_intros <;> rfl

@[simp] theorem writeCursor_cursor (c : Cursor) (s : State) : (writeCursor c s).pcu.cursor = c := rfl

@[simp] theorem startPulse_keeps (s : State) :
    (startPulse s).pending = s.pending ∧ (startPulse s).number = s.number ∧ (startPulse s).role = s.role ∧
    (startPulse s).selfTesting = s.selfTesting ∧ (startPulse s).resultCode = s.resultCode ∧
    (startPulse s).params = s.params ∧ (startPulse s).liu = s.liu ∧ (startPulse s).ord = s.ord ∧
    (startPulse s).ptb = s.ptb ∧ (startPulse s).dld = s.dld ∧ (startPulse s).drg = s.drg ∧
    (startPulse s).axu = s.axu ∧ (startPulse s).slu = s.slu ∧ (startPulse s).stu = s.stu ∧
    (startPulse s).thm = s.thm ∧ (startPulse s).flt = s.flt ∧ (startPulse s).free = s.free := by
  and_intros <;> rfl

@[simp] theorem beginAgreement_keeps (s : State) :
    (beginAgreement s).pending = s.pending ∧ (beginAgreement s).number = s.number ∧
    (beginAgreement s).role = s.role ∧ (beginAgreement s).selfTesting = s.selfTesting ∧
    (beginAgreement s).resultCode = s.resultCode ∧ (beginAgreement s).params = s.params ∧
    (beginAgreement s).liu = s.liu ∧ (beginAgreement s).ord = s.ord ∧ (beginAgreement s).dld = s.dld ∧
    (beginAgreement s).drg = s.drg ∧ (beginAgreement s).axu = s.axu ∧ (beginAgreement s).slu = s.slu ∧
    (beginAgreement s).stu = s.stu ∧ (beginAgreement s).thm = s.thm ∧ (beginAgreement s).flt = s.flt ∧
    (beginAgreement s).free = s.free := by
  and_intros <;> rfl

@[simp] theorem stopPace_keeps (reason : StopReason) (s : State) :
    (stopPace reason s).pending = s.pending ∧ (stopPace reason s).number = s.number ∧
    (stopPace reason s).role = s.role ∧ (stopPace reason s).selfTesting = s.selfTesting ∧
    (stopPace reason s).resultCode = s.resultCode ∧ (stopPace reason s).params = s.params ∧
    (stopPace reason s).liu = s.liu ∧ (stopPace reason s).ord = s.ord ∧ (stopPace reason s).ptb = s.ptb ∧
    (stopPace reason s).dld = s.dld ∧ (stopPace reason s).drg = s.drg ∧ (stopPace reason s).axu = s.axu ∧
    (stopPace reason s).slu = s.slu ∧ (stopPace reason s).stu = s.stu ∧ (stopPace reason s).thm = s.thm ∧
    (stopPace reason s).flt = s.flt ∧ (stopPace reason s).free = s.free := by
  and_intros <;> rfl

@[simp] theorem becomeReady_keeps (w : WindowRec) (s : State) :
    (becomeReady w s).pending = s.pending ∧ (becomeReady w s).number = s.number ∧ (becomeReady w s).role = s.role ∧
    (becomeReady w s).selfTesting = s.selfTesting ∧ (becomeReady w s).resultCode = s.resultCode ∧
    (becomeReady w s).params = s.params ∧ (becomeReady w s).liu = s.liu ∧ (becomeReady w s).ord = s.ord ∧
    (becomeReady w s).ptb = s.ptb ∧ (becomeReady w s).dld = s.dld ∧ (becomeReady w s).drg = s.drg ∧
    (becomeReady w s).axu = s.axu ∧ (becomeReady w s).slu = s.slu ∧ (becomeReady w s).stu = s.stu ∧
    (becomeReady w s).thm = s.thm ∧ (becomeReady w s).flt = s.flt ∧ (becomeReady w s).free = s.free := by
  and_intros <;> rfl

@[simp] theorem setPeer_keeps (n : Station) (p : Peer) (s : State) :
    (setPeer n p s).pending = s.pending ∧ (setPeer n p s).number = s.number ∧ (setPeer n p s).role = s.role ∧
    (setPeer n p s).selfTesting = s.selfTesting ∧ (setPeer n p s).resultCode = s.resultCode ∧
    (setPeer n p s).params = s.params ∧ (setPeer n p s).liu = s.liu ∧ (setPeer n p s).ord = s.ord ∧
    (setPeer n p s).pcu = s.pcu ∧ (setPeer n p s).dld = s.dld ∧ (setPeer n p s).drg = s.drg ∧
    (setPeer n p s).axu = s.axu ∧ (setPeer n p s).slu = s.slu ∧ (setPeer n p s).stu = s.stu ∧
    (setPeer n p s).thm = s.thm ∧ (setPeer n p s).flt = s.flt ∧ (setPeer n p s).free = s.free := by
  and_intros <;> rfl

@[simp] theorem beginJoining_keeps (s : State) :
    (beginJoining s).pending = s.pending ∧ (beginJoining s).number = s.number ∧ (beginJoining s).role = s.role ∧
    (beginJoining s).selfTesting = s.selfTesting ∧ (beginJoining s).resultCode = s.resultCode ∧
    (beginJoining s).params = s.params ∧ (beginJoining s).ord = s.ord ∧ (beginJoining s).ptb = s.ptb ∧
    (beginJoining s).dld = s.dld ∧ (beginJoining s).drg = s.drg ∧ (beginJoining s).axu = s.axu ∧
    (beginJoining s).slu = s.slu ∧ (beginJoining s).stu = s.stu ∧ (beginJoining s).thm = s.thm ∧
    (beginJoining s).flt = s.flt ∧ (beginJoining s).free = s.free := by
  and_intros <;> rfl

@[simp] theorem enterCut_keeps (s : State) :
    (enterCut s).pending = s.pending ∧ (enterCut s).number = s.number ∧ (enterCut s).role = s.role ∧
    (enterCut s).selfTesting = s.selfTesting ∧ (enterCut s).resultCode = s.resultCode ∧
    (enterCut s).params = s.params ∧ (enterCut s).ord = s.ord ∧ (enterCut s).ptb = s.ptb ∧ (enterCut s).dld = s.dld ∧
    (enterCut s).drg = s.drg ∧ (enterCut s).flt = s.flt ∧ (enterCut s).free = s.free := by
  and_intros <;> rfl

@[simp] theorem endMove_keeps (pcNew pt st : Int) (s : State) :
    (endMove pcNew pt st s).pending = s.pending ∧ (endMove pcNew pt st s).number = s.number ∧
    (endMove pcNew pt st s).role = s.role ∧ (endMove pcNew pt st s).selfTesting = s.selfTesting ∧
    (endMove pcNew pt st s).resultCode = s.resultCode ∧ (endMove pcNew pt st s).params = s.params ∧
    (endMove pcNew pt st s).liu = s.liu ∧ (endMove pcNew pt st s).ord = s.ord ∧ (endMove pcNew pt st s).ptb = s.ptb ∧
    (endMove pcNew pt st s).pcu = s.pcu ∧ (endMove pcNew pt st s).dld = s.dld ∧ (endMove pcNew pt st s).drg = s.drg ∧
    (endMove pcNew pt st s).slu = s.slu ∧ (endMove pcNew pt st s).stu = s.stu ∧ (endMove pcNew pt st s).thm = s.thm ∧
    (endMove pcNew pt st s).flt = s.flt ∧ (endMove pcNew pt st s).free = s.free := by
  and_intros <;> rfl

@[simp] theorem movetoEnd_keeps (pt st : Int) (s : State) :
    (movetoEnd pt st s).pending = s.pending ∧ (movetoEnd pt st s).number = s.number ∧
    (movetoEnd pt st s).role = s.role ∧ (movetoEnd pt st s).selfTesting = s.selfTesting ∧
    (movetoEnd pt st s).resultCode = s.resultCode ∧ (movetoEnd pt st s).params = s.params ∧
    (movetoEnd pt st s).liu = s.liu ∧ (movetoEnd pt st s).ord = s.ord ∧ (movetoEnd pt st s).ptb = s.ptb ∧
    (movetoEnd pt st s).pcu = s.pcu ∧ (movetoEnd pt st s).dld = s.dld ∧ (movetoEnd pt st s).drg = s.drg ∧
    (movetoEnd pt st s).slu = s.slu ∧ (movetoEnd pt st s).stu = s.stu ∧ (movetoEnd pt st s).thm = s.thm ∧
    (movetoEnd pt st s).flt = s.flt ∧ (movetoEnd pt st s).free = s.free := by
  and_intros <;> rfl

@[simp] theorem modifyNeedle_keeps (n : Nat) (f : Needle → Needle) (s : State) :
    (modifyNeedle n f s).pending = s.pending ∧ (modifyNeedle n f s).number = s.number ∧
    (modifyNeedle n f s).role = s.role ∧ (modifyNeedle n f s).selfTesting = s.selfTesting ∧
    (modifyNeedle n f s).resultCode = s.resultCode ∧ (modifyNeedle n f s).params = s.params ∧
    (modifyNeedle n f s).liu = s.liu ∧ (modifyNeedle n f s).ord = s.ord ∧ (modifyNeedle n f s).ptb = s.ptb ∧
    (modifyNeedle n f s).pcu = s.pcu ∧ (modifyNeedle n f s).dld = s.dld ∧ (modifyNeedle n f s).drg = s.drg ∧
    (modifyNeedle n f s).axu = s.axu ∧ (modifyNeedle n f s).stu = s.stu ∧ (modifyNeedle n f s).thm = s.thm ∧
    (modifyNeedle n f s).flt = s.flt ∧ (modifyNeedle n f s).free = s.free := by
  and_intros <;> rfl

@[simp] theorem driveFrom_keeps (q p : Nat) (s : State) :
    (driveFrom q p s).pending = s.pending ∧ (driveFrom q p s).number = s.number ∧ (driveFrom q p s).role = s.role ∧
    (driveFrom q p s).selfTesting = s.selfTesting ∧ (driveFrom q p s).resultCode = s.resultCode ∧
    (driveFrom q p s).params = s.params ∧ (driveFrom q p s).liu = s.liu ∧ (driveFrom q p s).ord = s.ord ∧
    (driveFrom q p s).ptb = s.ptb ∧ (driveFrom q p s).pcu = s.pcu ∧ (driveFrom q p s).dld = s.dld ∧
    (driveFrom q p s).drg = s.drg ∧ (driveFrom q p s).axu = s.axu ∧ (driveFrom q p s).stu = s.stu ∧
    (driveFrom q p s).thm = s.thm ∧ (driveFrom q p s).flt = s.flt ∧ (driveFrom q p s).free = s.free := by
  and_intros <;> rfl

@[simp] theorem settleAt_keeps (q : Nat) (s : State) :
    (settleAt q s).pending = s.pending ∧ (settleAt q s).number = s.number ∧ (settleAt q s).role = s.role ∧
    (settleAt q s).selfTesting = s.selfTesting ∧ (settleAt q s).resultCode = s.resultCode ∧
    (settleAt q s).params = s.params ∧ (settleAt q s).liu = s.liu ∧ (settleAt q s).ord = s.ord ∧
    (settleAt q s).ptb = s.ptb ∧ (settleAt q s).pcu = s.pcu ∧ (settleAt q s).dld = s.dld ∧
    (settleAt q s).drg = s.drg ∧ (settleAt q s).axu = s.axu ∧ (settleAt q s).stu = s.stu ∧
    (settleAt q s).thm = s.thm ∧ (settleAt q s).flt = s.flt ∧ (settleAt q s).free = s.free := by
  and_intros <;> rfl

@[simp] theorem applyPending_keeps (s : State) :
    (applyPending s).pending = s.pending ∧ (applyPending s).number = s.number ∧ (applyPending s).role = s.role ∧
    (applyPending s).selfTesting = s.selfTesting ∧ (applyPending s).resultCode = s.resultCode ∧
    (applyPending s).params = s.params ∧ (applyPending s).liu = s.liu ∧ (applyPending s).ord = s.ord ∧
    (applyPending s).ptb = s.ptb ∧ (applyPending s).pcu = s.pcu ∧ (applyPending s).dld = s.dld ∧
    (applyPending s).drg = s.drg ∧ (applyPending s).axu = s.axu ∧ (applyPending s).thm = s.thm ∧
    (applyPending s).flt = s.flt ∧ (applyPending s).free = s.free := by
  and_intros <;> rfl

@[simp] theorem startStroke_keeps (n needle : Nat) (x : Rec) (s : State) :
    (startStroke n needle x s).pending = s.pending ∧ (startStroke n needle x s).number = s.number ∧
    (startStroke n needle x s).role = s.role ∧ (startStroke n needle x s).selfTesting = s.selfTesting ∧
    (startStroke n needle x s).resultCode = s.resultCode ∧ (startStroke n needle x s).params = s.params ∧
    (startStroke n needle x s).liu = s.liu ∧ (startStroke n needle x s).ord = s.ord ∧
    (startStroke n needle x s).ptb = s.ptb ∧ (startStroke n needle x s).pcu = s.pcu ∧
    (startStroke n needle x s).dld = s.dld ∧ (startStroke n needle x s).drg = s.drg ∧
    (startStroke n needle x s).axu = s.axu ∧ (startStroke n needle x s).slu = s.slu ∧
    (startStroke n needle x s).flt = s.flt ∧ (startStroke n needle x s).free = s.free := by
  and_intros <;> rfl

@[simp] theorem strokeIdle_keeps (s : State) :
    (strokeIdle s).pending = s.pending ∧ (strokeIdle s).number = s.number ∧ (strokeIdle s).role = s.role ∧
    (strokeIdle s).selfTesting = s.selfTesting ∧ (strokeIdle s).resultCode = s.resultCode ∧
    (strokeIdle s).params = s.params ∧ (strokeIdle s).liu = s.liu ∧ (strokeIdle s).ord = s.ord ∧
    (strokeIdle s).ptb = s.ptb ∧ (strokeIdle s).pcu = s.pcu ∧ (strokeIdle s).dld = s.dld ∧
    (strokeIdle s).drg = s.drg ∧ (strokeIdle s).axu = s.axu ∧ (strokeIdle s).slu = s.slu ∧
    (strokeIdle s).thm = s.thm ∧ (strokeIdle s).flt = s.flt ∧ (strokeIdle s).free = s.free := by
  and_intros <;> rfl

@[simp] theorem countGood_keeps (s : State) :
    (countGood s).pending = s.pending ∧ (countGood s).number = s.number ∧ (countGood s).role = s.role ∧
    (countGood s).selfTesting = s.selfTesting ∧ (countGood s).resultCode = s.resultCode ∧
    (countGood s).params = s.params ∧ (countGood s).liu = s.liu ∧ (countGood s).ord = s.ord ∧
    (countGood s).ptb = s.ptb ∧ (countGood s).pcu = s.pcu ∧ (countGood s).dld = s.dld ∧ (countGood s).drg = s.drg ∧
    (countGood s).axu = s.axu ∧ (countGood s).slu = s.slu ∧ (countGood s).stu = s.stu ∧ (countGood s).flt = s.flt ∧
    (countGood s).free = s.free := by
  and_intros <;> rfl

@[simp] theorem markStroked_keeps (s : State) :
    (markStroked s).pending = s.pending ∧ (markStroked s).number = s.number ∧ (markStroked s).role = s.role ∧
    (markStroked s).selfTesting = s.selfTesting ∧ (markStroked s).resultCode = s.resultCode ∧
    (markStroked s).params = s.params ∧ (markStroked s).liu = s.liu ∧ (markStroked s).ord = s.ord ∧
    (markStroked s).ptb = s.ptb ∧ (markStroked s).pcu = s.pcu ∧ (markStroked s).dld = s.dld ∧
    (markStroked s).drg = s.drg ∧ (markStroked s).axu = s.axu ∧ (markStroked s).slu = s.slu ∧
    (markStroked s).thm = s.thm ∧ (markStroked s).flt = s.flt ∧ (markStroked s).free = s.free := by
  and_intros <;> rfl

@[simp] theorem openPace_keeps (w : WindowRec) (s : State) :
    (openPace w s).pending = s.pending ∧ (openPace w s).number = s.number ∧ (openPace w s).role = s.role ∧
    (openPace w s).selfTesting = s.selfTesting ∧ (openPace w s).resultCode = s.resultCode ∧
    (openPace w s).params = s.params ∧ (openPace w s).liu = s.liu ∧ (openPace w s).ord = s.ord ∧
    (openPace w s).ptb = s.ptb ∧ (openPace w s).dld = s.dld ∧ (openPace w s).drg = s.drg ∧
    (openPace w s).axu = s.axu ∧ (openPace w s).slu = s.slu ∧ (openPace w s).stu = s.stu ∧
    (openPace w s).thm = s.thm ∧ (openPace w s).flt = s.flt ∧ (openPace w s).free = s.free := by
  and_intros <;> rfl

@[simp] theorem pendHalted_keeps (s : State) :
    (pendHalted s).pending = s.pending ∧ (pendHalted s).number = s.number ∧ (pendHalted s).role = s.role ∧
    (pendHalted s).selfTesting = s.selfTesting ∧ (pendHalted s).resultCode = s.resultCode ∧
    (pendHalted s).params = s.params ∧ (pendHalted s).liu = s.liu ∧ (pendHalted s).ord = s.ord ∧
    (pendHalted s).ptb = s.ptb ∧ (pendHalted s).dld = s.dld ∧ (pendHalted s).drg = s.drg ∧
    (pendHalted s).axu = s.axu ∧ (pendHalted s).slu = s.slu ∧ (pendHalted s).stu = s.stu ∧
    (pendHalted s).thm = s.thm ∧ (pendHalted s).flt = s.flt ∧ (pendHalted s).free = s.free := by
  and_intros <;> rfl

@[simp] theorem startTx_keeps (tx : Transmission) (s : State) :
    (startTx tx s).pending = s.pending ∧ (startTx tx s).number = s.number ∧ (startTx tx s).role = s.role ∧
    (startTx tx s).selfTesting = s.selfTesting ∧ (startTx tx s).resultCode = s.resultCode ∧
    (startTx tx s).params = s.params ∧ (startTx tx s).ord = s.ord ∧ (startTx tx s).ptb = s.ptb ∧
    (startTx tx s).pcu = s.pcu ∧ (startTx tx s).dld = s.dld ∧ (startTx tx s).drg = s.drg ∧
    (startTx tx s).axu = s.axu ∧ (startTx tx s).slu = s.slu ∧ (startTx tx s).stu = s.stu ∧
    (startTx tx s).thm = s.thm ∧ (startTx tx s).flt = s.flt ∧ (startTx tx s).free = s.free := by
  and_intros <;> rfl

@[simp] theorem refuse_keeps (kind : Byte) (code : RefusalCode) (s : State) :
    (refuse kind code s).pending = s.pending ∧ (refuse kind code s).number = s.number ∧
    (refuse kind code s).role = s.role ∧ (refuse kind code s).selfTesting = s.selfTesting ∧
    (refuse kind code s).resultCode = s.resultCode ∧ (refuse kind code s).params = s.params ∧
    (refuse kind code s).liu = s.liu ∧ (refuse kind code s).ptb = s.ptb ∧ (refuse kind code s).pcu = s.pcu ∧
    (refuse kind code s).dld = s.dld ∧ (refuse kind code s).drg = s.drg ∧ (refuse kind code s).axu = s.axu ∧
    (refuse kind code s).slu = s.slu ∧ (refuse kind code s).stu = s.stu ∧ (refuse kind code s).thm = s.thm ∧
    (refuse kind code s).flt = s.flt ∧ (refuse kind code s).free = s.free := by
  and_intros <;> rfl

@[simp] theorem countAccepted_keeps (s : State) :
    (countAccepted s).pending = s.pending ∧ (countAccepted s).number = s.number ∧ (countAccepted s).role = s.role ∧
    (countAccepted s).selfTesting = s.selfTesting ∧ (countAccepted s).resultCode = s.resultCode ∧
    (countAccepted s).params = s.params ∧ (countAccepted s).liu = s.liu ∧ (countAccepted s).ptb = s.ptb ∧
    (countAccepted s).pcu = s.pcu ∧ (countAccepted s).dld = s.dld ∧ (countAccepted s).drg = s.drg ∧
    (countAccepted s).axu = s.axu ∧ (countAccepted s).slu = s.slu ∧ (countAccepted s).stu = s.stu ∧
    (countAccepted s).thm = s.thm ∧ (countAccepted s).flt = s.flt ∧ (countAccepted s).free = s.free := by
  and_intros <;> rfl

@[simp] theorem closeSetup_keeps (s : State) :
    (closeSetup s).pending = s.pending ∧ (closeSetup s).number = s.number ∧ (closeSetup s).role = s.role ∧
    (closeSetup s).selfTesting = s.selfTesting ∧ (closeSetup s).resultCode = s.resultCode ∧
    (closeSetup s).params = s.params ∧ (closeSetup s).liu = s.liu ∧ (closeSetup s).ptb = s.ptb ∧
    (closeSetup s).pcu = s.pcu ∧ (closeSetup s).dld = s.dld ∧ (closeSetup s).drg = s.drg ∧
    (closeSetup s).axu = s.axu ∧ (closeSetup s).slu = s.slu ∧ (closeSetup s).stu = s.stu ∧
    (closeSetup s).thm = s.thm ∧ (closeSetup s).flt = s.flt ∧ (closeSetup s).free = s.free := by
  and_intros <;> rfl

@[simp] theorem startRun_keeps (s : State) :
    (startRun s).pending = s.pending ∧ (startRun s).number = s.number ∧ (startRun s).role = s.role ∧
    (startRun s).selfTesting = s.selfTesting ∧ (startRun s).resultCode = s.resultCode ∧
    (startRun s).params = s.params ∧ (startRun s).liu = s.liu ∧ (startRun s).ptb = s.ptb ∧ (startRun s).dld = s.dld ∧
    (startRun s).drg = s.drg ∧ (startRun s).axu = s.axu ∧ (startRun s).slu = s.slu ∧ (startRun s).stu = s.stu ∧
    (startRun s).thm = s.thm ∧ (startRun s).flt = s.flt ∧ (startRun s).free = s.free := by
  and_intros <;> rfl

@[simp] theorem startTraversal_keeps (dir : TravDir) (k : Nat) (s : State) :
    (startTraversal dir k s).pending = s.pending ∧ (startTraversal dir k s).number = s.number ∧
    (startTraversal dir k s).role = s.role ∧ (startTraversal dir k s).selfTesting = s.selfTesting ∧
    (startTraversal dir k s).resultCode = s.resultCode ∧ (startTraversal dir k s).params = s.params ∧
    (startTraversal dir k s).liu = s.liu ∧ (startTraversal dir k s).ptb = s.ptb ∧
    (startTraversal dir k s).dld = s.dld ∧ (startTraversal dir k s).drg = s.drg ∧
    (startTraversal dir k s).axu = s.axu ∧ (startTraversal dir k s).slu = s.slu ∧
    (startTraversal dir k s).stu = s.stu ∧ (startTraversal dir k s).thm = s.thm ∧
    (startTraversal dir k s).flt = s.flt ∧ (startTraversal dir k s).free = s.free := by
  and_intros <;> rfl

@[simp] theorem reseat_keeps (q : SetSeg) (s : State) :
    (reseat q s).pending = s.pending ∧ (reseat q s).number = s.number ∧ (reseat q s).role = s.role ∧
    (reseat q s).selfTesting = s.selfTesting ∧ (reseat q s).resultCode = s.resultCode ∧
    (reseat q s).params = s.params ∧ (reseat q s).liu = s.liu ∧ (reseat q s).ord = s.ord ∧ (reseat q s).ptb = s.ptb ∧
    (reseat q s).pcu = s.pcu ∧ (reseat q s).axu = s.axu ∧ (reseat q s).slu = s.slu ∧ (reseat q s).stu = s.stu ∧
    (reseat q s).thm = s.thm ∧ (reseat q s).flt = s.flt ∧ (reseat q s).free = s.free := by
  and_intros <;> rfl

@[simp] theorem setSupply_keeps (level : SupplyLevel) (s : State) :
    (setSupply level s).pending = s.pending ∧ (setSupply level s).number = s.number ∧
    (setSupply level s).role = s.role ∧ (setSupply level s).selfTesting = s.selfTesting ∧
    (setSupply level s).resultCode = s.resultCode ∧ (setSupply level s).params = s.params ∧
    (setSupply level s).liu = s.liu ∧ (setSupply level s).ord = s.ord ∧ (setSupply level s).ptb = s.ptb ∧
    (setSupply level s).pcu = s.pcu ∧ (setSupply level s).dld = s.dld ∧ (setSupply level s).drg = s.drg ∧
    (setSupply level s).axu = s.axu ∧ (setSupply level s).slu = s.slu ∧ (setSupply level s).stu = s.stu ∧
    (setSupply level s).thm = s.thm ∧ (setSupply level s).free = s.free := by
  and_intros <;> rfl

end Sys2Proof.Machine
end

