-- ==== Sys2Proof/Laws/Frames.lean ====
section
/-! SUPPORT. What each shared operation keeps: one lemma per operation, whose clauses are one equation per field it leaves alone. -/

namespace Sys2Proof.Machine

@[simp] theorem unlatch_keeps (c : FaultCode) (s : State) :
    (unlatch c s).pending = s.pending ∧ (unlatch c s).number = s.number ∧ (unlatch c s).role = s.role ∧
    (unlatch c s).selfTesting = s.selfTesting ∧ (unlatch c s).resultCode = s.resultCode ∧
    (unlatch c s).params = s.params ∧ (unlatch c s).liu = s.liu ∧ (unlatch c s).ord = s.ord ∧
    (unlatch c s).ptb = s.ptb ∧ (unlatch c s).pcu = s.pcu ∧ (unlatch c s).dld = s.dld ∧ (unlatch c s).drg = s.drg ∧
    (unlatch c s).axu = s.axu ∧ (unlatch c s).slu = s.slu ∧ (unlatch c s).stu = s.stu ∧ (unlatch c s).thm = s.thm ∧
    (unlatch c s).free = s.free := by
  unfold unlatch
  (repeat' split) <;> simp

@[simp] theorem clearOne_keeps (c : FaultCode) (s : State) :
    (clearOne c s).pending = s.pending ∧ (clearOne c s).number = s.number ∧ (clearOne c s).role = s.role ∧
    (clearOne c s).selfTesting = s.selfTesting ∧ (clearOne c s).resultCode = s.resultCode ∧
    (clearOne c s).params = s.params ∧ (clearOne c s).liu = s.liu ∧ (clearOne c s).ord = s.ord ∧
    (clearOne c s).ptb = s.ptb ∧ (clearOne c s).pcu = s.pcu ∧ (clearOne c s).dld = s.dld ∧
    (clearOne c s).drg = s.drg ∧ (clearOne c s).axu = s.axu ∧ (clearOne c s).slu = s.slu ∧
    (clearOne c s).stu = s.stu ∧ (clearOne c s).thm = s.thm ∧ (clearOne c s).free = s.free := by
  unfold clearOne
  (repeat' split) <;> simp

@[simp] theorem clearList_keeps (cs : List FaultCode) (s : State) :
    (clearList cs s).pending = s.pending ∧ (clearList cs s).number = s.number ∧ (clearList cs s).role = s.role ∧
    (clearList cs s).selfTesting = s.selfTesting ∧ (clearList cs s).resultCode = s.resultCode ∧
    (clearList cs s).params = s.params ∧ (clearList cs s).liu = s.liu ∧ (clearList cs s).ord = s.ord ∧
    (clearList cs s).ptb = s.ptb ∧ (clearList cs s).pcu = s.pcu ∧ (clearList cs s).dld = s.dld ∧
    (clearList cs s).drg = s.drg ∧ (clearList cs s).axu = s.axu ∧ (clearList cs s).slu = s.slu ∧
    (clearList cs s).stu = s.stu ∧ (clearList cs s).thm = s.thm ∧ (clearList cs s).free = s.free := by
  induction cs generalizing s with
  | nil => simp [clearList]
  | cons c cs ih => simp [clearList, ih]

@[simp] theorem raisePeerLost_keeps (n : Station) (role : Role) (s : State) :
    (raisePeerLost n role s).pending = s.pending ∧ (raisePeerLost n role s).number = s.number ∧
    (raisePeerLost n role s).role = s.role ∧ (raisePeerLost n role s).selfTesting = s.selfTesting ∧
    (raisePeerLost n role s).resultCode = s.resultCode ∧ (raisePeerLost n role s).params = s.params ∧
    (raisePeerLost n role s).liu = s.liu ∧ (raisePeerLost n role s).ord = s.ord ∧
    (raisePeerLost n role s).ptb = s.ptb ∧ (raisePeerLost n role s).pcu = s.pcu ∧
    (raisePeerLost n role s).dld = s.dld ∧ (raisePeerLost n role s).drg = s.drg ∧
    (raisePeerLost n role s).axu = s.axu ∧ (raisePeerLost n role s).slu = s.slu ∧
    (raisePeerLost n role s).stu = s.stu ∧ (raisePeerLost n role s).thm = s.thm ∧
    (raisePeerLost n role s).free = s.free := by
  unfold raisePeerLost
  (repeat' split) <;> simp

@[simp] theorem raiseStartingLevel_keeps (s : State) :
    (raiseStartingLevel s).pending = s.pending ∧ (raiseStartingLevel s).number = s.number ∧
    (raiseStartingLevel s).role = s.role ∧ (raiseStartingLevel s).selfTesting = s.selfTesting ∧
    (raiseStartingLevel s).resultCode = s.resultCode ∧ (raiseStartingLevel s).params = s.params ∧
    (raiseStartingLevel s).liu = s.liu ∧ (raiseStartingLevel s).ord = s.ord ∧ (raiseStartingLevel s).ptb = s.ptb ∧
    (raiseStartingLevel s).pcu = s.pcu ∧ (raiseStartingLevel s).dld = s.dld ∧ (raiseStartingLevel s).drg = s.drg ∧
    (raiseStartingLevel s).axu = s.axu ∧ (raiseStartingLevel s).slu = s.slu ∧ (raiseStartingLevel s).stu = s.stu ∧
    (raiseStartingLevel s).thm = s.thm ∧ (raiseStartingLevel s).free = s.free := by
  unfold raiseStartingLevel
  (repeat' split) <;> simp

@[simp] theorem releaseRing_keeps (s : State) :
    (releaseRing s).pending = s.pending ∧ (releaseRing s).number = s.number ∧ (releaseRing s).role = s.role ∧
    (releaseRing s).selfTesting = s.selfTesting ∧ (releaseRing s).resultCode = s.resultCode ∧
    (releaseRing s).params = s.params ∧ (releaseRing s).liu = s.liu ∧ (releaseRing s).ord = s.ord ∧
    (releaseRing s).ptb = s.ptb ∧ (releaseRing s).pcu = s.pcu ∧ (releaseRing s).dld = s.dld ∧
    (releaseRing s).axu = s.axu ∧ (releaseRing s).slu = s.slu ∧ (releaseRing s).stu = s.stu ∧
    (releaseRing s).thm = s.thm ∧ (releaseRing s).flt = s.flt ∧ (releaseRing s).free = s.free := by
  unfold releaseRing
  (repeat' split) <;> simp

@[simp] theorem leaveWait_keeps (s : State) :
    (leaveWait s).pending = s.pending ∧ (leaveWait s).number = s.number ∧ (leaveWait s).role = s.role ∧
    (leaveWait s).selfTesting = s.selfTesting ∧ (leaveWait s).resultCode = s.resultCode ∧
    (leaveWait s).params = s.params ∧ (leaveWait s).liu = s.liu ∧ (leaveWait s).ord = s.ord ∧
    (leaveWait s).ptb = s.ptb ∧ (leaveWait s).pcu = s.pcu ∧ (leaveWait s).drg = s.drg ∧ (leaveWait s).axu = s.axu ∧
    (leaveWait s).slu = s.slu ∧ (leaveWait s).stu = s.stu ∧ (leaveWait s).thm = s.thm ∧ (leaveWait s).flt = s.flt ∧
    (leaveWait s).free = s.free := by
  unfold leaveWait
  (repeat' split) <;> simp

@[simp] theorem followCursor_keeps (s : State) :
    (followCursor s).pending = s.pending ∧ (followCursor s).number = s.number ∧ (followCursor s).role = s.role ∧
    (followCursor s).selfTesting = s.selfTesting ∧ (followCursor s).resultCode = s.resultCode ∧
    (followCursor s).params = s.params ∧ (followCursor s).liu = s.liu ∧ (followCursor s).ord = s.ord ∧
    (followCursor s).ptb = s.ptb ∧ (followCursor s).pcu = s.pcu ∧ (followCursor s).axu = s.axu ∧
    (followCursor s).slu = s.slu ∧ (followCursor s).stu = s.stu ∧ (followCursor s).thm = s.thm ∧
    (followCursor s).flt = s.flt ∧ (followCursor s).free = s.free := by
  simp [followCursor]

@[simp] theorem setCursor_keeps (c : Cursor) (s : State) :
    (setCursor c s).pending = s.pending ∧ (setCursor c s).number = s.number ∧ (setCursor c s).role = s.role ∧
    (setCursor c s).selfTesting = s.selfTesting ∧ (setCursor c s).resultCode = s.resultCode ∧
    (setCursor c s).params = s.params ∧ (setCursor c s).liu = s.liu ∧ (setCursor c s).ord = s.ord ∧
    (setCursor c s).ptb = s.ptb ∧ (setCursor c s).axu = s.axu ∧ (setCursor c s).slu = s.slu ∧
    (setCursor c s).stu = s.stu ∧ (setCursor c s).thm = s.thm ∧ (setCursor c s).flt = s.flt ∧
    (setCursor c s).free = s.free := by
  unfold setCursor
  (repeat' split) <;> simp

@[simp] theorem setCursor_cursor (c : Cursor) (s : State) : (setCursor c s).pcu.cursor = c := by
  unfold setCursor
  split <;> simp

@[simp] theorem enterLockout_keeps (reason : LockReason) (segNo : Byte) (s : State) :
    (enterLockout reason segNo s).pending = s.pending ∧ (enterLockout reason segNo s).number = s.number ∧
    (enterLockout reason segNo s).role = s.role ∧ (enterLockout reason segNo s).selfTesting = s.selfTesting ∧
    (enterLockout reason segNo s).resultCode = s.resultCode ∧ (enterLockout reason segNo s).params = s.params ∧
    (enterLockout reason segNo s).liu = s.liu ∧ (enterLockout reason segNo s).ord = s.ord ∧
    (enterLockout reason segNo s).ptb = s.ptb ∧ (enterLockout reason segNo s).pcu = s.pcu ∧
    (enterLockout reason segNo s).drg = s.drg ∧ (enterLockout reason segNo s).axu = s.axu ∧
    (enterLockout reason segNo s).slu = s.slu ∧ (enterLockout reason segNo s).stu = s.stu ∧
    (enterLockout reason segNo s).thm = s.thm ∧ (enterLockout reason segNo s).free = s.free := by
  simp [enterLockout]

@[simp] theorem beaconFallsDue_keeps (s : State) :
    (beaconFallsDue s).pending = s.pending ∧ (beaconFallsDue s).number = s.number ∧
    (beaconFallsDue s).role = s.role ∧ (beaconFallsDue s).selfTesting = s.selfTesting ∧
    (beaconFallsDue s).resultCode = s.resultCode ∧ (beaconFallsDue s).params = s.params ∧
    (beaconFallsDue s).ord = s.ord ∧ (beaconFallsDue s).ptb = s.ptb ∧ (beaconFallsDue s).pcu = s.pcu ∧
    (beaconFallsDue s).dld = s.dld ∧ (beaconFallsDue s).drg = s.drg ∧ (beaconFallsDue s).axu = s.axu ∧
    (beaconFallsDue s).slu = s.slu ∧ (beaconFallsDue s).stu = s.stu ∧ (beaconFallsDue s).thm = s.thm ∧
    (beaconFallsDue s).flt = s.flt ∧ (beaconFallsDue s).free = s.free := by
  unfold beaconFallsDue
  (repeat' split) <;> simp

@[simp] theorem rosterCheck_keeps (s : State) :
    (rosterCheck s).pending = s.pending ∧ (rosterCheck s).number = s.number ∧ (rosterCheck s).role = s.role ∧
    (rosterCheck s).selfTesting = s.selfTesting ∧ (rosterCheck s).resultCode = s.resultCode ∧
    (rosterCheck s).params = s.params ∧ (rosterCheck s).liu = s.liu ∧ (rosterCheck s).ord = s.ord ∧
    (rosterCheck s).ptb = s.ptb ∧ (rosterCheck s).pcu = s.pcu ∧ (rosterCheck s).dld = s.dld ∧
    (rosterCheck s).drg = s.drg ∧ (rosterCheck s).axu = s.axu ∧ (rosterCheck s).slu = s.slu ∧
    (rosterCheck s).stu = s.stu ∧ (rosterCheck s).thm = s.thm ∧ (rosterCheck s).free = s.free := by
  unfold rosterCheck
  (repeat' split) <;> simp

@[simp] theorem enterStopped_keeps (reason : StopReason) (s : State) :
    (enterStopped reason s).pending = s.pending ∧ (enterStopped reason s).number = s.number ∧
    (enterStopped reason s).role = s.role ∧ (enterStopped reason s).selfTesting = s.selfTesting ∧
    (enterStopped reason s).resultCode = s.resultCode ∧ (enterStopped reason s).params = s.params ∧
    (enterStopped reason s).ord = s.ord ∧ (enterStopped reason s).dld = s.dld ∧ (enterStopped reason s).drg = s.drg ∧
    (enterStopped reason s).axu = s.axu ∧ (enterStopped reason s).slu = s.slu ∧ (enterStopped reason s).stu = s.stu ∧
    (enterStopped reason s).thm = s.thm ∧ (enterStopped reason s).flt = s.flt ∧ (enterStopped reason s).free = s.free := by
  simp [enterStopped]

@[simp] theorem axisFollow_keeps (c : Cursor) (s : State) :
    (axisFollow c s).pending = s.pending ∧ (axisFollow c s).number = s.number ∧ (axisFollow c s).role = s.role ∧
    (axisFollow c s).selfTesting = s.selfTesting ∧ (axisFollow c s).resultCode = s.resultCode ∧
    (axisFollow c s).params = s.params ∧ (axisFollow c s).liu = s.liu ∧ (axisFollow c s).ord = s.ord ∧
    (axisFollow c s).ptb = s.ptb ∧ (axisFollow c s).pcu = s.pcu ∧ (axisFollow c s).dld = s.dld ∧
    (axisFollow c s).drg = s.drg ∧ (axisFollow c s).slu = s.slu ∧ (axisFollow c s).stu = s.stu ∧
    (axisFollow c s).thm = s.thm ∧ (axisFollow c s).free = s.free := by
  unfold axisFollow
  (repeat' split) <;> simp

@[simp] theorem rebase_keeps (c : Cursor) (s : State) :
    (rebase c s).pending = s.pending ∧ (rebase c s).number = s.number ∧ (rebase c s).role = s.role ∧
    (rebase c s).selfTesting = s.selfTesting ∧ (rebase c s).resultCode = s.resultCode ∧
    (rebase c s).params = s.params ∧ (rebase c s).liu = s.liu ∧ (rebase c s).ord = s.ord ∧ (rebase c s).ptb = s.ptb ∧
    (rebase c s).axu = s.axu ∧ (rebase c s).slu = s.slu ∧ (rebase c s).stu = s.stu ∧ (rebase c s).thm = s.thm ∧
    (rebase c s).free = s.free := by
  simp [rebase]

/-- R16: after a rebase N, F and L are one. -/
theorem rebase_place (c : Cursor) (s : State) :
    (rebase c s).pcu.cursor = c ∧ (rebase c s).drg.F = c.n ∧ ringL (rebase c s).drg = c.n := by
  simp [rebase, emptiedAt, ringL]

@[simp] theorem advanceCursor_keeps (c : Cursor) (s : State) :
    (advanceCursor c s).pending = s.pending ∧ (advanceCursor c s).number = s.number ∧
    (advanceCursor c s).role = s.role ∧ (advanceCursor c s).selfTesting = s.selfTesting ∧
    (advanceCursor c s).resultCode = s.resultCode ∧ (advanceCursor c s).params = s.params ∧
    (advanceCursor c s).liu = s.liu ∧ (advanceCursor c s).ord = s.ord ∧ (advanceCursor c s).ptb = s.ptb ∧
    (advanceCursor c s).axu = s.axu ∧ (advanceCursor c s).slu = s.slu ∧ (advanceCursor c s).stu = s.stu ∧
    (advanceCursor c s).thm = s.thm ∧ (advanceCursor c s).free = s.free := by
  unfold advanceCursor
  split <;> simp

@[simp] theorem advanceCursor_cursor (c : Cursor) (s : State) : (advanceCursor c s).pcu.cursor = c := by
  unfold advanceCursor
  split
  · exact (rebase_place c s).1
  · simp

@[simp] theorem adoptCursor_keeps (c : Cursor) (s : State) :
    (adoptCursor c s).pending = s.pending ∧ (adoptCursor c s).number = s.number ∧ (adoptCursor c s).role = s.role ∧
    (adoptCursor c s).selfTesting = s.selfTesting ∧ (adoptCursor c s).resultCode = s.resultCode ∧
    (adoptCursor c s).params = s.params ∧ (adoptCursor c s).liu = s.liu ∧ (adoptCursor c s).ord = s.ord ∧
    (adoptCursor c s).ptb = s.ptb ∧ (adoptCursor c s).slu = s.slu ∧ (adoptCursor c s).stu = s.stu ∧
    (adoptCursor c s).thm = s.thm ∧ (adoptCursor c s).free = s.free := by
  unfold adoptCursor
  (repeat' split) <;> simp

@[simp] theorem fixTarget_keeps (s : State) :
    (fixTarget s).pending = s.pending ∧ (fixTarget s).number = s.number ∧ (fixTarget s).role = s.role ∧
    (fixTarget s).selfTesting = s.selfTesting ∧ (fixTarget s).resultCode = s.resultCode ∧
    (fixTarget s).params = s.params ∧ (fixTarget s).ord = s.ord ∧ (fixTarget s).dld = s.dld ∧
    (fixTarget s).drg = s.drg ∧ (fixTarget s).axu = s.axu ∧ (fixTarget s).slu = s.slu ∧ (fixTarget s).stu = s.stu ∧
    (fixTarget s).thm = s.thm ∧ (fixTarget s).flt = s.flt ∧ (fixTarget s).free = s.free := by
  unfold fixTarget
  dsimp only
  (repeat' split) <;> simp

@[simp] theorem takeChosen_keeps (s : State) :
    (takeChosen s).pending = s.pending ∧ (takeChosen s).number = s.number ∧ (takeChosen s).role = s.role ∧
    (takeChosen s).selfTesting = s.selfTesting ∧ (takeChosen s).resultCode = s.resultCode ∧
    (takeChosen s).params = s.params ∧ (takeChosen s).liu = s.liu ∧ (takeChosen s).ord = s.ord ∧
    (takeChosen s).ptb = s.ptb ∧ (takeChosen s).slu = s.slu ∧ (takeChosen s).thm = s.thm ∧
    (takeChosen s).free = s.free := by
  unfold takeChosen
  dsimp only
  (repeat' split) <;> simp

@[simp] theorem tryFinish_keeps (s : State) :
    (tryFinish s).pending = s.pending ∧ (tryFinish s).number = s.number ∧ (tryFinish s).role = s.role ∧
    (tryFinish s).selfTesting = s.selfTesting ∧ (tryFinish s).resultCode = s.resultCode ∧
    (tryFinish s).params = s.params ∧ (tryFinish s).ord = s.ord ∧ (tryFinish s).dld = s.dld ∧
    (tryFinish s).drg = s.drg ∧ (tryFinish s).axu = s.axu ∧ (tryFinish s).slu = s.slu ∧ (tryFinish s).stu = s.stu ∧
    (tryFinish s).thm = s.thm ∧ (tryFinish s).flt = s.flt ∧ (tryFinish s).free = s.free := by
  unfold tryFinish
  (repeat' split) <;> simp

@[simp] theorem programmedStop_keeps (x : Rec) (s : State) :
    (programmedStop x s).pending = s.pending ∧ (programmedStop x s).number = s.number ∧
    (programmedStop x s).role = s.role ∧ (programmedStop x s).selfTesting = s.selfTesting ∧
    (programmedStop x s).resultCode = s.resultCode ∧ (programmedStop x s).params = s.params ∧
    (programmedStop x s).ord = s.ord ∧ (programmedStop x s).axu = s.axu ∧ (programmedStop x s).slu = s.slu ∧
    (programmedStop x s).stu = s.stu ∧ (programmedStop x s).thm = s.thm ∧ (programmedStop x s).flt = s.flt ∧
    (programmedStop x s).free = s.free := by
  unfold programmedStop
  (repeat' split) <;> simp

@[simp] theorem tryReady_keeps (s : State) :
    (tryReady s).pending = s.pending ∧ (tryReady s).number = s.number ∧ (tryReady s).role = s.role ∧
    (tryReady s).selfTesting = s.selfTesting ∧ (tryReady s).resultCode = s.resultCode ∧
    (tryReady s).params = s.params ∧ (tryReady s).ord = s.ord ∧ (tryReady s).axu = s.axu ∧ (tryReady s).slu = s.slu ∧
    (tryReady s).stu = s.stu ∧ (tryReady s).thm = s.thm ∧ (tryReady s).flt = s.flt ∧ (tryReady s).free = s.free := by
  unfold tryReady
  (repeat' split) <;> simp

@[simp] theorem starveWatch_keeps (s : State) :
    (starveWatch s).pending = s.pending ∧ (starveWatch s).number = s.number ∧ (starveWatch s).role = s.role ∧
    (starveWatch s).selfTesting = s.selfTesting ∧ (starveWatch s).resultCode = s.resultCode ∧
    (starveWatch s).params = s.params ∧ (starveWatch s).liu = s.liu ∧ (starveWatch s).ord = s.ord ∧
    (starveWatch s).ptb = s.ptb ∧ (starveWatch s).dld = s.dld ∧ (starveWatch s).drg = s.drg ∧
    (starveWatch s).axu = s.axu ∧ (starveWatch s).slu = s.slu ∧ (starveWatch s).stu = s.stu ∧
    (starveWatch s).thm = s.thm ∧ (starveWatch s).flt = s.flt ∧ (starveWatch s).free = s.free := by
  unfold starveWatch
  (repeat' split) <;> simp

@[simp] theorem settle_keeps (s : State) :
    (settle s).pending = s.pending ∧ (settle s).number = s.number ∧ (settle s).role = s.role ∧
    (settle s).selfTesting = s.selfTesting ∧ (settle s).resultCode = s.resultCode ∧ (settle s).params = s.params ∧
    (settle s).ord = s.ord ∧ (settle s).axu = s.axu ∧ (settle s).slu = s.slu ∧ (settle s).stu = s.stu ∧
    (settle s).thm = s.thm ∧ (settle s).flt = s.flt ∧ (settle s).free = s.free := by
  simp [settle]

@[simp] theorem completeAgreement_keeps (s : State) :
    (completeAgreement s).pending = s.pending ∧ (completeAgreement s).number = s.number ∧
    (completeAgreement s).role = s.role ∧ (completeAgreement s).selfTesting = s.selfTesting ∧
    (completeAgreement s).resultCode = s.resultCode ∧ (completeAgreement s).params = s.params ∧
    (completeAgreement s).ord = s.ord ∧ (completeAgreement s).slu = s.slu ∧ (completeAgreement s).thm = s.thm ∧
    (completeAgreement s).free = s.free := by
  simp [completeAgreement]

@[simp] theorem testAgreement_keeps (s : State) :
    (testAgreement s).pending = s.pending ∧ (testAgreement s).number = s.number ∧ (testAgreement s).role = s.role ∧
    (testAgreement s).selfTesting = s.selfTesting ∧ (testAgreement s).resultCode = s.resultCode ∧
    (testAgreement s).params = s.params ∧ (testAgreement s).ord = s.ord ∧ (testAgreement s).slu = s.slu ∧
    (testAgreement s).thm = s.thm ∧ (testAgreement s).free = s.free := by
  unfold testAgreement
  (repeat' split) <;> simp

@[simp] theorem frameTaken_keeps (src : Station) (s : State) :
    (frameTaken src s).pending = s.pending ∧ (frameTaken src s).number = s.number ∧
    (frameTaken src s).role = s.role ∧ (frameTaken src s).selfTesting = s.selfTesting ∧
    (frameTaken src s).resultCode = s.resultCode ∧ (frameTaken src s).params = s.params ∧
    (frameTaken src s).ord = s.ord ∧ (frameTaken src s).pcu = s.pcu ∧ (frameTaken src s).dld = s.dld ∧
    (frameTaken src s).drg = s.drg ∧ (frameTaken src s).axu = s.axu ∧ (frameTaken src s).slu = s.slu ∧
    (frameTaken src s).stu = s.stu ∧ (frameTaken src s).thm = s.thm ∧ (frameTaken src s).free = s.free := by
  unfold frameTaken
  (repeat' split) <;> simp

@[simp] theorem limitFault_keeps (c : FaultCode) (pcNew pt : Int) (s : State) :
    (limitFault c pcNew pt s).pending = s.pending ∧ (limitFault c pcNew pt s).number = s.number ∧
    (limitFault c pcNew pt s).role = s.role ∧ (limitFault c pcNew pt s).selfTesting = s.selfTesting ∧
    (limitFault c pcNew pt s).resultCode = s.resultCode ∧ (limitFault c pcNew pt s).params = s.params ∧
    (limitFault c pcNew pt s).liu = s.liu ∧ (limitFault c pcNew pt s).ord = s.ord ∧
    (limitFault c pcNew pt s).ptb = s.ptb ∧ (limitFault c pcNew pt s).pcu = s.pcu ∧
    (limitFault c pcNew pt s).dld = s.dld ∧ (limitFault c pcNew pt s).drg = s.drg ∧
    (limitFault c pcNew pt s).axu = s.axu ∧ (limitFault c pcNew pt s).slu = s.slu ∧
    (limitFault c pcNew pt s).stu = s.stu ∧ (limitFault c pcNew pt s).thm = s.thm ∧
    (limitFault c pcNew pt s).free = s.free := by
  unfold limitFault
  (repeat' split) <;> simp

@[simp] theorem windowMove_keeps (pcRaw : Int) (base : Nat) (fault : Option FaultCode) (s : State) :
    (windowMove pcRaw base fault s).pending = s.pending ∧ (windowMove pcRaw base fault s).number = s.number ∧
    (windowMove pcRaw base fault s).role = s.role ∧ (windowMove pcRaw base fault s).selfTesting = s.selfTesting ∧
    (windowMove pcRaw base fault s).resultCode = s.resultCode ∧ (windowMove pcRaw base fault s).params = s.params ∧
    (windowMove pcRaw base fault s).liu = s.liu ∧ (windowMove pcRaw base fault s).ord = s.ord ∧
    (windowMove pcRaw base fault s).ptb = s.ptb ∧ (windowMove pcRaw base fault s).pcu = s.pcu ∧
    (windowMove pcRaw base fault s).dld = s.dld ∧ (windowMove pcRaw base fault s).drg = s.drg ∧
    (windowMove pcRaw base fault s).slu = s.slu ∧ (windowMove pcRaw base fault s).stu = s.stu ∧
    (windowMove pcRaw base fault s).thm = s.thm ∧ (windowMove pcRaw base fault s).free = s.free := by
  unfold windowMove
  dsimp only
  (repeat' split) <;> simp

@[simp] theorem axisWork_keeps (w : WindowRec) (s : State) :
    (axisWork w s).pending = s.pending ∧ (axisWork w s).number = s.number ∧ (axisWork w s).role = s.role ∧
    (axisWork w s).selfTesting = s.selfTesting ∧ (axisWork w s).resultCode = s.resultCode ∧
    (axisWork w s).params = s.params ∧ (axisWork w s).liu = s.liu ∧ (axisWork w s).ord = s.ord ∧
    (axisWork w s).ptb = s.ptb ∧ (axisWork w s).pcu = s.pcu ∧ (axisWork w s).dld = s.dld ∧
    (axisWork w s).drg = s.drg ∧ (axisWork w s).slu = s.slu ∧ (axisWork w s).stu = s.stu ∧
    (axisWork w s).thm = s.thm ∧ (axisWork w s).free = s.free := by
  unfold axisWork
  dsimp only
  (repeat' split) <;> simp

@[simp] theorem homingSuccess_keeps (s : State) :
    (homingSuccess s).pending = s.pending ∧ (homingSuccess s).number = s.number ∧ (homingSuccess s).role = s.role ∧
    (homingSuccess s).selfTesting = s.selfTesting ∧ (homingSuccess s).resultCode = s.resultCode ∧
    (homingSuccess s).params = s.params ∧ (homingSuccess s).liu = s.liu ∧ (homingSuccess s).ord = s.ord ∧
    (homingSuccess s).ptb = s.ptb ∧ (homingSuccess s).pcu = s.pcu ∧ (homingSuccess s).dld = s.dld ∧
    (homingSuccess s).drg = s.drg ∧ (homingSuccess s).slu = s.slu ∧ (homingSuccess s).stu = s.stu ∧
    (homingSuccess s).thm = s.thm ∧ (homingSuccess s).free = s.free := by
  simp [homingSuccess]

@[simp] theorem jam_keeps (target : Nat) (s : State) :
    (jam target s).pending = s.pending ∧ (jam target s).number = s.number ∧ (jam target s).role = s.role ∧
    (jam target s).selfTesting = s.selfTesting ∧ (jam target s).resultCode = s.resultCode ∧
    (jam target s).params = s.params ∧ (jam target s).liu = s.liu ∧ (jam target s).ord = s.ord ∧
    (jam target s).ptb = s.ptb ∧ (jam target s).pcu = s.pcu ∧ (jam target s).dld = s.dld ∧
    (jam target s).drg = s.drg ∧ (jam target s).axu = s.axu ∧ (jam target s).stu = s.stu ∧
    (jam target s).thm = s.thm ∧ (jam target s).free = s.free := by
  simp [jam]

@[simp] theorem startMove_keeps (p : Nat) (lines : CodeLines) (s : State) :
    (startMove p lines s).pending = s.pending ∧ (startMove p lines s).number = s.number ∧
    (startMove p lines s).role = s.role ∧ (startMove p lines s).selfTesting = s.selfTesting ∧
    (startMove p lines s).resultCode = s.resultCode ∧ (startMove p lines s).params = s.params ∧
    (startMove p lines s).liu = s.liu ∧ (startMove p lines s).ord = s.ord ∧ (startMove p lines s).ptb = s.ptb ∧
    (startMove p lines s).pcu = s.pcu ∧ (startMove p lines s).dld = s.dld ∧ (startMove p lines s).drg = s.drg ∧
    (startMove p lines s).axu = s.axu ∧ (startMove p lines s).stu = s.stu ∧ (startMove p lines s).thm = s.thm ∧
    (startMove p lines s).free = s.free := by
  unfold startMove
  dsimp only
  (repeat' split) <;> simp

@[simp] theorem windowSelect_keeps (colour : Nat) (lines : CodeLines) (s : State) :
    (windowSelect colour lines s).pending = s.pending ∧ (windowSelect colour lines s).number = s.number ∧
    (windowSelect colour lines s).role = s.role ∧ (windowSelect colour lines s).selfTesting = s.selfTesting ∧
    (windowSelect colour lines s).resultCode = s.resultCode ∧ (windowSelect colour lines s).params = s.params ∧
    (windowSelect colour lines s).liu = s.liu ∧ (windowSelect colour lines s).ord = s.ord ∧
    (windowSelect colour lines s).ptb = s.ptb ∧ (windowSelect colour lines s).pcu = s.pcu ∧
    (windowSelect colour lines s).dld = s.dld ∧ (windowSelect colour lines s).drg = s.drg ∧
    (windowSelect colour lines s).axu = s.axu ∧ (windowSelect colour lines s).stu = s.stu ∧
    (windowSelect colour lines s).thm = s.thm ∧ (windowSelect colour lines s).free = s.free := by
  unfold windowSelect
  dsimp only
  (repeat' split) <;> simp

@[simp] theorem fireTrim_keeps (s : State) :
    (fireTrim s).pending = s.pending ∧ (fireTrim s).number = s.number ∧ (fireTrim s).role = s.role ∧
    (fireTrim s).selfTesting = s.selfTesting ∧ (fireTrim s).resultCode = s.resultCode ∧
    (fireTrim s).params = s.params ∧ (fireTrim s).liu = s.liu ∧ (fireTrim s).ord = s.ord ∧ (fireTrim s).ptb = s.ptb ∧
    (fireTrim s).pcu = s.pcu ∧ (fireTrim s).dld = s.dld ∧ (fireTrim s).drg = s.drg ∧ (fireTrim s).axu = s.axu ∧
    (fireTrim s).stu = s.stu ∧ (fireTrim s).thm = s.thm ∧ (fireTrim s).flt = s.flt ∧ (fireTrim s).free = s.free := by
  unfold fireTrim
  (repeat' split) <;> simp

@[simp] theorem trimThenSelect_keeps (colour : Nat) (lines : CodeLines) (s : State) :
    (trimThenSelect colour lines s).pending = s.pending ∧ (trimThenSelect colour lines s).number = s.number ∧
    (trimThenSelect colour lines s).role = s.role ∧ (trimThenSelect colour lines s).selfTesting = s.selfTesting ∧
    (trimThenSelect colour lines s).resultCode = s.resultCode ∧ (trimThenSelect colour lines s).params = s.params ∧
    (trimThenSelect colour lines s).liu = s.liu ∧ (trimThenSelect colour lines s).ord = s.ord ∧
    (trimThenSelect colour lines s).ptb = s.ptb ∧ (trimThenSelect colour lines s).pcu = s.pcu ∧
    (trimThenSelect colour lines s).dld = s.dld ∧ (trimThenSelect colour lines s).drg = s.drg ∧
    (trimThenSelect colour lines s).axu = s.axu ∧ (trimThenSelect colour lines s).stu = s.stu ∧
    (trimThenSelect colour lines s).thm = s.thm ∧ (trimThenSelect colour lines s).free = s.free := by
  unfold trimThenSelect
  (repeat' split) <;> simp

@[simp] theorem selectAfterTrim_keeps (lines : CodeLines) (s : State) :
    (selectAfterTrim lines s).pending = s.pending ∧ (selectAfterTrim lines s).number = s.number ∧
    (selectAfterTrim lines s).role = s.role ∧ (selectAfterTrim lines s).selfTesting = s.selfTesting ∧
    (selectAfterTrim lines s).resultCode = s.resultCode ∧ (selectAfterTrim lines s).params = s.params ∧
    (selectAfterTrim lines s).liu = s.liu ∧ (selectAfterTrim lines s).ord = s.ord ∧
    (selectAfterTrim lines s).ptb = s.ptb ∧ (selectAfterTrim lines s).pcu = s.pcu ∧
    (selectAfterTrim lines s).dld = s.dld ∧ (selectAfterTrim lines s).drg = s.drg ∧
    (selectAfterTrim lines s).axu = s.axu ∧ (selectAfterTrim lines s).stu = s.stu ∧
    (selectAfterTrim lines s).thm = s.thm ∧ (selectAfterTrim lines s).free = s.free := by
  unfold selectAfterTrim
  (repeat' split) <;> simp

@[simp] theorem countDetent_keeps (s : State) :
    (countDetent s).1.pending = s.pending ∧ (countDetent s).1.number = s.number ∧ (countDetent s).1.role = s.role ∧
    (countDetent s).1.selfTesting = s.selfTesting ∧ (countDetent s).1.resultCode = s.resultCode ∧
    (countDetent s).1.params = s.params ∧ (countDetent s).1.liu = s.liu ∧ (countDetent s).1.ord = s.ord ∧
    (countDetent s).1.ptb = s.ptb ∧ (countDetent s).1.pcu = s.pcu ∧ (countDetent s).1.dld = s.dld ∧
    (countDetent s).1.drg = s.drg ∧ (countDetent s).1.axu = s.axu ∧ (countDetent s).1.stu = s.stu ∧
    (countDetent s).1.thm = s.thm ∧ (countDetent s).1.flt = s.flt := by
  unfold countDetent
  dsimp only
  (repeat' split) <;> simp

@[simp] theorem detentWhileMoving_keeps (p : Nat) (s : State) :
    (detentWhileMoving p s).pending = s.pending ∧ (detentWhileMoving p s).number = s.number ∧
    (detentWhileMoving p s).role = s.role ∧ (detentWhileMoving p s).selfTesting = s.selfTesting ∧
    (detentWhileMoving p s).resultCode = s.resultCode ∧ (detentWhileMoving p s).params = s.params ∧
    (detentWhileMoving p s).liu = s.liu ∧ (detentWhileMoving p s).ord = s.ord ∧ (detentWhileMoving p s).ptb = s.ptb ∧
    (detentWhileMoving p s).pcu = s.pcu ∧ (detentWhileMoving p s).dld = s.dld ∧ (detentWhileMoving p s).drg = s.drg ∧
    (detentWhileMoving p s).axu = s.axu ∧ (detentWhileMoving p s).stu = s.stu ∧ (detentWhileMoving p s).thm = s.thm := by
  unfold detentWhileMoving
  dsimp only
  (repeat' split) <;> simp

@[simp] theorem detentWhileConfirming_keeps (p : Nat) (s : State) :
    (detentWhileConfirming p s).pending = s.pending ∧ (detentWhileConfirming p s).number = s.number ∧
    (detentWhileConfirming p s).role = s.role ∧ (detentWhileConfirming p s).selfTesting = s.selfTesting ∧
    (detentWhileConfirming p s).resultCode = s.resultCode ∧ (detentWhileConfirming p s).params = s.params ∧
    (detentWhileConfirming p s).liu = s.liu ∧ (detentWhileConfirming p s).ord = s.ord ∧
    (detentWhileConfirming p s).ptb = s.ptb ∧ (detentWhileConfirming p s).pcu = s.pcu ∧
    (detentWhileConfirming p s).dld = s.dld ∧ (detentWhileConfirming p s).drg = s.drg ∧
    (detentWhileConfirming p s).axu = s.axu ∧ (detentWhileConfirming p s).stu = s.stu ∧
    (detentWhileConfirming p s).thm = s.thm := by
  unfold detentWhileConfirming
  dsimp only
  (repeat' split) <;> simp

@[simp] theorem settleRead_keeps (p : Nat) (lines : CodeLines) (s : State) :
    (settleRead p lines s).pending = s.pending ∧ (settleRead p lines s).number = s.number ∧
    (settleRead p lines s).role = s.role ∧ (settleRead p lines s).selfTesting = s.selfTesting ∧
    (settleRead p lines s).resultCode = s.resultCode ∧ (settleRead p lines s).params = s.params ∧
    (settleRead p lines s).liu = s.liu ∧ (settleRead p lines s).ord = s.ord ∧ (settleRead p lines s).ptb = s.ptb ∧
    (settleRead p lines s).pcu = s.pcu ∧ (settleRead p lines s).dld = s.dld ∧ (settleRead p lines s).drg = s.drg ∧
    (settleRead p lines s).axu = s.axu ∧ (settleRead p lines s).stu = s.stu ∧ (settleRead p lines s).thm = s.thm ∧
    (settleRead p lines s).free = s.free := by
  unfold settleRead
  dsimp only
  (repeat' split) <;> simp

@[simp] theorem readAtJoining_keeps (lines : CodeLines) (s : State) :
    (readAtJoining lines s).pending = s.pending ∧ (readAtJoining lines s).number = s.number ∧
    (readAtJoining lines s).role = s.role ∧ (readAtJoining lines s).selfTesting = s.selfTesting ∧
    (readAtJoining lines s).resultCode = s.resultCode ∧ (readAtJoining lines s).params = s.params ∧
    (readAtJoining lines s).liu = s.liu ∧ (readAtJoining lines s).ord = s.ord ∧ (readAtJoining lines s).ptb = s.ptb ∧
    (readAtJoining lines s).pcu = s.pcu ∧ (readAtJoining lines s).dld = s.dld ∧ (readAtJoining lines s).drg = s.drg ∧
    (readAtJoining lines s).axu = s.axu ∧ (readAtJoining lines s).stu = s.stu ∧ (readAtJoining lines s).thm = s.thm ∧
    (readAtJoining lines s).flt = s.flt ∧ (readAtJoining lines s).free = s.free := by
  unfold readAtJoining
  (repeat' split) <;> simp

@[simp] theorem strokeWork_keeps (n : Nat) (x : Rec) (s : State) :
    (strokeWork n x s).pending = s.pending ∧ (strokeWork n x s).number = s.number ∧
    (strokeWork n x s).role = s.role ∧ (strokeWork n x s).selfTesting = s.selfTesting ∧
    (strokeWork n x s).resultCode = s.resultCode ∧ (strokeWork n x s).params = s.params ∧
    (strokeWork n x s).liu = s.liu ∧ (strokeWork n x s).ord = s.ord ∧ (strokeWork n x s).ptb = s.ptb ∧
    (strokeWork n x s).pcu = s.pcu ∧ (strokeWork n x s).dld = s.dld ∧ (strokeWork n x s).drg = s.drg ∧
    (strokeWork n x s).axu = s.axu ∧ (strokeWork n x s).slu = s.slu ∧ (strokeWork n x s).free = s.free := by
  unfold strokeWork
  dsimp only
  (repeat' split) <;> simp

@[simp] theorem headWork_keeps (lines : CodeLines) (w : WindowRec) (s : State) :
    (headWork lines w s).pending = s.pending ∧ (headWork lines w s).number = s.number ∧
    (headWork lines w s).role = s.role ∧ (headWork lines w s).selfTesting = s.selfTesting ∧
    (headWork lines w s).resultCode = s.resultCode ∧ (headWork lines w s).params = s.params ∧
    (headWork lines w s).liu = s.liu ∧ (headWork lines w s).ord = s.ord ∧ (headWork lines w s).ptb = s.ptb ∧
    (headWork lines w s).pcu = s.pcu ∧ (headWork lines w s).dld = s.dld ∧ (headWork lines w s).drg = s.drg ∧
    (headWork lines w s).axu = s.axu ∧ (headWork lines w s).free = s.free := by
  unfold headWork
  (repeat' split) <;> simp

@[simp] theorem runsForNeedle_keeps (s : State) :
    (runsForNeedle s).pending = s.pending ∧ (runsForNeedle s).number = s.number ∧ (runsForNeedle s).role = s.role ∧
    (runsForNeedle s).selfTesting = s.selfTesting ∧ (runsForNeedle s).resultCode = s.resultCode ∧
    (runsForNeedle s).params = s.params ∧ (runsForNeedle s).liu = s.liu ∧ (runsForNeedle s).ord = s.ord ∧
    (runsForNeedle s).ptb = s.ptb ∧ (runsForNeedle s).pcu = s.pcu ∧ (runsForNeedle s).dld = s.dld ∧
    (runsForNeedle s).drg = s.drg ∧ (runsForNeedle s).axu = s.axu ∧ (runsForNeedle s).slu = s.slu ∧
    (runsForNeedle s).stu = s.stu ∧ (runsForNeedle s).flt = s.flt ∧ (runsForNeedle s).free = s.free := by
  unfold runsForNeedle
  (repeat' split) <;> simp

@[simp] theorem threadBreak_keeps (s : State) :
    (threadBreak s).pending = s.pending ∧ (threadBreak s).number = s.number ∧ (threadBreak s).role = s.role ∧
    (threadBreak s).selfTesting = s.selfTesting ∧ (threadBreak s).resultCode = s.resultCode ∧
    (threadBreak s).params = s.params ∧ (threadBreak s).liu = s.liu ∧ (threadBreak s).ord = s.ord ∧
    (threadBreak s).ptb = s.ptb ∧ (threadBreak s).pcu = s.pcu ∧ (threadBreak s).dld = s.dld ∧
    (threadBreak s).drg = s.drg ∧ (threadBreak s).axu = s.axu ∧ (threadBreak s).free = s.free := by
  simp [threadBreak]

@[simp] theorem countBreak_keeps (s : State) :
    (countBreak s).pending = s.pending ∧ (countBreak s).number = s.number ∧ (countBreak s).role = s.role ∧
    (countBreak s).selfTesting = s.selfTesting ∧ (countBreak s).resultCode = s.resultCode ∧
    (countBreak s).params = s.params ∧ (countBreak s).liu = s.liu ∧ (countBreak s).ord = s.ord ∧
    (countBreak s).ptb = s.ptb ∧ (countBreak s).pcu = s.pcu ∧ (countBreak s).dld = s.dld ∧
    (countBreak s).drg = s.drg ∧ (countBreak s).axu = s.axu ∧ (countBreak s).free = s.free := by
  unfold countBreak
  dsimp only
  (repeat' split) <;> simp

@[simp] theorem countSnag_keeps (s : State) :
    (countSnag s).pending = s.pending ∧ (countSnag s).number = s.number ∧ (countSnag s).role = s.role ∧
    (countSnag s).selfTesting = s.selfTesting ∧ (countSnag s).resultCode = s.resultCode ∧
    (countSnag s).params = s.params ∧ (countSnag s).liu = s.liu ∧ (countSnag s).ord = s.ord ∧
    (countSnag s).ptb = s.ptb ∧ (countSnag s).pcu = s.pcu ∧ (countSnag s).dld = s.dld ∧ (countSnag s).drg = s.drg ∧
    (countSnag s).axu = s.axu ∧ (countSnag s).free = s.free := by
  unfold countSnag
  dsimp only
  (repeat' split) <;> simp

@[simp] theorem countLoose_keeps (s : State) :
    (countLoose s).pending = s.pending ∧ (countLoose s).number = s.number ∧ (countLoose s).role = s.role ∧
    (countLoose s).selfTesting = s.selfTesting ∧ (countLoose s).resultCode = s.resultCode ∧
    (countLoose s).params = s.params ∧ (countLoose s).liu = s.liu ∧ (countLoose s).ord = s.ord ∧
    (countLoose s).ptb = s.ptb ∧ (countLoose s).pcu = s.pcu ∧ (countLoose s).dld = s.dld ∧
    (countLoose s).drg = s.drg ∧ (countLoose s).axu = s.axu ∧ (countLoose s).free = s.free := by
  unfold countLoose
  dsimp only
  (repeat' split) <;> simp

@[simp] theorem countTight_keeps (s : State) :
    (countTight s).pending = s.pending ∧ (countTight s).number = s.number ∧ (countTight s).role = s.role ∧
    (countTight s).selfTesting = s.selfTesting ∧ (countTight s).resultCode = s.resultCode ∧
    (countTight s).params = s.params ∧ (countTight s).liu = s.liu ∧ (countTight s).ord = s.ord ∧
    (countTight s).ptb = s.ptb ∧ (countTight s).pcu = s.pcu ∧ (countTight s).dld = s.dld ∧
    (countTight s).drg = s.drg ∧ (countTight s).axu = s.axu ∧ (countTight s).free = s.free := by
  unfold countTight
  dsimp only
  (repeat' split) <;> simp

@[simp] theorem updateRuns_keeps (k : StrokeClass) (s : State) :
    (updateRuns k s).pending = s.pending ∧ (updateRuns k s).number = s.number ∧ (updateRuns k s).role = s.role ∧
    (updateRuns k s).selfTesting = s.selfTesting ∧ (updateRuns k s).resultCode = s.resultCode ∧
    (updateRuns k s).params = s.params ∧ (updateRuns k s).liu = s.liu ∧ (updateRuns k s).ord = s.ord ∧
    (updateRuns k s).ptb = s.ptb ∧ (updateRuns k s).pcu = s.pcu ∧ (updateRuns k s).dld = s.dld ∧
    (updateRuns k s).drg = s.drg ∧ (updateRuns k s).axu = s.axu ∧ (updateRuns k s).free = s.free := by
  unfold updateRuns
  dsimp only
  (repeat' split) <;> simp

@[simp] theorem subtractBobbin_keeps (s : State) :
    (subtractBobbin s).pending = s.pending ∧ (subtractBobbin s).number = s.number ∧
    (subtractBobbin s).role = s.role ∧ (subtractBobbin s).selfTesting = s.selfTesting ∧
    (subtractBobbin s).resultCode = s.resultCode ∧ (subtractBobbin s).params = s.params ∧
    (subtractBobbin s).liu = s.liu ∧ (subtractBobbin s).ord = s.ord ∧ (subtractBobbin s).ptb = s.ptb ∧
    (subtractBobbin s).pcu = s.pcu ∧ (subtractBobbin s).dld = s.dld ∧ (subtractBobbin s).drg = s.drg ∧
    (subtractBobbin s).axu = s.axu ∧ (subtractBobbin s).slu = s.slu ∧ (subtractBobbin s).stu = s.stu ∧
    (subtractBobbin s).free = s.free := by
  unfold subtractBobbin
  dsimp only
  (repeat' split) <;> simp

@[simp] theorem beginDwell_keeps (s : State) :
    (beginDwell s).pending = s.pending ∧ (beginDwell s).number = s.number ∧ (beginDwell s).role = s.role ∧
    (beginDwell s).selfTesting = s.selfTesting ∧ (beginDwell s).resultCode = s.resultCode ∧
    (beginDwell s).params = s.params ∧ (beginDwell s).liu = s.liu ∧ (beginDwell s).ord = s.ord ∧
    (beginDwell s).ptb = s.ptb ∧ (beginDwell s).pcu = s.pcu ∧ (beginDwell s).dld = s.dld ∧
    (beginDwell s).drg = s.drg ∧ (beginDwell s).axu = s.axu ∧ (beginDwell s).slu = s.slu ∧
    (beginDwell s).thm = s.thm ∧ (beginDwell s).flt = s.flt ∧ (beginDwell s).free = s.free := by
  unfold beginDwell
  (repeat' split) <;> simp

@[simp] theorem strokeEnd_keeps (s : State) :
    (strokeEnd s).pending = s.pending ∧ (strokeEnd s).number = s.number ∧ (strokeEnd s).role = s.role ∧
    (strokeEnd s).selfTesting = s.selfTesting ∧ (strokeEnd s).resultCode = s.resultCode ∧
    (strokeEnd s).params = s.params ∧ (strokeEnd s).liu = s.liu ∧ (strokeEnd s).ord = s.ord ∧
    (strokeEnd s).ptb = s.ptb ∧ (strokeEnd s).pcu = s.pcu ∧ (strokeEnd s).dld = s.dld ∧ (strokeEnd s).drg = s.drg ∧
    (strokeEnd s).axu = s.axu ∧ (strokeEnd s).free = s.free := by
  simp [strokeEnd]

@[simp] theorem reachTarget_keeps (s : State) :
    (reachTarget s).pending = s.pending ∧ (reachTarget s).number = s.number ∧ (reachTarget s).role = s.role ∧
    (reachTarget s).selfTesting = s.selfTesting ∧ (reachTarget s).resultCode = s.resultCode ∧
    (reachTarget s).params = s.params ∧ (reachTarget s).liu = s.liu ∧ (reachTarget s).ord = s.ord ∧
    (reachTarget s).ptb = s.ptb ∧ (reachTarget s).dld = s.dld ∧ (reachTarget s).drg = s.drg ∧
    (reachTarget s).axu = s.axu ∧ (reachTarget s).slu = s.slu ∧ (reachTarget s).stu = s.stu ∧
    (reachTarget s).thm = s.thm ∧ (reachTarget s).flt = s.flt ∧ (reachTarget s).free = s.free := by
  unfold reachTarget
  (repeat' split) <;> simp

@[simp] theorem startWork_keeps (lines : CodeLines) (w : WindowRec) (s : State) :
    (startWork lines w s).pending = s.pending ∧ (startWork lines w s).number = s.number ∧
    (startWork lines w s).role = s.role ∧ (startWork lines w s).selfTesting = s.selfTesting ∧
    (startWork lines w s).resultCode = s.resultCode ∧ (startWork lines w s).params = s.params ∧
    (startWork lines w s).liu = s.liu ∧ (startWork lines w s).ord = s.ord ∧ (startWork lines w s).ptb = s.ptb ∧
    (startWork lines w s).pcu = s.pcu ∧ (startWork lines w s).dld = s.dld ∧ (startWork lines w s).drg = s.drg ∧
    (startWork lines w s).free = s.free := by
  unfold startWork
  (repeat' split) <;> simp

@[simp] theorem openWindow_keeps (lines : CodeLines) (w : WindowRec) (s : State) :
    (openWindow lines w s).pending = s.pending ∧ (openWindow lines w s).number = s.number ∧
    (openWindow lines w s).role = s.role ∧ (openWindow lines w s).selfTesting = s.selfTesting ∧
    (openWindow lines w s).resultCode = s.resultCode ∧ (openWindow lines w s).params = s.params ∧
    (openWindow lines w s).liu = s.liu ∧ (openWindow lines w s).ord = s.ord ∧ (openWindow lines w s).ptb = s.ptb ∧
    (openWindow lines w s).free = s.free := by
  simp [openWindow]

@[simp] theorem haltMoving_keeps (s : State) :
    (haltMoving s).pending = s.pending ∧ (haltMoving s).number = s.number ∧ (haltMoving s).role = s.role ∧
    (haltMoving s).selfTesting = s.selfTesting ∧ (haltMoving s).resultCode = s.resultCode ∧
    (haltMoving s).params = s.params ∧ (haltMoving s).ord = s.ord ∧ (haltMoving s).dld = s.dld ∧
    (haltMoving s).drg = s.drg ∧ (haltMoving s).axu = s.axu ∧ (haltMoving s).slu = s.slu ∧
    (haltMoving s).stu = s.stu ∧ (haltMoving s).thm = s.thm ∧ (haltMoving s).flt = s.flt ∧
    (haltMoving s).free = s.free := by
  unfold haltMoving
  dsimp only
  (repeat' split) <;> simp

@[simp] theorem rosterIfChanged_keeps (b : Bool) (s : State) :
    (rosterIfChanged b s).pending = s.pending ∧ (rosterIfChanged b s).number = s.number ∧
    (rosterIfChanged b s).role = s.role ∧ (rosterIfChanged b s).selfTesting = s.selfTesting ∧
    (rosterIfChanged b s).resultCode = s.resultCode ∧ (rosterIfChanged b s).params = s.params ∧
    (rosterIfChanged b s).liu = s.liu ∧ (rosterIfChanged b s).ord = s.ord ∧ (rosterIfChanged b s).ptb = s.ptb ∧
    (rosterIfChanged b s).pcu = s.pcu ∧ (rosterIfChanged b s).dld = s.dld ∧ (rosterIfChanged b s).drg = s.drg ∧
    (rosterIfChanged b s).axu = s.axu ∧ (rosterIfChanged b s).slu = s.slu ∧ (rosterIfChanged b s).stu = s.stu ∧
    (rosterIfChanged b s).thm = s.thm ∧ (rosterIfChanged b s).free = s.free := by
  unfold rosterIfChanged
  (repeat' split) <;> simp

@[simp] theorem recordBeacon_keeps (src : Station) (v : BeaconView) (s : State) :
    (recordBeacon src v s).pending = s.pending ∧ (recordBeacon src v s).number = s.number ∧
    (recordBeacon src v s).role = s.role ∧ (recordBeacon src v s).selfTesting = s.selfTesting ∧
    (recordBeacon src v s).resultCode = s.resultCode ∧ (recordBeacon src v s).params = s.params ∧
    (recordBeacon src v s).ord = s.ord ∧ (recordBeacon src v s).slu = s.slu ∧ (recordBeacon src v s).thm = s.thm ∧
    (recordBeacon src v s).free = s.free := by
  simp [recordBeacon]

@[simp] theorem dropPeer_keeps (src : Station) (s : State) :
    (dropPeer src s).pending = s.pending ∧ (dropPeer src s).number = s.number ∧ (dropPeer src s).role = s.role ∧
    (dropPeer src s).selfTesting = s.selfTesting ∧ (dropPeer src s).resultCode = s.resultCode ∧
    (dropPeer src s).params = s.params ∧ (dropPeer src s).ord = s.ord ∧ (dropPeer src s).slu = s.slu ∧
    (dropPeer src s).thm = s.thm ∧ (dropPeer src s).free = s.free := by
  unfold dropPeer
  dsimp only
  (repeat' split) <;> simp

@[simp] theorem takeBeacon_keeps (src : Station) (body : List Byte) (s : State) :
    (takeBeacon src body s).pending = s.pending ∧ (takeBeacon src body s).number = s.number ∧
    (takeBeacon src body s).role = s.role ∧ (takeBeacon src body s).selfTesting = s.selfTesting ∧
    (takeBeacon src body s).resultCode = s.resultCode ∧ (takeBeacon src body s).params = s.params ∧
    (takeBeacon src body s).ord = s.ord ∧ (takeBeacon src body s).slu = s.slu ∧ (takeBeacon src body s).thm = s.thm ∧
    (takeBeacon src body s).free = s.free := by
  unfold takeBeacon
  (repeat' split) <;> simp

@[simp] theorem silencePeer_keeps (n : Station) (s : State) :
    (silencePeer n s).pending = s.pending ∧ (silencePeer n s).number = s.number ∧ (silencePeer n s).role = s.role ∧
    (silencePeer n s).selfTesting = s.selfTesting ∧ (silencePeer n s).resultCode = s.resultCode ∧
    (silencePeer n s).params = s.params ∧ (silencePeer n s).ord = s.ord ∧ (silencePeer n s).slu = s.slu ∧
    (silencePeer n s).thm = s.thm ∧ (silencePeer n s).free = s.free := by
  simp [silencePeer]

@[simp] theorem forgetSilent_keeps (s : State) :
    (forgetSilent s).pending = s.pending ∧ (forgetSilent s).number = s.number ∧ (forgetSilent s).role = s.role ∧
    (forgetSilent s).selfTesting = s.selfTesting ∧ (forgetSilent s).resultCode = s.resultCode ∧
    (forgetSilent s).params = s.params ∧ (forgetSilent s).ord = s.ord ∧ (forgetSilent s).slu = s.slu ∧
    (forgetSilent s).thm = s.thm ∧ (forgetSilent s).free = s.free := by
  unfold forgetSilent
  dsimp only
  (repeat' split) <;> simp

@[simp] theorem enterWait_keeps (cause : WaitCause) (s : State) :
    (enterWait cause s).pending = s.pending ∧ (enterWait cause s).number = s.number ∧
    (enterWait cause s).role = s.role ∧ (enterWait cause s).selfTesting = s.selfTesting ∧
    (enterWait cause s).resultCode = s.resultCode ∧ (enterWait cause s).params = s.params ∧
    (enterWait cause s).liu = s.liu ∧ (enterWait cause s).ord = s.ord ∧ (enterWait cause s).ptb = s.ptb ∧
    (enterWait cause s).pcu = s.pcu ∧ (enterWait cause s).axu = s.axu ∧ (enterWait cause s).slu = s.slu ∧
    (enterWait cause s).stu = s.stu ∧ (enterWait cause s).thm = s.thm ∧ (enterWait cause s).flt = s.flt ∧
    (enterWait cause s).free = s.free := by
  unfold enterWait
  dsimp only
  (repeat' split) <;> simp

@[simp] theorem appendSegment_keeps (seg : Segment) (s : State) :
    (appendSegment seg s).pending = s.pending ∧ (appendSegment seg s).number = s.number ∧
    (appendSegment seg s).role = s.role ∧ (appendSegment seg s).selfTesting = s.selfTesting ∧
    (appendSegment seg s).resultCode = s.resultCode ∧ (appendSegment seg s).params = s.params ∧
    (appendSegment seg s).ord = s.ord ∧ (appendSegment seg s).axu = s.axu ∧ (appendSegment seg s).slu = s.slu ∧
    (appendSegment seg s).stu = s.stu ∧ (appendSegment seg s).thm = s.thm ∧ (appendSegment seg s).flt = s.flt ∧
    (appendSegment seg s).free = s.free := by
  simp [appendSegment]

@[simp] theorem ringTest_keeps (seg : Segment) (s : State) :
    (ringTest seg s).pending = s.pending ∧ (ringTest seg s).number = s.number ∧ (ringTest seg s).role = s.role ∧
    (ringTest seg s).selfTesting = s.selfTesting ∧ (ringTest seg s).resultCode = s.resultCode ∧
    (ringTest seg s).params = s.params ∧ (ringTest seg s).ord = s.ord ∧ (ringTest seg s).axu = s.axu ∧
    (ringTest seg s).slu = s.slu ∧ (ringTest seg s).stu = s.stu ∧ (ringTest seg s).thm = s.thm ∧
    (ringTest seg s).flt = s.flt ∧ (ringTest seg s).free = s.free := by
  unfold ringTest
  dsimp only
  (repeat' split) <;> simp

@[simp] theorem judgeSegment_keeps (seg : Segment) (s : State) :
    (judgeSegment seg s).pending = s.pending ∧ (judgeSegment seg s).number = s.number ∧
    (judgeSegment seg s).role = s.role ∧ (judgeSegment seg s).selfTesting = s.selfTesting ∧
    (judgeSegment seg s).resultCode = s.resultCode ∧ (judgeSegment seg s).params = s.params ∧
    (judgeSegment seg s).ord = s.ord ∧ (judgeSegment seg s).axu = s.axu ∧ (judgeSegment seg s).slu = s.slu ∧
    (judgeSegment seg s).stu = s.stu ∧ (judgeSegment seg s).thm = s.thm ∧ (judgeSegment seg s).free = s.free := by
  unfold judgeSegment
  (repeat' split) <;> simp

@[simp] theorem judgeDesign_keeps (body : List Byte) (s : State) :
    (judgeDesign body s).pending = s.pending ∧ (judgeDesign body s).number = s.number ∧
    (judgeDesign body s).role = s.role ∧ (judgeDesign body s).selfTesting = s.selfTesting ∧
    (judgeDesign body s).resultCode = s.resultCode ∧ (judgeDesign body s).params = s.params ∧
    (judgeDesign body s).ord = s.ord ∧ (judgeDesign body s).axu = s.axu ∧ (judgeDesign body s).slu = s.slu ∧
    (judgeDesign body s).stu = s.stu ∧ (judgeDesign body s).thm = s.thm ∧ (judgeDesign body s).free = s.free := by
  unfold judgeDesign
  (repeat' split) <;> simp

@[simp] theorem leaveHomed_keeps (s : State) :
    (leaveHomed s).pending = s.pending ∧ (leaveHomed s).number = s.number ∧ (leaveHomed s).role = s.role ∧
    (leaveHomed s).selfTesting = s.selfTesting ∧ (leaveHomed s).resultCode = s.resultCode ∧
    (leaveHomed s).params = s.params ∧ (leaveHomed s).liu = s.liu ∧ (leaveHomed s).ord = s.ord ∧
    (leaveHomed s).ptb = s.ptb ∧ (leaveHomed s).pcu = s.pcu ∧ (leaveHomed s).dld = s.dld ∧
    (leaveHomed s).drg = s.drg ∧ (leaveHomed s).axu = s.axu ∧ (leaveHomed s).slu = s.slu ∧
    (leaveHomed s).stu = s.stu ∧ (leaveHomed s).thm = s.thm ∧ (leaveHomed s).free = s.free := by
  unfold leaveHomed
  (repeat' split) <;> simp

end Sys2Proof.Machine
end

