-- ==== Sys2Proof/Laws/Faults.lean ====
section
/-! SUPPORT. Fault records: reading one after writing one, raising and releasing (R160, R161), and the table of codes (R158). -/

namespace Sys2Proof.Machine

/-- The table holds each code at its place (R158). -/
theorem allFaults_faultIdx (c : FaultCode) : allFaults[(faultIdx c).val]? = some c := by cases c <;> rfl

theorem faultIdx_inj (c d : FaultCode) (h : faultIdx c = faultIdx d) : c = d := by
  have := allFaults_faultIdx c
  rw [h, allFaults_faultIdx d] at this
  exact (Option.some.inj this).symm

@[simp] theorem faultRec_setFault_self (c : FaultCode) (x : FaultRec) (s : State) : faultRec c (setFault c x s) = x := by
  simp [faultRec, setFault]

theorem faultRec_setFault_ne (c d : FaultCode) (x : FaultRec) (s : State) (h : d ≠ c) :
    faultRec d (setFault c x s) = faultRec d s := by
  have : faultIdx c ≠ faultIdx d := fun e => h (faultIdx_inj c d e).symm
  simp [faultRec, setFault, this, Fin.val_inj]

@[simp] theorem faultRec_raise_self (c : FaultCode) (d1 d2 : Byte) (s : State) :
    faultRec c (raise c d1 d2 s) = raisedRec (faultRec c s).action d1 d2 (faultRec c s) := by
  simp [raise, raiseAs]

theorem faultRec_raise_ne (c d : FaultCode) (d1 d2 : Byte) (s : State) (h : d ≠ c) :
    faultRec d (raise c d1 d2 s) = faultRec d s := faultRec_setFault_ne c d _ s h

@[simp] theorem faultRec_unlatch_self (c : FaultCode) (s : State) :
    faultRec c (unlatch c s) = { faultRec c s with latched := false } := by
  unfold unlatch
  split
  · exact faultRec_setFault_self c _ s
  · simp

theorem faultRec_unlatch_ne (c d : FaultCode) (s : State) (h : d ≠ c) : faultRec d (unlatch c s) = faultRec d s := by
  unfold unlatch
  split
  · exact faultRec_setFault_ne c d _ s h
  · exact faultRec_setFault_ne c d _ s h

/-- Every code stands in the table. -/
theorem mem_allFaults (c : FaultCode) : c ∈ allFaults := by cases c <;> decide

/-- The supply level and the axis mark are no part of a record. -/
@[simp] theorem setFault_supply (c : FaultCode) (x : FaultRec) (s : State) : (setFault c x s).flt.supply = s.flt.supply := rfl

@[simp] theorem setFault_axisMark (c : FaultCode) (x : FaultRec) (s : State) : (setFault c x s).flt.axisMark = s.flt.axisMark := rfl

@[simp] theorem raise_supply (c : FaultCode) (d1 d2 : Byte) (s : State) : (raise c d1 d2 s).flt.supply = s.flt.supply := rfl

@[simp] theorem raise_axisMark (c : FaultCode) (d1 d2 : Byte) (s : State) : (raise c d1 d2 s).flt.axisMark = s.flt.axisMark := rfl

@[simp] theorem unlatch_supply (c : FaultCode) (s : State) : (unlatch c s).flt.supply = s.flt.supply := by
  unfold unlatch
  split <;> rfl

/-- R169, R170: each record after a restart is `restartRec` of it. -/
theorem restartFaults_rec (fromCut : Bool) (level : SupplyLevel) (f : FaultUnit) (c : FaultCode) :
    (restartFaults fromCut level f).recs[faultIdx c] = restartRec fromCut c f.recs[faultIdx c] := by
  have h := List.getElem_of_getElem? (allFaults_faultIdx c)
  obtain ⟨_, h⟩ := h
  simp [restartFaults, h]

/-- R160: what a cause keeps and changes in its record. -/
theorem raisedRec_spec (a : Action) (d1 d2 : Byte) (r : FaultRec) :
    (raisedRec a d1 d2 r).count = min 255 (r.count + 1) ∧ (raisedRec a d1 d2 r).d1 = d1 ∧ (raisedRec a d1 d2 r).d2 = d2 ∧
      (raisedRec a d1 d2 r).action = r.action ∧
      (a = .ignore → (raisedRec a d1 d2 r).latched = r.latched ∧ (raisedRec a d1 d2 r).pending = r.pending ∧
        (raisedRec a d1 d2 r).fresh = r.fresh) ∧
      (a ≠ .ignore → (raisedRec a d1 d2 r).latched = true ∧ (raisedRec a d1 d2 r).pending = true ∧
        (raisedRec a d1 d2 r).fresh = true) := by
  cases a <;> simp [raisedRec]

end Sys2Proof.Machine
end

