-- ==== Sys2Proof/Laws/LineCode.lean ====
section
/-! SUPPORT. Octets and bits of the line read back (R180): a run of octets from its bits, and what alignment does to a frame. -/

namespace Sys2Proof.Machine

theorem octetsOf_octetBits_append (b : Byte) (rest : List Bool) : octetsOf (octetBits b ++ rest) = b :: octetsOf rest := by
  have h : ∀ b : Byte, octetOf (b.getLsbD 7) (b.getLsbD 6) (b.getLsbD 5) (b.getLsbD 4) (b.getLsbD 3) (b.getLsbD 2)
      (b.getLsbD 1) (b.getLsbD 0) = b := by decide +kernel
  simp only [octetBits, List.cons_append, List.nil_append, octetsOf, h]

@[simp] theorem octetsOf_bitsOf (bs : List Byte) : octetsOf (bitsOf bs) = bs := by
  induction bs with
  | nil => rfl
  | cons b bs ih => simpa [bitsOf, octetsOf_octetBits_append] using ih

/-- R180: octets whose first dominant bit is their third bit are read as they are. -/
theorem alignFrame_of_third_dominant (hi : Byte) (rest : List Byte) (h7 : hi.getLsbD 7 = true) (h6 : hi.getLsbD 6 = true)
    (h5 : hi.getLsbD 5 = false) : alignFrame (hi :: rest) = hi :: rest := by
  have h : true :: true :: (bitsOf (hi :: rest)).dropWhile id = bitsOf (hi :: rest) := by
    simp only [bitsOf, List.flatMap_cons, octetBits, h7, h6, h5]
    rfl
  rw [alignFrame, h, octetsOf_bitsOf]

/-- R180: a frame that opens with the sync pattern is read as it is. -/
@[simp] theorem alignFrame_sync (rest : List Byte) : alignFrame (syncOctets ++ rest) = syncOctets ++ rest :=
  alignFrame_of_third_dominant 0xC6 (0xB5 :: rest) rfl rfl rfl

/-- R180: recessive octets before a frame are idle line; they change nothing of how it is read. -/
theorem alignFrame_idle (line : List Byte) : alignFrame (0xFF :: line) = alignFrame line := rfl

end Sys2Proof.Machine
end

