-- ==== Sys2Proof/Laws/Orders.lean ====
section
/-! SUPPORT. What `exec` answers in and out of service, and what the order decoder makes of an order (R172, R173, R176, R177). -/

namespace Sys2Proof.Machine

theorem onService_off (f : State → State) (s : State) (h : inService s = false) : onService f s = .next s := by
  simp [onService, h]

theorem onService_on (f : State → State) (s : State) (h : inService s = true) : onService f s = .next (f s) := by
  simp [onService, h]

theorem onFrame_heard (src : Station) (f : State → State) (s : State) (h : hearsFrames s) :
    onFrame src f s = .next (f (frameTaken src s)) := by
  simp [onFrame, onService_on _ _ h.1, h.2]

/-- R180: a frame that could not have begun changes nothing. -/
theorem onFrame_unheard (src : Station) (f : State → State) (s : State) (h : listening s = false) :
    onFrame src f s = .next s := by
  simp [onFrame, onService, h]

@[simp] theorem inService_frameTaken (src : Station) (s : State) : inService (frameTaken src s) = inService s := by
  simp [inService]

@[simp] theorem isHead_frameTaken (src : Station) (s : State) : isHead (frameTaken src s) = isHead s := by simp [isHead]

@[simp] theorem isAxis_frameTaken (src : Station) (s : State) : isAxis (frameTaken src s) = isAxis s := by simp [isAxis]

@[simp] theorem reach_frameTaken (src : Station) (fit : RoleFit) (d : Option Byte) (s : State) :
    reach fit d (frameTaken src s) = reach fit d s := by
  have hn : (frameTaken src s).number = s.number := by simp
  unfold reach fitsRole
  rw [hn, isHead_frameTaken, isAxis_frameTaken]

/-- An order that reaches no station leaves the frame's own trace alone. -/
theorem takeOrder_ignored (kind : Byte) (fit : RoleFit) (f : OrderFrame) (owner : State → Verdict) (s : State)
    (h : hearsFrames s) (hr : reach fit f.dest s = .ignored) :
    takeOrder kind fit f owner s = .next (frameTaken f.src s) := by
  simp [takeOrder, onFrame_heard _ _ _ h, judgeOrder, hr]

theorem takeOrder_wrongRole (kind : Byte) (fit : RoleFit) (f : OrderFrame) (owner : State → Verdict) (s : State)
    (h : hearsFrames s) (hr : reach fit f.dest s = .wrongRole) :
    takeOrder kind fit f owner s = .next (refuse kind .wrongRole (frameTaken f.src s)) := by
  simp [takeOrder, onFrame_heard _ _ _ h, judgeOrder, hr]

/-- An order that the owner accepts: the counter rises over the owner's state. -/
theorem takeOrder_accepted (kind : Byte) (fit : RoleFit) (f : OrderFrame) (owner : State → Verdict) (s t : State)
    (h : judgedAt fit f s) (ho : owner (frameTaken f.src s) = .ok t) :
    takeOrder kind fit f owner s = .next (countAccepted t) := by
  simp [takeOrder, onFrame_heard _ _ _ h.1, judgeOrder, h.2, ho]

/-- An order that the owner refuses. -/
theorem takeOrder_refused (kind : Byte) (fit : RoleFit) (f : OrderFrame) (owner : State → Verdict) (s : State)
    (code : RefusalCode) (h : judgedAt fit f s) (ho : owner (frameTaken f.src s) = .error code) :
    takeOrder kind fit f owner s = .next (refuse kind code (frameTaken f.src s)) := by
  simp [takeOrder, onFrame_heard _ _ _ h.1, judgeOrder, h.2, ho]

@[simp] theorem require_true (code : RefusalCode) (v : Verdict) : require true code v = v := rfl

@[simp] theorem require_false (code : RefusalCode) (v : Verdict) : require false code v = .error code := rfl

end Sys2Proof.Machine
end

