-- ==== Sys2Proof/Laws/Pacing.lean ====
section
/-! SUPPORT. What follows the minimum assertion (R25 to R27, R36): the READY test as one operation, and the words of the
statements about it. -/

namespace Sys2Proof.Machine

/-- A station in service goes on to what the READY test makes of it after the minimum assertion. -/
theorem goesOnTo_settle (w : State) (h : inService w = true) :
    goesOnTo w (settle { w with pcu := { w.pcu with edge := .settled } }) := by
  have h' : inService { w with pcu := { w.pcu with edge := .minAssertion } } = true := h
  simp [goesOnTo, exec, execMinAssertionEnd, onService, h']

/-- Where the minimum assertion has passed already, a station goes on to what the READY test makes of it. -/
theorem goesOnTo_of_settled (w : State) (h : inService w = true) (he : w.pcu.edge = .settled) : goesOnTo w (settle w) := by
  have hw : ({ w with pcu := { w.pcu with edge := .settled } } : State) = w := by rw [← he]
  simpa only [hw] using goesOnTo_settle w h

end Sys2Proof.Machine
end

