-- ==== Sys2Proof/Laws/Ring.lean ====
section
/-! SUPPORT. The design ring: every operation over it keeps its form (R3, R5, R10, R11), and what each does to L, to the cursor's
records and to the colour in force. -/

namespace Sys2Proof.Machine

/-! ### Trail entries of a run of records -/

theorem colorEntries_ge (n : Nat) (rs : List Rec) : ∀ e ∈ colorEntries n rs, n ≤ e.1 := by
  induction rs generalizing n with
  | nil => simp [colorEntries]
  | cons r rs ih =>
    intro e he
    have hrest : ∀ e ∈ colorEntries (n + 1) rs, n ≤ e.1 := fun e h => by have := ih (n + 1) e h; omega
    unfold colorEntries at he
    split at he
    · rcases List.mem_cons.1 he with rfl | h
      · exact Nat.le_refl _
      · exact hrest e h
    · exact hrest e he

theorem colorEntries_lt (n : Nat) (rs : List Rec) : ∀ e ∈ colorEntries n rs, e.1 < n + rs.length := by
  induction rs generalizing n with
  | nil => simp [colorEntries]
  | cons r rs ih =>
    intro e he
    have hrest : ∀ e ∈ colorEntries (n + 1) rs, e.1 < n + (r :: rs).length := fun e h => by
      have := ih (n + 1) e h
      simp only [List.length_cons]
      omega
    unfold colorEntries at he
    split at he
    · rcases List.mem_cons.1 he with rfl | h
      · simp
      · exact hrest e h
    · exact hrest e he

theorem colorEntries_append (n : Nat) (as bs : List Rec) :
    colorEntries n (as ++ bs) = colorEntries n as ++ colorEntries (n + as.length) bs := by
  induction as generalizing n with
  | nil => simp [colorEntries]
  | cons a as ih =>
    have e : n + 1 + as.length = n + (a :: as).length := by simp only [List.length_cons]; omega
    simp only [List.cons_append, colorEntries, ih, e]
    split <;> simp

theorem colorEntries_length (n : Nat) (rs : List Rec) : (colorEntries n rs).length = colorCount rs := by
  induction rs generalizing n with
  | nil => simp [colorEntries, colorCount]
  | cons r rs ih =>
    have := ih (n + 1)
    simp only [colorEntries, colorCount, List.countP_cons] at *
    split <;> simp_all

theorem colorEntries_filter (n k : Nat) (rs : List Rec) :
    (colorEntries n rs).filter (fun e => decide (n + k ≤ e.1)) = colorEntries (n + k) (rs.drop k) := by
  by_cases hk : k ≤ rs.length
  · have hs : colorEntries n rs = colorEntries n (rs.take k) ++ colorEntries (n + k) (rs.drop k) := by
      rw [← List.take_append_drop k rs, colorEntries_append]
      simp [Nat.min_eq_left hk]
    rw [hs, List.filter_append]
    have h1 : (colorEntries n (rs.take k)).filter (fun e => decide (n + k ≤ e.1)) = [] := by
      rw [List.filter_eq_nil_iff]
      intro e he
      have := colorEntries_lt n _ e he
      simp [List.length_take, Nat.min_eq_left hk] at this
      simpa using this
    have h2 : (colorEntries (n + k) (rs.drop k)).filter (fun e => decide (n + k ≤ e.1)) = colorEntries (n + k) (rs.drop k) := by
      rw [List.filter_eq_self]
      intro e he
      simpa using colorEntries_ge _ _ e he
    rw [h1, h2, List.nil_append]
  · rw [List.drop_eq_nil_of_le (by omega)]
    simp only [colorEntries]
    rw [List.filter_eq_nil_iff]
    intro e he
    have := colorEntries_lt n _ e he
    simp
    omega

theorem recordsInvalid_append (n : Nat) (as bs : List Rec) :
    recordsInvalid n (as ++ bs) = none ↔ recordsInvalid n as = none ∧ recordsInvalid (n + as.length) bs = none := by
  induction as generalizing n with
  | nil => simp [recordsInvalid]
  | cons a as ih =>
    have e : n + 1 + as.length = n + (a :: as).length := by simp only [List.length_cons]; omega
    simp only [List.cons_append, recordsInvalid]
    split
    · simp
    · rw [ih, e]

theorem recordsInvalid_drop (n k : Nat) (rs : List Rec) (h : recordsInvalid n rs = none) :
    recordsInvalid (n + k) (rs.drop k) = none := by
  by_cases hk : k ≤ rs.length
  · rw [← List.take_append_drop k rs, recordsInvalid_append] at h
    simpa [List.length_take, Nat.min_eq_left hk] using h.2
  · rw [List.drop_eq_nil_of_le (by omega)]
    rfl

/-- Valid records have colours 0 to 31. -/
theorem colorEntries_colour (n : Nat) (rs : List Rec) (h : recordsInvalid n rs = none) : ∀ e ∈ colorEntries n rs, e.2 ≤ 31 := by
  induction rs generalizing n with
  | nil => simp [colorEntries]
  | cons r rs ih =>
    intro e he
    simp only [recordsInvalid] at h
    split at h
    · simp at h
    · rename_i hr
      unfold colorEntries at he
      split at he
      · rename_i hc
        rcases List.mem_cons.1 he with rfl | hm
        · have hk : recKind r = some .color := by simpa [isColor] using hc
          simp only [recordInvalid, hk] at hr
          by_contra hgt
          simp only [not_le] at hgt
          have : 32 ≤ r.o1.toNat := hgt
          simp [this] at hr
        · exact ih (n + 1) h e hm
      · exact ih (n + 1) h e he

/-- The colour of the last of some entries is one of their colours, or the base. -/
theorem lastColor_le (b : Nat) (es : List (Nat × Nat)) (m : Nat) (hb : b ≤ m) (he : ∀ e ∈ es, e.2 ≤ m) : lastColor b es ≤ m := by
  unfold lastColor
  split
  · rename_i e h
    exact he e (List.mem_of_getLast? h)
  · exact hb

/-! ### Raising F (R8, R10, R11) -/

@[simp] theorem raiseF_L (f : Nat) (r : Ring) (h : f ≤ ringL r) : ringL (raiseF f r) = ringL r := by
  unfold raiseF ringL at *
  split
  · simp only [List.length_drop]
    omega
  · rfl

theorem raiseF_F (f : Nat) (r : Ring) : (raiseF f r).F = max r.F f := by
  unfold raiseF
  split <;> simp <;> omega

theorem raiseF_form (f : Nat) (r : Ring) (hle : f ≤ ringL r) (hf : ringForm r) : ringForm (raiseF f r) := by
  unfold raiseF
  split
  · rename_i hlt
    obtain ⟨hlen, htr, ht, hb, hv, hL⟩ := hf
    have e : r.F + (f - r.F) = f := by omega
    refine ⟨?_, ?_, ?_, ?_, ?_, ?_⟩
    · simp only [List.length_drop]
      omega
    · have := colorEntries_filter r.F (f - r.F) r.recs
      rw [e] at this
      simpa [htr] using this
    · exact Nat.le_trans (List.length_filter_le _ _) ht
    · refine lastColor_le _ _ _ hb fun x hx => ?_
      rw [htr] at hx
      exact colorEntries_colour _ _ hv x (List.mem_of_mem_filter hx)
    · have := recordsInvalid_drop r.F (f - r.F) r.recs hv
      rwa [e] at this
    · unfold ringL at *
      simp only [List.length_drop]
      omega
  · exact hf

theorem retainAt_form (n retain : Nat) (r : Ring) (h : ringForm r) : ringForm (retainAt n retain r) :=
  raiseF_form _ _ (by omega) h

@[simp] theorem retainAt_L (n retain : Nat) (r : Ring) : ringL (retainAt n retain r) = ringL r := raiseF_L _ _ (by omega)

theorem retainAt_F_le (n retain : Nat) (r : Ring) (h : r.F ≤ n) : (retainAt n retain r).F ≤ n := by
  unfold retainAt
  rw [raiseF_F]
  omega

theorem prune_form (n k : Nat) (r : Ring) (h : ringForm r) : ringForm (prune n k r) := by
  unfold prune
  dsimp only
  (repeat' split) <;> first | exact h | (apply raiseF_form _ _ _ h; omega)

@[simp] theorem prune_L (n k : Nat) (r : Ring) : ringL (prune n k r) = ringL r := by
  unfold prune
  dsimp only
  (repeat' split) <;> first | rfl | (apply raiseF_L; omega)

theorem prune_F_le (n k : Nat) (r : Ring) (h : r.F ≤ n) : (prune n k r).F ≤ n := by
  unfold prune
  dsimp only
  (repeat' split) <;> first | exact h | (rw [raiseF_F]; omega)

/-! ### Appending and emptying (R7, R15, R16) -/

@[simp] theorem appendRecs_L (rs : List Rec) (r : Ring) : ringL (appendRecs rs r) = ringL r + rs.length := by
  simp [appendRecs, ringL]
  omega

theorem appendRecs_form (rs : List Rec) (r : Ring) (h : ringForm r) (hroom : rs.length ≤ ringRoom r)
    (htrail : r.trail.length + colorCount rs ≤ Config.trailPlaces) (hv : segmentInvalid (ringL r) rs = none) :
    ringForm (appendRecs rs r) := by
  obtain ⟨hlen, htr, ht, hb, hval, hL⟩ := h
  unfold segmentInvalid at hv
  split at hv
  · cases hv
  refine ⟨?_, ?_, ?_, hb, ?_, ?_⟩
  · simp only [appendRecs, List.length_append]
    unfold ringRoom at hroom
    omega
  · simp only [appendRecs, htr, colorEntries_append]
    rfl
  · simp only [appendRecs, List.length_append, colorEntries_length]
    exact htrail
  · exact (recordsInvalid_append _ _ _).2 ⟨hval, hv⟩
  · rw [appendRecs_L]
    omega

theorem emptiedAt_form (n base : Nat) (hn : n ≤ Config.maxRecord + 1) (h : base ≤ 31) : ringForm (emptiedAt n base) := by
  refine ⟨?_, rfl, ?_, h, rfl, ?_⟩ <;> simp [emptiedAt, ringL, hn]

/-- The ring is empty at reset, in its form. -/
theorem initial_form : ringForm Ring.initial := emptiedAt_form 0 0 (by decide) (by decide)

end Sys2Proof.Machine
end

