-- ==== Sys2Proof/Tests/Slice0.lean ====
section
/-! SUPPORT. Tests: the checks of WellFormed, the worked examples of the spec, frames of the line, and for every statement with
hypotheses a state and operands that meet them. -/

namespace Sys2Proof.Machine

/-! ### States the tests start from -/

/-- A head, number 1, joined and STOPPED at (0, first step) on an idle line, its needle up, its selector in detent. -/
def headStopped : State :=
  let t := State.ofStraps [] 1 (some .head)
  { t with
    selfTesting := false
    pcu := { t.pcu with run := .stopped }
    ptb := { t.ptb with joined := true }
    stu := { t.stu with needleUp := true }
    slu := { t.slu with detent := true }
    liu := { t.liu with framer := .hunting } }

def headRunning : State := { headStopped with pcu := { headStopped.pcu with run := .running } }
def headHalted : State := { headStopped with pcu := { headStopped.pcu with haltSeen := true } }
def headAgreeing : State := { headStopped with pcu := { headStopped.pcu with agreement := .running 100000 } }
def headLocked : State := { headStopped with dld := { headStopped.dld with state := .lockout, lockReason := .gap } }
def headClosed : State := { headStopped with ord := { headStopped.ord with setupOpen := false } }
def headCut : State :=
  { headStopped with
    pcu := { headStopped.pcu with run := .cut }
    flt := { headStopped.flt with supply := .cut } }

/-- An AXIS-X, number 8, joined, STOPPED, HOMED with its origin given, on an idle line. -/
def axisStopped : State :=
  let t := State.ofStraps [] 8 (some .axisX)
  { t with
    selfTesting := false
    pcu := { t.pcu with run := .stopped }
    ptb := { t.ptb with joined := true }
    axu := { t.axu with homing := .homed, originValid := true }
    liu := { t.liu with framer := .hunting } }

/-- The same axis before homing. -/
def axisUnhomed : State := { axisStopped with axu := { axisStopped.axu with homing := .unhomed, originValid := false } }

/-- These records in the ring, from record 0 on. -/
def withRecords (recs : List Rec) (s : State) : State :=
  { s with drg := ⟨0, recs, colorEntries 0 recs, 0⟩ }

/-- An order from station 31 to every station. -/
def toAll (args : List Byte) : OrderFrame := ⟨31, some 0x40, args⟩


/-- The state of a next outcome. -/
def nextOf : Host.Outcome State Fault Refusal → Option State
  | .next t => some t
  | _ => none

/-! ### The checks of WellFormed refuse ill-formed commands -/

theorem test_wf_order_arguments_need_a_destination : (Instr.run ⟨31, none, [0]⟩).wf = false := by decide
theorem test_wf_order_without_destination : (Instr.run ⟨31, none, []⟩).wf = true := by decide
theorem test_wf_order_too_long : (Instr.setup ⟨31, some 0x40, List.replicate 220 0⟩).wf = false := by decide +kernel
theorem test_wf_order_longest : (Instr.setup ⟨31, some 0x40, List.replicate 219 0⟩).wf = true := by decide +kernel
theorem test_wf_unknown_order_of_the_catalogue : (Instr.unknownOrder 19 ⟨31, none, []⟩).wf = false := by decide
theorem test_wf_unknown_order_outside : (Instr.unknownOrder 20 ⟨31, none, []⟩).wf = true := by decide
theorem test_wf_body_empty : (Instr.beaconReceived 3 []).wf = false := by decide
theorem test_wf_body_too_long : (Instr.designSegment 31 (List.replicate 222 0)).wf = false := by decide +kernel
theorem test_wf_body_longest : (Instr.urgentReceived 3 (List.replicate 221 0)).wf = true := by decide +kernel

/-! ### The code of the station line, by hand from R180 to R184 -/

/-- R181: class 01, source 11111, and a parity bit that makes seven ones of six. -/
theorem test_arbitration_order_31 : arbitrationOctet .order 31 = 0b01111111 := by decide +kernel
/-- R181: class 11, source 00101, and a parity bit that makes five ones of four. -/
theorem test_arbitration_design_5 : arbitrationOctet .design 5 = 0b11001011 := by decide +kernel
/-- R181: even parity is no arbitration octet. -/
theorem test_arbitration_even_parity : readArbitration 0b01111110 = none := by decide +kernel
/-- R183: x^7 leaves x^3 + 1, and c7 makes the three ones four. -/
theorem test_check_octet_last_bit : checkOctet [0, 0, 0, 0, 0, 0, 1] = 0b10001001 := by decide +kernel
/-- R183: x^8 leaves x^4 + x. -/
theorem test_check_octet_next_bit : checkOctet [0, 0, 0, 0, 0, 0, 2] = 0b10010010 := by decide +kernel
/-- R183: one inverted bit is corrected. -/
theorem test_block_corrected : decodeBlock [0, 0, 0, 0, 0, 0, 3, 0b10001001] = some [0, 0, 0, 0, 0, 0, 1] := by decide +kernel
/-- R183: c7 alone in error. -/
theorem test_block_c7 : decodeBlock [0, 0, 0, 0, 0, 0, 1, 0b00001001] = some [0, 0, 0, 0, 0, 0, 1] := by decide +kernel
/-- R183: two inverted bits are rejected. -/
theorem test_block_rejected : decodeBlock [0, 0, 0, 0, 0, 0, 7, 0b10001001] = none := by decide +kernel
/-- R184: the tail is not a codeword. -/
theorem test_tail_is_no_codeword : decodeBlock tailOctets = none := by decide +kernel
/-- R180: one differing bit is accepted, two are not. -/
theorem test_sync : syncAccepted 0xC6 0xB4 = true ∧ syncAccepted 0xC6 0xB6 = false ∧ syncAccepted 0xC7 0xB4 = false := by
  decide +kernel

/-- The published check value of this CRC (x^16 + x^15 + x^2 + 1, register 0, not reflected) over the digits 1 to 9. -/
theorem test_crc_check_value : crc16 [0x31, 0x32, 0x33, 0x34, 0x35, 0x36, 0x37, 0x38, 0x39] = 0xFEE8 := by decide +kernel

/-- The inputs an order is read with. -/
def sampled : Sampled := ⟨0, false, 24000⟩

/-- RUN to ALL from station 31; the CRC and the check octet were worked out from R183 and R184 outside the model. -/
def runFrame : List Byte :=
  [0xC6, 0xB5, 0x7F, 0x02, 0x01, 0x40, 0x87, 0xAB, 0x00, 0x00, 0x50, 0x3C, 0x3C, 0x3C, 0x3C, 0x3C, 0x3C, 0x3C, 0x3C]

theorem test_run_frame_decodes : decodeLine sampled runFrame = .run (toAll []) := by decide +kernel
theorem test_run_encodes : encodeLine (.run (toAll [])) = some runFrame := by decide +kernel
/-- R180: the first dominant edge is the start of the third sync bit. A frame with that bit recessive, or with an edge before it, is
read shifted and abandoned; one with another bit of the sync in error is read. -/
theorem test_sync_alignment : decodeLine sampled (0xE6 :: runFrame.drop 1) = .frameAbandoned ∧
    decodeLine sampled (0x06 :: runFrame.drop 1) = .frameAbandoned ∧
    decodeLine sampled (0xC4 :: runFrame.drop 1) = .run (toAll []) := by decide +kernel
/-- RATE 900 to station 2. -/
theorem test_rate_frame_decodes :
    decodeLine sampled [0xC6, 0xB5, 0x7F, 0x04, 0x03, 0x02, 0x03, 0x84, 0x34, 0xD0, 0xBB, 0x3C, 0x3C, 0x3C, 0x3C, 0x3C, 0x3C,
      0x3C, 0x3C] = .rate ⟨31, some 2, [3, 0x84]⟩ := by decide +kernel
/-- A design segment of one STITCH, in two codeblocks. -/
theorem test_segment_frame_decodes :
    decodeLine sampled [0xC6, 0xB5, 0xFE, 0x0A, 0x00, 0x00, 0x00, 0x00, 0x00, 0x00, 0xB1, 0x01, 0x01, 0x05, 0x06, 0x8A, 0x80,
      0x00, 0x1E, 0x3C, 0x3C, 0x3C, 0x3C, 0x3C, 0x3C, 0x3C, 0x3C] = .designSegment 31 [0, 0, 0, 0, 0, 0, 1, 1, 5, 6] := by
  decide +kernel
/-- A tail that a bit error has changed is rejected as a block (R184). -/
theorem test_changed_tail_is_abandoned :
    decodeLine sampled (runFrame.take 11 ++ [0x3D, 0x3C, 0x3C, 0x3C, 0x3C, 0x3C, 0x3C, 0x3C]) = .frameAbandoned := by decide +kernel

/-! ### The ring: the first worked example of the chapter on the design ring -/

/-- RETAIN 6, records 100 to 139, COLOR records at 104, 110 and 120, base colour 3. -/
def exampleRing : Ring where
  F := 100
  recs := List.replicate 4 ⟨1, 1, 1⟩ ++ [⟨4, 5, 0⟩] ++ List.replicate 5 ⟨1, 1, 1⟩ ++ [⟨4, 2, 0⟩] ++ List.replicate 9 ⟨1, 1, 1⟩
    ++ [⟨4, 7, 0⟩] ++ List.replicate 19 ⟨1, 1, 1⟩
  trail := [(104, 5), (110, 2), (120, 7)]
  base := 3

theorem test_example_ring_form : ringForm exampleRing := by decide
theorem test_example_room : ringL exampleRing = 140 ∧ ringRoom exampleRing = 4056 := by decide
theorem test_example_colours :
    [103, 104, 105, 110, 111, 120, 121].map (colorInForce exampleRing) = [3, 3, 5, 5, 2, 2, 7] := by decide
theorem test_example_no_retention_at_106 : retainAt 106 6 exampleRing = exampleRing := by decide
theorem test_example_retention_at_111 :
    (retainAt 111 6 exampleRing).F = 105 ∧ ringRoom (retainAt 111 6 exampleRing) = 4061 ∧
      (retainAt 111 6 exampleRing).base = 5 ∧ (retainAt 111 6 exampleRing).trail = [(110, 2), (120, 7)] ∧
      colorInForce (retainAt 111 6 exampleRing) 105 = 5 ∧ colorInForce (retainAt 111 6 exampleRing) 111 = 2 := by decide

/-- The second and third worked examples: records 2,000 to 2,299 and 62 trail entries, the third oldest at this record. -/
def fullTrailRing (third : Nat) : Ring where
  F := 2000
  recs := List.replicate 300 ⟨1, 0, 0⟩
  trail := [(2010, 4), (2013, 9), (third, 1)] ++ (List.range 59).map fun i => (2100 + i, 7)
  base := 6

theorem test_example_prune :
    (prune 2040 5 (fullTrailRing 2030)).F = 2031 ∧ (prune 2040 5 (fullTrailRing 2030)).base = 1 ∧
      (prune 2040 5 (fullTrailRing 2030)).trail.length = 59 ∧ ringRoom (prune 2040 5 (fullTrailRing 2030)) = 3827 := by decide +kernel
theorem test_example_prune_not_enough :
    (prune 2040 5 (fullTrailRing 2045)).F = 2040 ∧ (prune 2040 5 (fullTrailRing 2045)).base = 9 ∧
      (prune 2040 5 (fullTrailRing 2045)).trail.length = 60 ∧ ringRoom (prune 2040 5 (fullTrailRing 2045)) = 3836 := by decide +kernel

/-! ### The loader: the bands of the worked sequence of a lost segment (V 2, 5 and 11, PW and NW 8) -/

theorem test_bands :
    bandOf 8 8 2 2 = .expected ∧ bandOf 8 8 2 3 = .positive ∧ bandOf 8 8 5 2 = .negative ∧ bandOf 8 8 2 10 = .outside ∧
      bandOf 8 8 11 2 = .outside := by decide

/-- A segment of one STITCH at record 0, its number V. -/
theorem test_segment_appended :
    (nextOf (exec (.designSegment 31 [0, 0, 0, 0, 0, 0, 1, 1, 5, 6]) headStopped)).map
      (fun t => (t.dld.v, t.drg.recs, t.dld.resend)) = some (1, [⟨1, 5, 6⟩], false) := by decide
/-- Segment 10 at V = 0 lies outside: LOCKOUT, and LOAD-LOCKOUT with WINDOW and 10. -/
theorem test_segment_outside :
    (nextOf (exec (.designSegment 31 [0, 0, 10, 0, 0, 0, 1, 1, 5, 6]) headStopped)).map
      (fun t => (t.dld.state, t.dld.lockReason, (faultRec .loadLockout t).d1, (faultRec .loadLockout t).d2))
      = some (.lockout, .window, 1, 10) := by decide

/-! ### Agreement: the worked examples of the chapter on peers -/

theorem test_agreement_majority :
    chooseCursor ⟨900, .first⟩ [⟨900, .stroke⟩, ⟨900, .stroke⟩, ⟨900, .first⟩, ⟨900, .stroke⟩] = ⟨900, .stroke⟩ := by decide
theorem test_agreement_tie :
    chooseCursor ⟨900, .stroke⟩ [⟨900, .first⟩, ⟨900, .stroke⟩, ⟨900, .first⟩] = ⟨900, .first⟩ := by decide
/-- Axis 9 (Y) at 312 takes record 900, dy = −9, behind it. -/
theorem test_axis_follows_forward :
    pcChange (some .axisY) ⟨900, [⟨1, 14, -9⟩], [], 0⟩ ⟨900, .first⟩ ⟨900, .stroke⟩ = some (-9) := by decide
/-- Axis 8 (X) at 1,205 gives record 900, dx = +14, back. -/
theorem test_axis_follows_backward :
    pcChange (some .axisX) ⟨900, [⟨1, 14, -9⟩], [], 0⟩ ⟨900, .stroke⟩ ⟨900, .first⟩ = some (-14) := by decide

/-! ### Times and the axis: the table of R39 and the worked cases of the chapter on hoop motion -/

theorem test_times :
    [100, 600, 900, 1200].map (fun r => (stitchPeriod r, moveTime r 7, strokeTime r 7))
      = [(600000, 262500, 337500), (100000, 43750, 56250), (66666, 29166, 37500), (50000, 21875, 28125)] ∧
      traverseTime 1000 = 60000 := by decide
theorem test_steps_round_down : toSteps Params.defaults (-37) = -237 ∧ toSteps Params.defaults 1480 = 9472 := by decide
theorem test_step_times :
    moveStepTime 29166 128 1 = 227 ∧ moveStepTime 29166 128 128 = 29166 ∧ moveStepTime 29166 (-180) 1 = 162 ∧
      rateStepTime 20 1 = 50 ∧ rateStepTime 20 5056 = 252800 := by decide
theorem test_long_jump_stretches :
    moveDuration { Params.defaults with p := 4000 } 21875 false 5080 = 25400 ∧ moveStepTime 25400 5080 1 = 5 := by decide
theorem test_return_from_excursion : moveDuration Params.defaults 60000 true (-5056) = 252800 := by decide

/-- Case A: RUNNING at rate 900 with LMAX 1,500, READY for MOVE(0) over a STITCH with dx = +37. -/
def caseA : State :=
  { axisStopped with
    params := { Params.defaults with lmax := 1500 }
    pcu := { axisStopped.pcu with
      run := .running, win := .ready, next := some ⟨.move 0, ⟨1, 37, 0⟩⟩, pace := false, setRate := 900 }
    drg := ⟨0, [⟨1, 37, 0⟩], [], 0⟩
    axu := { axisStopped.axu with pc := 1480, pf := 1480, sPos := 9472 } }

theorem test_case_A_move :
    (nextOf (exec (.crossing 0) caseA)).map (fun t => (t.axu.move, t.axu.clampFlag, t.pcu.cursor))
      = some (some ⟨1517, 1500, 9600, 128, 29166, 0⟩, true, ⟨0, .stroke⟩) := by decide
theorem test_case_A_fault :
    (nextOf (exec (.crossing 0) caseA)).map
      (fun t => ((faultRec .limitStitch t).latched, (faultRec .limitStitch t).d1, (faultRec .limitStitch t).d2))
      = some (true, 1, 17) := by decide

/-! ### The thread: the arithmetic at its edges, and the bobbin thread of the worked repair -/

/-- The lower and the upper end of the band of R135. -/
def band (ps : Params) (r : Rec) : Int × Int :=
  let e := expectedFeed ps (stitchLength r)
  ((e : Int) - feedBand ps e, e + feedBand ps e)

theorem test_feed_tie_in : band Params.defaults ⟨1, 0, 0⟩ = (4, 6) := by decide
theorem test_feed_longest : stitchLength ⟨1, -128, -128⟩ = 176 ∧ band Params.defaults ⟨1, -128, -128⟩ = (72, 158) := by decide
theorem test_feed_above_counter : band { Params.defaults with ka := 255, kb := 4095 } ⟨1, -128, -128⟩ = (479, 1051) := by
  decide
theorem test_feed_below_zero : band { Params.defaults with kb := 0 } ⟨1, 0, 0⟩ = (-1, 1) := by decide
theorem test_feed_classes :
    [3, 4, 6, 7].map (feedClass Params.defaults ⟨1, 0, 0⟩) = [.short, .normal, .normal, .long] := by decide
theorem test_bobbin_thread :
    [(8, 5), (12, 0), (-30, 17), (-28, 20), (-31, 15)].map
      (fun d : Int × Int => bobbinThread Params.defaults ⟨1, BitVec.ofInt 8 d.1, BitVec.ofInt 8 d.2⟩) = [13, 14, 23, 23, 23] := by
  decide
/-- A break whose first suspect stroke was at 3,120, with OVERLAP 2. -/
theorem test_break_rewind :
    (threadBreak { headStopped with
      stu := { headStopped.stu with needle := 5, recNo := 3122, C := 3123 }
      thm := { headStopped.thm with firstSuspect := some 3120 } }).stu.C = 3118 := by decide

/-! ### Traversal: the worked repair and the worked example of backing over a colour change -/

theorem test_back_five :
    backTarget ⟨3118, [⟨1, 8, 5⟩, ⟨1, 12, 0⟩, ⟨1, -30, 17⟩, ⟨1, -28, 20⟩, ⟨1, -31, 15⟩], [], 6⟩ ⟨3123, .first⟩ 5
      = ⟨3118, .first⟩ := by decide
/-- A ring whose oldest record is 3,120 stops the count there. -/
theorem test_back_stops_at_F :
    backTarget ⟨3120, [⟨1, -30, 17⟩, ⟨1, -28, 20⟩, ⟨1, -31, 15⟩], [], 6⟩ ⟨3123, .first⟩ 5 = ⟨3120, .first⟩ := by decide

/-- The records 2,040 to 2,045 of the example. -/
def colourRing : Ring := ⟨2040, [⟨1, 1, 1⟩, ⟨3, 0, 0⟩, ⟨4, 11, 0⟩, ⟨2, 9, 9⟩, ⟨1, 1, 1⟩, ⟨1, 1, 1⟩], [(2042, 11)], 4⟩

theorem test_back_over_colour : backTarget colourRing ⟨2046, .first⟩ 4 = ⟨2040, .first⟩ := by decide
theorem test_retreat_passes_trim_and_colour :
    (nextBack colourRing ⟨2043, .first⟩).map Prod.fst = some 2040 ∧ colorInForce colourRing 2043 = 11 ∧
      colorInForce colourRing 2040 = 4 := by decide
theorem test_forward_stops_at_end :
    forwardTarget ⟨10, [⟨1, 1, 1⟩, ⟨6, 0, 0⟩, ⟨1, 1, 1⟩], [], 0⟩ ⟨10, .first⟩ 2 = (⟨10, .stroke⟩, true) := by decide

/-! ### Orders: the worked example of one SETUP sent to ALL -/

/-- The entry of LMIN or LMAX or HOME_OFFSET with −1,500 or 1,500. -/
def entryMinus1500 (q : Byte) : List Byte := [q, 0xFF, 0xFF, 0xFA, 0x24]
def entry1500 (q : Byte) : List Byte := [q, 0, 0, 0x05, 0xDC]

theorem test_setup_inconsistent :
    (nextOf (exec (.setup (toAll (entryMinus1500 10 ++ entry1500 11))) headStopped)).map
      (fun t => (t.params.lmin, t.ord.counter, t.ord.lastRefusal)) = some (-1800, 0, some (.badArg, 18)) := by decide
theorem test_setup_consistent :
    (nextOf (exec (.setup (toAll (entryMinus1500 10 ++ entry1500 11 ++ entryMinus1500 14))) headStopped)).map
      (fun t => (t.params.lmin, t.params.homeOffset, t.ord.counter, t.ord.lastRefusal)) = some (-1500, -1500, 1, none) := by
  decide
theorem test_setup_closed :
    (nextOf (exec (.setup (toAll (entryMinus1500 10))) headClosed)).map (fun t => t.ord.lastRefusal)
      = some (some (.setupClosed, 18)) := by decide

/-! ### Supply (R167) and straps (R176) -/

theorem test_supply_levels :
    [21801, 21800, 19901, 19900, 16301, 16300].map startingLevel = [.normal, .warn, .warn, .low, .low, .cut] := by decide
theorem test_role_pins : [0, 1, 2, 3].map roleOfPins = [some .head, some .axisX, some .axisY, none] := by decide
/-- R108: the lines are active low: needle 5 pulls lines 0 and 2. -/
theorem test_code_lines : readCode 12 true 0b1010 = some 5 ∧ readCode 12 true 0b1111 = none ∧ readCode 12 true 0b0010 = none := by
  decide

/-! ### The queue -/

theorem test_step_takes_front :
    step { headStopped with pending := [.supplyFallWarn, .surge] } = exec .supplyFallWarn { headStopped with pending := [.surge] } :=
  rfl
theorem test_step_idles : step State.reset = .next State.reset := rfl
theorem test_no_table_word : decodeTableWord 8 1 = none := rfl

/-! ### States and steps that meet the hypotheses of the tier 3 statements -/

/-- R169: the recovery makes SUPPLY-WARN pending though it was taken at IGNORE and never latched. -/
theorem test_recovery_makes_ignored_warn_pending :
    (∃ u, exec .supplyRecovery headCut = .next u ∧ (faultRec .supplyWarn headCut).latched = false ∧
      (faultRec .supplyWarn u).pending = true ∧ (faultRec .supplyWarn u).latched = false) := ⟨_, rfl, by decide⟩

theorem witness_LawsAreKept_step (s : State) : ∃ t, step { s with pending := [.lineIdle] } = .next t := ⟨_, rfl⟩
theorem witness_paceLaw : paceLaw caseA := ⟨by decide, by decide⟩
theorem witness_PaceAndCutLawsAreKept : paceLaw caseA ∧ cutLaw caseA := ⟨witness_paceLaw, by decide⟩
theorem witness_PaceAndCutLawsAreKept_cut : paceLaw headCut ∧ cutLaw headCut := ⟨⟨by decide, by decide⟩, by decide⟩
theorem witness_RingAndLoaderLawsAreKept : loadingLaw { headStopped with drg := exampleRing } := by decide
theorem witness_CursorStaysInTheRing :
    paceLaw caseA ∧ cursorLaw caseA ∧ ringForm caseA.drg ∧ numberLaw caseA :=
  ⟨witness_paceLaw, by decide, by decide, by decide⟩
theorem witness_AxisLawIsKept : paceLaw caseA ∧ axisLaw caseA := by
  refine ⟨witness_paceLaw, fun _ => ⟨by decide, by decide, by decide, ?_⟩⟩
  intro o h
  cases h
theorem witness_faultLaw : faultLaw headRunning := ⟨fun c => by cases c <;> decide, by decide⟩
theorem witness_bobbinLaw :
    bobbinLaw { headStopped with thm := { headStopped.thm with bobbin := some 5, lastLoaded := some 9 } } := by
  intro b h
  cases h
  exact ⟨9, rfl, by decide⟩
theorem witness_paramsLaw : paramsLaw caseA.params := ⟨fun q => by cases q <;> decide, by decide⟩

/-! ### A state and operands for the hypotheses of each statement -/

theorem witness_StepTakesFrontCommand_front :
    ∃ (c : Instr) (rest : List Instr) (s : State), s.pending = c :: rest :=
  ⟨.surge, [.lineIdle], { headStopped with pending := [.surge, .lineIdle] }, by decide⟩

theorem witness_StepTakesFrontCommand_idle :
    ∃ s : State, s.pending = [] :=
  ⟨headStopped, by decide⟩

theorem witness_OutOfServiceNothingHappens_command :
    ∃ (c : Instr) (s : State), inService s = false ∧ (∀ number pins, c ≠ .reset number pins) ∧ ∀ ring lines drive mv, c ≠
      .selfTestEnd ring lines drive mv :=
  ⟨.surge, State.reset, by decide, by simp, by simp⟩

theorem witness_OutOfServiceNothingHappens_noRole :
    ∃ s : State, s.role = none :=
  ⟨State.ofStraps [] 3 none, by decide⟩

theorem witness_SelfTestEnds_0 :
    ∃ (role : Role) (s : State), s.role = some role ∧ s.selfTesting = true :=
  ⟨.head, State.reset, by and_intros <;> decide⟩

theorem witness_JoiningListenEnds_0 :
    ∃ (s : State), inService s = true ∧ s.pcu.run = .joining ∧ isRunning s.pcu.listen = true :=
  ⟨{ headStopped with pcu := { PaceUnit.initial with listen := .running 5 } }, by and_intros <;> decide⟩

theorem witness_JoiningAndAgreementChoice :
    ∃ (c : Cursor) (cs : List Cursor), ∃ d ∈ c :: cs, d ≠ chooseCursor c cs :=
  ⟨⟨900, .stroke⟩, [⟨900, .first⟩], ⟨900, .stroke⟩, by decide, by decide⟩

theorem witness_DestinationsReachStations_ignored :
    ∃ (code : Byte) (f : OrderFrame) (s : State), hearsFrames s ∧ reach (fitOfCode code) f.dest s = .ignored :=
  ⟨6, toAll [], headStopped, by decide⟩

theorem witness_DestinationsReachStations_wrongRole :
    ∃ (code : Byte) (f : OrderFrame) (s : State), hearsFrames s ∧ reach (fitOfCode code) f.dest s = .wrongRole :=
  ⟨6, ⟨31, some 1, []⟩, headStopped, by decide⟩

theorem witness_MalformedOrdersAreRefused_unknown :
    ∃ (code : Byte) (f : OrderFrame) (s : State), judgedAt .all f s ∧ inCatalogue code = false :=
  ⟨20, toAll [], headStopped, by decide, by decide⟩

theorem witness_MalformedOrdersAreRefused :
    ∃ (code : Byte) (f : OrderFrame) (s : State), judgedAt (fitOfCode code) f s ∧ badForm code f.args = true :=
  ⟨200, toAll [], headStopped, by decide⟩

theorem witness_MalformedOrdersAreRefused_length :
    ∃ (code : Byte) (f : OrderFrame) (s : State), judgedAt (fitOfCode code) f s ∧ badForm code f.args = true :=
  ⟨3, toAll [1], headStopped, by decide⟩

theorem witness_RunOrder_0 :
    ∃ (f : OrderFrame) (s : State), judgedAt .all f s ∧ f.args = [] ∧ s.pcu.run ≠ .stopped :=
  ⟨toAll [], headRunning, by and_intros <;> decide⟩

theorem witness_RunOrder_1 :
    ∃ (f : OrderFrame) (s : State), judgedAt .all f s ∧ f.args = [] ∧ s.pcu.run = .stopped ∧ s.pcu.haltSeen = true :=
  ⟨toAll [], headHalted, by and_intros <;> decide⟩

theorem witness_RunOrder_2 :
    ∃ (f : OrderFrame) (r : Rec) (s : State), judgedAt .all f s ∧ f.args = [] ∧ s.pcu.run = .stopped ∧ s.pcu.haltSeen =
      false ∧ recAtN s = some r ∧ isEnd r = true :=
  ⟨toAll [], ⟨6, 0, 0⟩, withRecords [⟨6, 0, 0⟩] headStopped, by and_intros <;> decide⟩

theorem witness_RunOrder_3 :
    ∃ (f : OrderFrame) (s : State), judgedAt .all f s ∧ f.args = [] ∧ s.pcu.run = .stopped ∧ s.pcu.haltSeen = false ∧ atEnd
      s = false ∧ isAxis s = true ∧ s.axu.originValid = false :=
  ⟨toAll [], axisUnhomed, by and_intros <;> decide⟩

theorem witness_RunOrder_4 :
    ∃ (f : OrderFrame) (s : State), judgedAt .all f s ∧ f.args = [] ∧ s.pcu.run = .stopped ∧ s.pcu.haltSeen = false ∧ atEnd
      s = false ∧ (isAxis s = false ∨ s.axu.originValid = true) :=
  ⟨toAll [], withRecords [⟨1, 3, 4⟩] headStopped, by and_intros <;> decide⟩

theorem witness_StopAndRateOrders_0 :
    ∃ (f : OrderFrame) (s : State), judgedAt .all f s ∧ f.args = [] ∧ (s.pcu.run = .joining ∨ s.pcu.run = .cut) :=
  ⟨toAll [], { headStopped with pcu := PaceUnit.initial }, by and_intros <;> decide⟩

theorem witness_StopAndRateOrders_1 :
    ∃ (f : OrderFrame) (s : State), judgedAt .all f s ∧ f.args = [] ∧ s.pcu.run ≠ .joining ∧ s.pcu.run ≠ .cut :=
  ⟨toAll [], headRunning, by and_intros <;> decide⟩

theorem witness_StopAndRateOrders_2 :
    ∃ (f : OrderFrame) (a : Byte) (b : Byte) (s : State), judgedAt .all f s ∧ f.args = [a, b] :=
  ⟨toAll [0, 0], 0, 0, headRunning, by and_intros <;> decide⟩

theorem witness_BackOrder_0 :
    ∃ (f : OrderFrame) (a : Byte) (b : Byte) (s : State), judgedAt .all f s ∧ f.args = [a, b] ∧ s.pcu.run ≠ .stopped :=
  ⟨toAll [0, 3], 0, 3, headRunning, by and_intros <;> decide⟩

theorem witness_BackOrder_1 :
    ∃ (f : OrderFrame) (a : Byte) (b : Byte) (s : State), judgedAt .all f s ∧ f.args = [a, b] ∧ s.pcu.run = .stopped ∧
      s.pcu.haltSeen = true :=
  ⟨toAll [0, 3], 0, 3, headHalted, by and_intros <;> decide⟩

theorem witness_BackOrder_2 :
    ∃ (f : OrderFrame) (a : Byte) (b : Byte) (s : State), judgedAt .all f s ∧ f.args = [a, b] ∧ s.pcu.run = .stopped ∧
      s.pcu.haltSeen = false ∧ (be16 a b = 0 ∨ 4095 < be16 a b) :=
  ⟨toAll [0, 0], 0, 0, headStopped, by and_intros <;> decide⟩

theorem witness_BackOrder_3 :
    ∃ (f : OrderFrame) (a : Byte) (b : Byte) (s : State), judgedAt .all f s ∧ f.args = [a, b] ∧ s.pcu.run = .stopped ∧
      s.pcu.haltSeen = false ∧ 1 ≤ be16 a b ∧ be16 a b ≤ 4095 ∧ isAxis s = true ∧ s.axu.originValid = false :=
  ⟨toAll [0, 3], 0, 3, axisUnhomed, by and_intros <;> decide⟩

theorem witness_BackOrder_4 :
    ∃ (f : OrderFrame) (a : Byte) (b : Byte) (s : State), judgedAt .all f s ∧ f.args = [a, b] ∧ s.pcu.run = .stopped ∧
      s.pcu.haltSeen = false ∧ 1 ≤ be16 a b ∧ be16 a b ≤ 4095 ∧ (isAxis s = false ∨ s.axu.originValid = true) ∧
      agreementWaiting s = true :=
  ⟨toAll [15, 255], 15, 255, headAgreeing, by and_intros <;> decide⟩

theorem witness_BackOrder_5 :
    ∃ (f : OrderFrame) (a : Byte) (b : Byte) (s : State) (t : Cursor) (lim : Bool), judgedAt .all f s ∧ f.args = [a, b] ∧
      s.pcu.run = .stopped ∧ s.pcu.haltSeen = false ∧ 1 ≤ be16 a b ∧ be16 a b ≤ 4095 ∧ (isAxis s = false ∨ s.axu.originValid
      = true) ∧ agreementWaiting s = false ∧ (backTarget s.drg s.pcu.cursor (be16 a b), false) = (t, lim) ∧ t ≠ s.pcu.cursor
      :=
  ⟨toAll [0, 1], 0, 1, { withRecords [⟨1, 3, 4⟩, ⟨2, 5, 6⟩] headStopped with
      pcu := { headStopped.pcu with cursor := ⟨0, .stroke⟩ } }, ⟨0, .first⟩, false, by and_intros <;> decide⟩

theorem witness_BackOrder_6 :
    ∃ (f : OrderFrame) (a : Byte) (b : Byte) (s : State) (lim : Bool), judgedAt .all f s ∧ f.args = [a, b] ∧ s.pcu.run =
      .stopped ∧ s.pcu.haltSeen = false ∧ 1 ≤ be16 a b ∧ be16 a b ≤ 4095 ∧ (isAxis s = false ∨ s.axu.originValid = true) ∧
      agreementWaiting s = false ∧ (backTarget s.drg s.pcu.cursor (be16 a b), false) = (s.pcu.cursor, lim) :=
  ⟨toAll [0, 1], 0, 1, headStopped, false, by and_intros <;> decide⟩

theorem witness_ForwardOrder_0 :
    ∃ (f : OrderFrame) (a : Byte) (b : Byte) (s : State), judgedAt .all f s ∧ f.args = [a, b] ∧ s.pcu.run ≠ .stopped :=
  ⟨toAll [0, 3], 0, 3, headRunning, by and_intros <;> decide⟩

theorem witness_ForwardOrder_1 :
    ∃ (f : OrderFrame) (a : Byte) (b : Byte) (s : State), judgedAt .all f s ∧ f.args = [a, b] ∧ s.pcu.run = .stopped ∧
      s.pcu.haltSeen = true :=
  ⟨toAll [0, 3], 0, 3, headHalted, by and_intros <;> decide⟩

theorem witness_ForwardOrder_2 :
    ∃ (f : OrderFrame) (a : Byte) (b : Byte) (s : State), judgedAt .all f s ∧ f.args = [a, b] ∧ s.pcu.run = .stopped ∧
      s.pcu.haltSeen = false ∧ (be16 a b = 0 ∨ 4095 < be16 a b) :=
  ⟨toAll [0, 0], 0, 0, headStopped, by and_intros <;> decide⟩

theorem witness_ForwardOrder_3 :
    ∃ (f : OrderFrame) (a : Byte) (b : Byte) (s : State), judgedAt .all f s ∧ f.args = [a, b] ∧ s.pcu.run = .stopped ∧
      s.pcu.haltSeen = false ∧ 1 ≤ be16 a b ∧ be16 a b ≤ 4095 ∧ isAxis s = true ∧ s.axu.originValid = false :=
  ⟨toAll [0, 3], 0, 3, axisUnhomed, by and_intros <;> decide⟩

theorem witness_ForwardOrder_4 :
    ∃ (f : OrderFrame) (a : Byte) (b : Byte) (s : State), judgedAt .all f s ∧ f.args = [a, b] ∧ s.pcu.run = .stopped ∧
      s.pcu.haltSeen = false ∧ 1 ≤ be16 a b ∧ be16 a b ≤ 4095 ∧ (isAxis s = false ∨ s.axu.originValid = true) ∧
      agreementWaiting s = true :=
  ⟨toAll [15, 255], 15, 255, headAgreeing, by and_intros <;> decide⟩

theorem witness_ForwardOrder_5 :
    ∃ (f : OrderFrame) (a : Byte) (b : Byte) (s : State) (t : Cursor) (lim : Bool), judgedAt .all f s ∧ f.args = [a, b] ∧
      s.pcu.run = .stopped ∧ s.pcu.haltSeen = false ∧ 1 ≤ be16 a b ∧ be16 a b ≤ 4095 ∧ (isAxis s = false ∨ s.axu.originValid
      = true) ∧ agreementWaiting s = false ∧ forwardTarget s.drg s.pcu.cursor (be16 a b) = (t, lim) ∧ t ≠ s.pcu.cursor :=
  ⟨toAll [0, 1], 0, 1, withRecords [⟨1, 3, 4⟩, ⟨2, 5, 6⟩] headStopped, ⟨0, .stroke⟩, false, by and_intros <;> decide⟩

theorem witness_ForwardOrder_6 :
    ∃ (f : OrderFrame) (a : Byte) (b : Byte) (s : State) (lim : Bool), judgedAt .all f s ∧ f.args = [a, b] ∧ s.pcu.run =
      .stopped ∧ s.pcu.haltSeen = false ∧ 1 ≤ be16 a b ∧ be16 a b ≤ 4095 ∧ (isAxis s = false ∨ s.axu.originValid = true) ∧
      agreementWaiting s = false ∧ forwardTarget s.drg s.pcu.cursor (be16 a b) = (s.pcu.cursor, lim) :=
  ⟨toAll [0, 1], 0, 1, headStopped, false, by and_intros <;> decide⟩

theorem witness_TraversalTargets_none :
    ∃ (r : Ring) (c : Cursor), ringL r < frontier r c ∨ displacementsIn r r.F (frontier r c) = 0 :=
  ⟨Ring.initial, ⟨0, .first⟩, by decide⟩

theorem witness_TraversalTargets_back :
    ∃ (r : Ring) (c : Cursor), frontier r c ≤ ringL r ∧ 0 < displacementsIn r r.F (frontier r c) :=
  ⟨⟨7, [⟨1, 3, 4⟩], [], 0⟩, ⟨8, .first⟩, by decide⟩

theorem witness_TraversalTargets_forward :
    ∃ (r : Ring) (c : Cursor) (p : Nat), r.F ≤ frontier r c ∧ frontier r c ≤ p ∧ (∀ j < p, frontier r c ≤ j → (ringGet r
      j).any (fun x => !isEnd x) = true) ∧ (ringGet r p).all isEnd = true ∧ 0 < displacementsIn r (frontier r c) p :=
  ⟨⟨7, [⟨1, 3, 4⟩, ⟨6, 0, 0⟩], [], 0⟩, ⟨7, .first⟩, 8, by decide⟩

theorem witness_HomeOrder_0 :
    ∃ (f : OrderFrame) (s : State), judgedAt .axisOnly f s ∧ f.args = [] ∧ (s.pcu.run ≠ .stopped ∨ s.axu.op.isSome = true)
      :=
  ⟨toAll [], { axisStopped with axu := { axisStopped.axu with op := some (.homing 3) } }, by and_intros <;> decide⟩

theorem witness_HomeOrder_1 :
    ∃ (f : OrderFrame) (s : State), judgedAt .axisOnly f s ∧ f.args = [] ∧ s.pcu.run = .stopped ∧ s.axu.op = none ∧
      s.pcu.haltSeen = true ∧ ownHaltAllowsHome (frameTaken f.src s) = false :=
  ⟨toAll [], { axisStopped with pcu := { axisStopped.pcu with haltSeen := true, haltPulse := .running 50 } }, by and_intros
    <;> decide⟩

theorem witness_HomeOrder_2 :
    ∃ (f : OrderFrame) (s : State), judgedAt .axisOnly f s ∧ f.args = [] ∧ s.pcu.run = .stopped ∧ s.axu.op = none ∧
      (s.pcu.haltSeen = false ∨ ownHaltAllowsHome (frameTaken f.src s) = true) :=
  ⟨toAll [], axisUnhomed, by and_intros <;> decide⟩

theorem witness_HomeOrder_3 :
    ∃ (f : OrderFrame) (s : State), judgedAt .axisOnly f s ∧ f.args = [] ∧ s.pcu.run = .stopped ∧ s.axu.op = none ∧
      (s.pcu.haltSeen = false ∨ ownHaltAllowsHome (frameTaken f.src s) = true) :=
  ⟨toAll [], axisUnhomed, by and_intros <;> decide⟩

theorem witness_MovetoOrder_0 :
    ∃ (f : OrderFrame) (a : Byte) (b : Byte) (s : State), judgedAt .axisOnly f s ∧ f.args = [a, b] ∧ (s.pcu.run ≠ .stopped ∨
      s.axu.op.isSome = true) :=
  ⟨toAll [0, 9], 0, 9, { axisStopped with axu := { axisStopped.axu with op := some (.homing 3) } }, by and_intros <;>
    decide⟩

theorem witness_MovetoOrder_1 :
    ∃ (f : OrderFrame) (a : Byte) (b : Byte) (s : State), judgedAt .axisOnly f s ∧ f.args = [a, b] ∧ s.pcu.run = .stopped ∧
      s.axu.op = none ∧ s.pcu.haltSeen = true :=
  ⟨toAll [0, 9], 0, 9, { axisStopped with pcu := { axisStopped.pcu with haltSeen := true } }, by and_intros <;> decide⟩

theorem witness_MovetoOrder_2 :
    ∃ (f : OrderFrame) (a : Byte) (b : Byte) (s : State), judgedAt .axisOnly f s ∧ f.args = [a, b] ∧ s.pcu.run = .stopped ∧
      s.axu.op = none ∧ s.pcu.haltSeen = false ∧ (min s.params.lmax (max (signed16 a b) s.params.lmin)) * s.params.p / 100 =
      s.axu.sPos :=
  ⟨toAll [0, 0], 0, 0, axisStopped, by and_intros <;> decide⟩

theorem witness_MovetoOrder_3 :
    ∃ (f : OrderFrame) (a : Byte) (b : Byte) (s : State), judgedAt .axisOnly f s ∧ f.args = [a, b] ∧ s.pcu.run = .stopped ∧
      s.axu.op = none ∧ s.pcu.haltSeen = false ∧ (min s.params.lmax (max (signed16 a b) s.params.lmin)) * s.params.p / 100 ≠
      s.axu.sPos :=
  ⟨toAll [0xFF, 0xFF], 0xFF, 0xFF, axisStopped, by and_intros <;> decide⟩

theorem witness_OriginOrder_0 :
    ∃ (f : OrderFrame) (s : State), judgedAt .axisOnly f s ∧ f.args = [] ∧ (s.pcu.run ≠ .stopped ∨ s.axu.op.isSome = true)
      :=
  ⟨toAll [], { axisStopped with axu := { axisStopped.axu with op := some (.homing 3) } }, by and_intros <;> decide⟩

theorem witness_OriginOrder_1 :
    ∃ (f : OrderFrame) (s : State), judgedAt .axisOnly f s ∧ f.args = [] ∧ s.pcu.run = .stopped ∧ s.axu.op = none ∧
      s.axu.homing ≠ .homed :=
  ⟨toAll [], axisUnhomed, by and_intros <;> decide⟩

theorem witness_OriginOrder_2 :
    ∃ (f : OrderFrame) (s : State), judgedAt .axisOnly f s ∧ f.args = [] ∧ s.pcu.run = .stopped ∧ s.axu.op = none ∧
      s.axu.homing = .homed :=
  ⟨toAll [], axisStopped, by and_intros <;> decide⟩

theorem witness_SetmapOrder_0 :
    ∃ (f : OrderFrame) (ps : List (Nat × Nat)) (s : State), judgedAt .headOnly f s ∧ parsePairs f.args = some ps ∧ s.pcu.run
      ≠ .stopped :=
  ⟨toAll [3, 4], [(3, 4)], headRunning, by and_intros <;> decide⟩

theorem witness_SetmapOrder_1 :
    ∃ (f : OrderFrame) (ps : List (Nat × Nat)) (s : State), judgedAt .headOnly f s ∧ parsePairs f.args = some ps ∧ s.pcu.run
      = .stopped ∧ (ps = [] ∨ 32 < ps.length ∨ ∃ p ∈ ps, 31 < p.1 ∨ s.params.needles < p.2) :=
  ⟨toAll [], [], headStopped, by and_intros <;> decide⟩

theorem witness_SetmapOrder_2 :
    ∃ (f : OrderFrame) (ps : List (Nat × Nat)) (s : State), judgedAt .headOnly f s ∧ parsePairs f.args = some ps ∧ s.pcu.run
      = .stopped ∧ ps ≠ [] ∧ ps.length ≤ 32 ∧ (∀ p ∈ ps, p.1 ≤ 31 ∧ p.2 ≤ s.params.needles) :=
  ⟨toAll [3, 4, 3, 0], [(3, 4), (3, 0)], headStopped, by and_intros <;> decide⟩

theorem witness_HeadPendingOrders_0 :
    ∃ (f : OrderFrame) (q : SetNeedle) (s : State), judgedAt .headOnly f s ∧ parseSetNeedle f.args = some q ∧ (q.needle = 0
      ∨ s.params.needles < q.needle) :=
  ⟨toAll [0, 1, 1], ⟨0, .disabled, true⟩, headStopped, by and_intros <;> decide⟩

theorem witness_HeadPendingOrders_1 :
    ∃ (f : OrderFrame) (q : SetNeedle) (s : State), judgedAt .headOnly f s ∧ parseSetNeedle f.args = some q ∧ 1 ≤ q.needle ∧
      q.needle ≤ s.params.needles ∧ s.params.needles ≤ 15 :=
  ⟨toAll [12, 1, 1], ⟨12, .disabled, true⟩, headStopped, by and_intros <;> decide⟩

theorem witness_HeadPendingOrders_2 :
    ∃ (f : OrderFrame) (s : State), judgedAt .headOnly f s ∧ f.args = [] :=
  ⟨toAll [], headRunning, by and_intros <;> decide⟩

theorem witness_HeadPendingOrders_3 :
    ∃ (f : OrderFrame) (s : State), judgedAt .headOnly f s ∧ f.args = [] :=
  ⟨toAll [], headRunning, by and_intros <;> decide⟩

theorem witness_BobbinCounter_0 :
    ∃ (f : OrderFrame) (a : Byte) (b : Byte) (c : Byte) (s : State), judgedAt .headOnly f s ∧ f.args = [a, b, c] ∧ be24 a b
      c = 0 :=
  ⟨toAll [0, 0, 0], 0, 0, 0, headRunning, by and_intros <;> decide⟩

theorem witness_BobbinCounter_1 :
    ∃ (f : OrderFrame) (a : Byte) (b : Byte) (c : Byte) (s : State), judgedAt .headOnly f s ∧ f.args = [a, b, c] ∧ be24 a b
      c ≠ 0 :=
  ⟨toAll [0, 0, 1], 0, 0, 1, headRunning, by and_intros <;> decide⟩

theorem witness_BobbinCounter_2 :
    ∃ (t : Nat) (late : Bool) (b : Nat) (s : State), inService s = true ∧ isHead s = true ∧ s.stu.phase = .upstroke ∧
      s.thm.sample = some ⟨t, late⟩ ∧ s.thm.bobbin = some b :=
  ⟨400, false, 50000, (let t : State := { headRunning with
      pcu := { headRunning.pcu with win := .opened, openW := some ⟨.change 0, ⟨4, 7, 0⟩⟩ } }; { t with
      stu := { t.stu with
          phase := .upstroke, needle := 3, strokeLimit := .running 9, tsWait := .running 9, copy := ⟨1, 3, 4⟩ ,
          recNo := 0 },
      thm := { t.thm with lastNeedle := 3 , sample := some ⟨400, false⟩, feed := 7, bobbin := some 50000 } }), by and_intros
    <;> decide⟩

theorem witness_BobbinCounter_3 :
    ∃ (t : Nat) (late : Bool) (s : State), inService s = true ∧ isHead s = true ∧ s.stu.phase = .upstroke ∧ s.thm.sample =
      some ⟨t, late⟩ ∧ s.thm.bobbin = none :=
  ⟨400, false, (let t : State := { headRunning with
      pcu := { headRunning.pcu with win := .opened, openW := some ⟨.change 0, ⟨4, 7, 0⟩⟩ } }; { t with
      stu := { t.stu with
          phase := .upstroke, needle := 3, strokeLimit := .running 9, tsWait := .running 9, copy := ⟨1, 3, 4⟩ ,
          recNo := 0 }, thm := { t.thm with lastNeedle := 3 , sample := some ⟨400, false⟩, feed := 7 } }), by and_intros <;>
    decide⟩

theorem witness_BobbinCounter_4 :
    ∃ (b : Nat) (s : State), inService s = true ∧ s.stu.phase = .sampling ∧ s.thm.conv ≠ .none ∧ s.thm.bobbin = some b :=
  ⟨50000, (let t : State := { headRunning with
      pcu := { headRunning.pcu with win := .opened, openW := some ⟨.change 0, ⟨4, 7, 0⟩⟩ } }; { t with
      stu := { t.stu with
          phase := .sampling, needle := 3, strokeLimit := .running 9, tsWait := .running 9, copy := ⟨1, 3, 4⟩ ,
          recNo := 0 }, thm := { t.thm with lastNeedle := 3 , conv := .late, feed := 7, bobbin := some 50000 } }), by
    and_intros <;> decide⟩

theorem witness_BobbinCounter_5 :
    ∃ (s : State), inService s = true ∧ s.stu.phase = .sampling ∧ s.thm.conv ≠ .none ∧ s.thm.bobbin = none :=
  ⟨(let t : State := { headRunning with
      pcu := { headRunning.pcu with win := .opened, openW := some ⟨.change 0, ⟨4, 7, 0⟩⟩ } }; { t with
      stu := { t.stu with
          phase := .sampling, needle := 3, strokeLimit := .running 9, tsWait := .running 9, copy := ⟨1, 3, 4⟩ ,
          recNo := 0 }, thm := { t.thm with lastNeedle := 3 , conv := .late, feed := 7 } }), by and_intros <;> decide⟩

theorem witness_SetsegOrder_0 :
    ∃ (f : OrderFrame) (q : SetSeg) (s : State), judgedAt .all f s ∧ parseSetSeg f.args = some q ∧ s.pcu.run ≠ .stopped :=
  ⟨toAll [0x2A, 0x17, 7, 0, 0, 0, 3, 1], ⟨0x2A17, 7, 0, 3, true⟩, headRunning, by and_intros <;> decide⟩

theorem witness_SetsegOrder_1 :
    ∃ (f : OrderFrame) (q : SetSeg) (s : State), judgedAt .all f s ∧ parseSetSeg f.args = some q ∧ s.pcu.run = .stopped ∧
      s.dld.state = .lockout :=
  ⟨toAll [0x2A, 0x17, 7, 0, 0, 0, 3, 1], ⟨0x2A17, 7, 0, 3, true⟩, headLocked, by and_intros <;> decide⟩

theorem witness_SetsegOrder_2 :
    ∃ (f : OrderFrame) (q : SetSeg) (s : State), judgedAt .all f s ∧ parseSetSeg f.args = some q ∧ s.pcu.run = .stopped ∧
      s.dld.state ≠ .lockout ∧ 31 < q.base :=
  ⟨toAll [0x2A, 0x17, 7, 0, 0, 0, 32, 1], ⟨0x2A17, 7, 0, 32, true⟩, headStopped, by and_intros <;> decide⟩

theorem witness_SetsegOrder_3 :
    ∃ (f : OrderFrame) (q : SetSeg) (s : State), judgedAt .all f s ∧ parseSetSeg f.args = some q ∧ s.pcu.run = .stopped ∧
      s.dld.state ≠ .lockout ∧ q.base ≤ 31 ∧ q.new = false ∧ s.pcu.cursor.n < q.r :=
  ⟨toAll [0x2A, 0x17, 7, 0, 0, 5, 3, 0], ⟨0x2A17, 7, 5, 3, false⟩, headStopped, by and_intros <;> decide⟩

theorem witness_SetsegOrder_4 :
    ∃ (f : OrderFrame) (q : SetSeg) (s : State), judgedAt .all f s ∧ parseSetSeg f.args = some q ∧ s.pcu.run = .stopped ∧
      s.dld.state ≠ .lockout ∧ q.base ≤ 31 ∧ q.new = false ∧ q.r ≤ s.pcu.cursor.n :=
  ⟨toAll [0x2A, 0x17, 7, 0, 0, 0, 3, 0], ⟨0x2A17, 7, 0, 3, false⟩, headStopped, by and_intros <;> decide⟩

theorem witness_SetsegOrder_5 :
    ∃ (f : OrderFrame) (q : SetSeg) (s : State), judgedAt .all f s ∧ parseSetSeg f.args = some q ∧ s.pcu.run = .stopped ∧
      s.dld.state ≠ .lockout ∧ q.base ≤ 31 ∧ q.new = true :=
  ⟨toAll [0x2A, 0x17, 7, 0, 0, 5, 3, 1], ⟨0x2A17, 7, 5, 3, true⟩, axisStopped, by and_intros <;> decide⟩

theorem witness_ResumeLoadAndSetactionOrders_0 :
    ∃ (f : OrderFrame) (s : State), judgedAt .all f s ∧ f.args = [] ∧ s.pcu.run = .cut :=
  ⟨toAll [], headCut, by and_intros <;> decide⟩

theorem witness_ResumeLoadAndSetactionOrders_1 :
    ∃ (f : OrderFrame) (s : State), judgedAt .all f s ∧ f.args = [] ∧ s.pcu.run ≠ .cut :=
  ⟨toAll [], headLocked, by and_intros <;> decide⟩

theorem witness_ResumeLoadAndSetactionOrders_2 :
    ∃ (f : OrderFrame) (q : FaultCode × Action) (s : State), judgedAt .all f s ∧ parseSetAction f.args = some q :=
  ⟨toAll [14, 1], (.threadBreak, .report), headStopped, by and_intros <;> decide⟩

theorem witness_ClearOrder_0 :
    ∃ (f : OrderFrame) (cs : List FaultCode) (s : State), judgedAt .all f s ∧ parseClear f.args = some (.codes cs) ∧
      .selectorJam ∉ cs ∧ .peerLost ∉ cs :=
  ⟨toAll [14, 8], [.threadBreak, .notHomed], headStopped, by and_intros <;> decide⟩

theorem witness_ClearOrder_1 :
    ∃ (f : OrderFrame) (cs : List FaultCode) (lines : CodeLines) (s : State), judgedAt .all f s ∧ parseClear f.args = some
      (.codes cs) ∧ .selectorJam ∈ cs ∧ (s.slu.sel ≠ .jammed ∨ readCode s.params.needles s.slu.detent lines = none) :=
  ⟨toAll [12], [.selectorJam], 0, headStopped, by and_intros <;> decide⟩

theorem witness_ClearOrder_2 :
    ∃ (f : OrderFrame) (cs : List FaultCode) (lines : CodeLines) (q : Nat) (s : State), judgedAt .all f s ∧ parseClear
      f.args = some (.codes cs) ∧ .selectorJam ∈ cs ∧ .peerLost ∉ cs ∧ s.slu.sel = .jammed ∧ readCode s.params.needles
      s.slu.detent lines = some q :=
  ⟨toAll [12], [.selectorJam], 0xA, 5, { headStopped with slu := { headStopped.slu with sel := .jammed } }, by and_intros
    <;> decide⟩

theorem witness_ClearOrder_3 :
    ∃ (f : OrderFrame) (cs : List FaultCode) (s : State), judgedAt .all f s ∧ parseClear f.args = some (.codes cs) ∧
      .selectorJam ∉ cs ∧ .peerLost ∈ cs ∧ (agreementWaiting s = false ∨ (∀ i : Station, s.ptb.peers[i].presence ≠ .silent)
      ∨ ∃ p ∈ pacingPeers s, p.2.qualified = false) :=
  ⟨toAll [7], [.peerLost], headStopped, by and_intros <;> decide⟩

theorem witness_ClearOrder_3a :
    ∃ (f : OrderFrame) (cs : List FaultCode) (s : State), judgedAt .all f s ∧ parseClear f.args = some (.codes cs) ∧
      .selectorJam ∉ cs ∧ .peerLost ∈ cs ∧ (agreementWaiting s = false ∨ (∀ i : Station, s.ptb.peers[i].presence ≠ .silent)
      ∨ ∃ p ∈ pacingPeers s, p.2.qualified = false) :=
  ⟨toAll [7, 6], [.peerLost, .frameRoster], { headAgreeing with
      ptb := { headAgreeing.ptb with
          peers := (headAgreeing.ptb.peers.set 8 { Peer.initial with presence := .present }).set 9 { Peer.initial with
              presence := .silent } } }, by and_intros <;> decide⟩

theorem witness_ClearOrder_4 :
    ∃ (f : OrderFrame) (cs : List FaultCode) (lines : CodeLines) (q : Nat) (s : State), judgedAt .all f s ∧ parseClear
      f.args = some (.codes cs) ∧ .selectorJam ∈ cs ∧ .peerLost ∈ cs ∧ s.slu.sel = .jammed ∧ readCode s.params.needles
      s.slu.detent lines = some q ∧ (agreementWaiting s = false ∨ (∀ i : Station, s.ptb.peers[i].presence ≠ .silent) ∨ ∃ p ∈
      pacingPeers s, p.2.qualified = false) :=
  ⟨toAll [7, 12], [.peerLost, .selectorJam], 0xA, 5, { headStopped with slu := { headStopped.slu with sel := .jammed } }, by
    and_intros <;> decide⟩

theorem witness_ClearOrder_5 :
    ∃ (f : OrderFrame) (lines : CodeLines) (s : State), judgedAt .all f s ∧ f.args = [0xFF] ∧ (s.slu.sel ≠ .jammed ∨
      readCode s.params.needles s.slu.detent lines = none) ∧ (agreementWaiting s = false ∨ (∀ i : Station,
      s.ptb.peers[i].presence ≠ .silent) ∨ ∃ p ∈ pacingPeers s, p.2.qualified = false) :=
  ⟨toAll [0xFF], 0, headStopped, by and_intros <;> decide⟩

theorem witness_ClearOrder_5a :
    ∃ (f : OrderFrame) (lines : CodeLines) (s : State), judgedAt .all f s ∧ f.args = [0xFF] ∧ (s.slu.sel ≠ .jammed ∨
      readCode s.params.needles s.slu.detent lines = none) ∧ (agreementWaiting s = false ∨ (∀ i : Station,
      s.ptb.peers[i].presence ≠ .silent) ∨ ∃ p ∈ pacingPeers s, p.2.qualified = false) :=
  ⟨toAll [0xFF], 0, { headAgreeing with
      ptb := { headAgreeing.ptb with
          peers := (headAgreeing.ptb.peers.set 8 { Peer.initial with presence := .present }).set 9 { Peer.initial with
              presence := .silent } } }, by and_intros <;> decide⟩

theorem witness_ClearOrder_6 :
    ∃ (f : OrderFrame) (lines : CodeLines) (q : Nat) (s : State), judgedAt .all f s ∧ f.args = [0xFF] ∧ s.slu.sel = .jammed
      ∧ readCode s.params.needles s.slu.detent lines = some q ∧ (agreementWaiting s = false ∨ (∀ i : Station,
      s.ptb.peers[i].presence ≠ .silent) ∨ ∃ p ∈ pacingPeers s, p.2.qualified = false) :=
  ⟨toAll [0xFF], 0xA, 5, { headStopped with slu := { headStopped.slu with sel := .jammed } }, by and_intros <;> decide⟩

theorem witness_SetupOrder_0 :
    ∃ (f : OrderFrame) (es : List SetupEntry) (s : State), judgedAt .all f s ∧ parseEntries f.args = some es ∧ s.pcu.run ≠
      .stopped :=
  ⟨toAll [6, 0, 0, 0, 9], [(6, 9)], headRunning, by and_intros <;> decide⟩

theorem witness_SetupOrder_1 :
    ∃ (f : OrderFrame) (es : List SetupEntry) (s : State), judgedAt .all f s ∧ parseEntries f.args = some es ∧ s.pcu.run =
      .stopped ∧ s.ord.setupOpen = false :=
  ⟨toAll [6, 0, 0, 0, 9], [(6, 9)], headClosed, by and_intros <;> decide⟩

theorem witness_SetupOrder_2 :
    ∃ (f : OrderFrame) (es : List SetupEntry) (s : State), judgedAt .all f s ∧ parseEntries f.args = some es ∧ s.pcu.run =
      .stopped ∧ s.ord.setupOpen = true ∧ (es = [] ∨ (∃ e ∈ es, entryOk e = false) ∨ ¬ (es.map Prod.fst).Nodup) :=
  ⟨toAll [36, 0, 0, 0, 9], [(36, 9)], headStopped, by and_intros <;> decide⟩

theorem witness_SetupOrder_3 :
    ∃ (f : OrderFrame) (es : List SetupEntry) (s : State), judgedAt .all f s ∧ parseEntries f.args = some es ∧ s.pcu.run =
      .stopped ∧ s.ord.setupOpen = true ∧ es ≠ [] ∧ (∀ e ∈ es, entryOk e = true) ∧ (es.map Prod.fst).Nodup ∧ setupConsistent
      (applySetup s.params es) = false :=
  ⟨toAll [10, 0, 0, 0, 9], [(10, 9)], headStopped, by and_intros <;> decide⟩

theorem witness_SetupOrder_4 :
    ∃ (f : OrderFrame) (es : List SetupEntry) (s : State), judgedAt .all f s ∧ parseEntries f.args = some es ∧ s.pcu.run =
      .stopped ∧ s.ord.setupOpen = true ∧ es ≠ [] ∧ (∀ e ∈ es, entryOk e = true) ∧ (es.map Prod.fst).Nodup ∧ setupConsistent
      (applySetup s.params es) = true :=
  ⟨toAll [6, 0, 0, 0, 9], [(6, 9)], headStopped, by and_intros <;> decide⟩

theorem witness_RestartOrder_0 :
    ∃ (f : OrderFrame) (s : State), judgedAt .all f s ∧ f.args = [] :=
  ⟨toAll [], headCut, by and_intros <;> decide⟩

theorem witness_FramesThatOnlyRefresh_unheard :
    ∃ s : State, s.liu.tx.isSome = true ∨ s.liu.framer = .waitIdle :=
  ⟨State.reset, by decide⟩

theorem witness_FramesThatOnlyRefresh_0 :
    ∃ (src : Station) (s : State), hearsFrames s ∧ src ≠ s.number :=
  ⟨8, headStopped, by and_intros <;> decide⟩

theorem witness_FramesThatOnlyRefresh_1 :
    ∃ (src : Station) (s : State), hearsFrames s ∧ src = s.number :=
  ⟨1, headStopped, by and_intros <;> decide⟩

theorem witness_FramesThatOnlyRefresh_2 :
    ∃ (src : Station) (body : List Byte) (s : State), hearsFrames s ∧ (src = s.number ∨ classifyBeacon body = .ageOnly ∨
      (classifyBeacon body = .otherRole ∧ s.ptb.peers[src].presence ≠ .present)) :=
  ⟨8, [8, 1], headStopped, by and_intros <;> decide⟩

theorem witness_FramesThatOnlyRefresh_3 :
    ∃ (src : Station) (body : List Byte) (s : State), hearsFrames s ∧ src ≠ s.number ∧ classifyBeacon body = .otherRole ∧
      s.ptb.peers[src].presence = .present ∧ (agreementWaiting s = false ∨ ∃ p ∈ pacingPeers s, p.1 ≠ src ∧ p.2.qualified =
      false) :=
  ⟨8, (List.replicate 32 3), { headStopped with
      ptb := { headStopped.ptb with
          peers := headStopped.ptb.peers.set 8 { Peer.initial with
              presence := .present, role := .axisX, run := .stopped, age := 20 } } }, by and_intros <;> decide⟩

theorem witness_FramesThatOnlyRefresh_4 :
    ∃ (src : Station) (body : List Byte) (s : State), hearsFrames s ∧ src ≠ s.number ∧ classifyBeacon body = .otherRole ∧
      s.ptb.peers[src].presence = .present ∧ agreementWaiting s = true ∧ (∀ p ∈ pacingPeers s, p.1 ≠ src → p.2.qualified =
      true) :=
  ⟨8, (List.replicate 32 3), { headAgreeing with
      ptb := { headStopped.ptb with
          peers := headStopped.ptb.peers.set 8 { Peer.initial with
              presence := .present, role := .axisX, run := .stopped, age := 20 } } }, by and_intros <;> decide⟩

theorem witness_BeaconBodyReadsBack :
    ∃ s : State, s.pcu.cursor.n < 16777216 ∧ s.pcu.setRate < 65536 ∧ ringL s.drg < 16777217 ∧ s.stu.C < 4294967296 ∧
      s.thm.bobbin.getD 0 < 655360000 ∧ -32768 ≤ s.axu.pf ∧ s.axu.pf ≤ 32767 :=
  ⟨headStopped, by decide⟩

theorem witness_BeaconIsRecorded_0 :
    ∃ (src : Station) (body : List Byte) (v : BeaconView) (s : State), hearsFrames s ∧ src ≠ s.number ∧ classifyBeacon body
      = .pacing v ∧ s.ptb.peers[src].presence = .present ∧ s.ptb.peers[src].role = v.role ∧ (agreementWaiting s = false ∨
      (v.run ≠ .stopped ∧ s.ptb.peers[src].qualified = false) ∨ ∃ p ∈ pacingPeers s, p.1 ≠ src ∧ p.2.qualified = false) :=
  ⟨8, (beaconBody .axisX axisStopped), ⟨.axisX, .stopped, ⟨0, .first⟩, false⟩, { headStopped with
      ptb := { headStopped.ptb with
          peers := headStopped.ptb.peers.set 8 { Peer.initial with
              presence := .present, role := .axisX, run := .stopped, age := 20 } } }, by and_intros <;> decide⟩

theorem witness_BeaconIsRecorded_1 :
    ∃ (src : Station) (body : List Byte) (v : BeaconView) (s : State), hearsFrames s ∧ src ≠ s.number ∧ classifyBeacon body
      = .pacing v ∧ ¬ (s.ptb.peers[src].presence = .present ∧ s.ptb.peers[src].role = v.role) ∧ (agreementWaiting s = false
      ∨ (v.run ≠ .stopped ∧ s.ptb.peers[src].qualified = false) ∨ ∃ p ∈ pacingPeers s, p.1 ≠ src ∧ p.2.qualified = false) :=
  ⟨8, (beaconBody .axisX axisStopped), ⟨.axisX, .stopped, ⟨0, .first⟩, false⟩, headStopped, by and_intros <;> decide⟩

theorem witness_BeaconIsRecorded_2 :
    ∃ (src : Station) (body : List Byte) (v : BeaconView) (s : State), hearsFrames s ∧ src ≠ s.number ∧ classifyBeacon body
      = .pacing v ∧ s.ptb.peers[src].presence = .present ∧ s.ptb.peers[src].role = v.role ∧ agreementWaiting s = true ∧
      (v.run = .stopped ∨ s.ptb.peers[src].qualified = true) ∧ (∀ p ∈ pacingPeers s, p.1 ≠ src → p.2.qualified = true) :=
  ⟨8, (beaconBody .axisX axisStopped), ⟨.axisX, .stopped, ⟨0, .first⟩, false⟩, { headAgreeing with
      ptb := { headStopped.ptb with
          peers := headStopped.ptb.peers.set 8 { Peer.initial with
              presence := .present, role := .axisX, run := .stopped, age := 20 } } }, by and_intros <;> decide⟩

theorem witness_BeaconIsRecorded_3 :
    ∃ (src : Station) (body : List Byte) (v : BeaconView) (s : State), hearsFrames s ∧ src ≠ s.number ∧ classifyBeacon body
      = .pacing v ∧ ¬ (s.ptb.peers[src].presence = .present ∧ s.ptb.peers[src].role = v.role) ∧ agreementWaiting s = true ∧
      (v.run = .stopped ∨ s.ptb.peers[src].qualified = true) ∧ (∀ p ∈ pacingPeers s, p.1 ≠ src → p.2.qualified = true) :=
  ⟨8, (beaconBody .axisX axisStopped), ⟨.axisX, .stopped, ⟨0, .first⟩, false⟩, headAgreeing, by and_intros <;> decide⟩

theorem witness_SilentPeers_0 :
    ∃ (n : Station) (s : State), inService s = true ∧ n = s.number :=
  ⟨1, headStopped, by and_intros <;> decide⟩

theorem witness_SilentPeers_1 :
    ∃ (n : Station) (s : State), inService s = true ∧ n ≠ s.number ∧ s.ptb.peers[n].presence ≠ .present :=
  ⟨8, headStopped, by and_intros <;> decide⟩

theorem witness_SilentPeers_2 :
    ∃ (n : Station) (s : State), inService s = true ∧ n ≠ s.number ∧ s.ptb.peers[n].presence = .present ∧ (agreementWaiting
      s = false ∨ ∃ p ∈ pacingPeers s, p.1 ≠ n ∧ p.2.qualified = false) :=
  ⟨8, { headStopped with
      ptb := { headStopped.ptb with
          peers := headStopped.ptb.peers.set 8 { Peer.initial with
              presence := .present, role := .axisX, run := .stopped, age := 20 } } }, by and_intros <;> decide⟩

theorem witness_SilentPeers_3 :
    ∃ (n : Station) (s : State), inService s = true ∧ n ≠ s.number ∧ s.ptb.peers[n].presence = .present ∧
      s.ptb.peers[n].role = .head ∧ agreementWaiting s = true ∧ (∀ p ∈ pacingPeers s, p.1 ≠ n → p.2.qualified = true) :=
  ⟨8, { headAgreeing with
      ptb := { headStopped.ptb with
          peers := headStopped.ptb.peers.set 8 { Peer.initial with
              presence := .present, role := .head, run := .stopped, age := 20 } } }, by and_intros <;> decide⟩

theorem witness_SilentPeers_4 :
    ∃ (n : Station) (s : State), inService s = true ∧ n ≠ s.number ∧ s.ptb.peers[n].presence = .present ∧
      s.ptb.peers[n].role ≠ .head ∧ agreementWaiting s = true ∧ (∀ p ∈ pacingPeers s, p.1 ≠ n → p.2.qualified = true) :=
  ⟨8, { headAgreeing with
      ptb := { headStopped.ptb with
          peers := headStopped.ptb.peers.set 8 { Peer.initial with
              presence := .present, role := .axisX, run := .stopped, age := 20 } } }, by and_intros <;> decide⟩

theorem witness_AgreementCompletes_0 :
    ∃ (s : State), inService s = true ∧ agreementWaiting s = true ∧ chooseCursor s.pcu.cursor (qualifiedCursors s) =
      s.pcu.cursor :=
  ⟨headAgreeing, by and_intros <;> decide⟩

theorem witness_AgreementCompletes_1 :
    ∃ (c : Cursor) (s : State), inService s = true ∧ agreementWaiting s = true ∧ chooseCursor s.pcu.cursor (qualifiedCursors
      s) = c ∧ c ≠ s.pcu.cursor ∧ s.drg.F ≤ c.n ∧ (isAxis s = false ∨ s.axu.originValid = false) :=
  ⟨⟨0, .first⟩, { headAgreeing with
      pcu := { headAgreeing.pcu with cursor := ⟨1, .first⟩ },
      ptb := { headAgreeing.ptb with
          peers := headAgreeing.ptb.peers.set 8 { Peer.initial with
              presence := .present, role := .axisX, run := .stopped, stopCursor := some ⟨0, .first⟩, qualified := true } }
        }, by and_intros <;> decide⟩

theorem witness_AgreementCompletes_2 :
    ∃ (c : Cursor) (d : Int) (s : State), inService s = true ∧ agreementWaiting s = true ∧ chooseCursor s.pcu.cursor
      (qualifiedCursors s) = c ∧ c ≠ s.pcu.cursor ∧ s.drg.F ≤ c.n ∧ isAxis s = true ∧ s.axu.originValid = true ∧ pcChange
      s.role s.drg s.pcu.cursor c = some d :=
  ⟨⟨0, .first⟩, -3, { withRecords [⟨1, 3, 4⟩] axisStopped with
      pcu := { axisStopped.pcu with cursor := ⟨0, .stroke⟩, agreement := .running 9 },
      ptb := { axisStopped.ptb with
          peers := axisStopped.ptb.peers.set 1 { Peer.initial with
              presence := .present, run := .stopped, stopCursor := some ⟨0, .first⟩, qualified := true } } }, by and_intros
    <;> decide⟩

theorem witness_AgreementCompletes_3 :
    ∃ (c : Cursor) (s : State), inService s = true ∧ agreementWaiting s = true ∧ chooseCursor s.pcu.cursor (qualifiedCursors
      s) = c ∧ c ≠ s.pcu.cursor ∧ s.drg.F ≤ c.n ∧ isAxis s = true ∧ s.axu.originValid = true ∧ pcChange s.role s.drg
      s.pcu.cursor c = none :=
  ⟨⟨0, .first⟩, { axisStopped with
      pcu := { axisStopped.pcu with cursor := ⟨1, .first⟩, agreement := .running 9 },
      ptb := { axisStopped.ptb with
          peers := axisStopped.ptb.peers.set 1 { Peer.initial with
              presence := .present, run := .stopped, stopCursor := some ⟨0, .first⟩, qualified := true } } }, by and_intros
    <;> decide⟩

theorem witness_AgreementCompletes_4 :
    ∃ (c : Cursor) (s : State), inService s = true ∧ agreementWaiting s = true ∧ chooseCursor s.pcu.cursor (qualifiedCursors
      s) = c ∧ c ≠ s.pcu.cursor ∧ c.n < s.drg.F ∧ (isAxis s = false ∨ s.axu.originValid = false) :=
  ⟨⟨3, .first⟩, (let t : State := { headAgreeing with
      ptb := { headAgreeing.ptb with
          peers := headAgreeing.ptb.peers.set 8 { Peer.initial with
              presence := .present, role := .axisX, run := .stopped, stopCursor := some ⟨3, .first⟩, qualified := true } }
        }; { t with pcu := { t.pcu with cursor := ⟨9, .first⟩ }, drg := ⟨7, [⟨3, 0, 0⟩], [], 6⟩ }), by and_intros <;>
    decide⟩

theorem witness_AgreementCompletes_5 :
    ∃ (c : Cursor) (s : State), inService s = true ∧ agreementWaiting s = true ∧ chooseCursor s.pcu.cursor (qualifiedCursors
      s) = c ∧ c ≠ s.pcu.cursor ∧ c.n < s.drg.F ∧ isAxis s = true ∧ s.axu.originValid = true :=
  ⟨⟨6, .stroke⟩, { axisStopped with
      drg := ⟨7, [⟨3, 0, 0⟩], [], 6⟩, pcu := { axisStopped.pcu with cursor := ⟨7, .first⟩, agreement := .running 9 },
      ptb := { axisStopped.ptb with
          peers := axisStopped.ptb.peers.set 1 { Peer.initial with
              presence := .present, run := .stopped, stopCursor := some ⟨6, .stroke⟩, qualified := true } } }, by and_intros
    <;> decide⟩

theorem witness_AgreementCompletes_6 :
    ∃ (c : Cursor) (s : State), inService s = true ∧ agreementWaiting s = true ∧ s.pcu.win = .preparing ∧ s.pcu.run =
      .stopped ∧ s.pcu.traversal = none ∧ chooseCursor s.pcu.cursor (qualifiedCursors s) = c :=
  ⟨⟨0, .first⟩, { headAgreeing with
      pcu := { headAgreeing.pcu with cursor := ⟨1, .first⟩ },
      ptb := { headAgreeing.ptb with
          peers := headAgreeing.ptb.peers.set 8 { Peer.initial with
              presence := .present, role := .axisX, run := .stopped, stopCursor := some ⟨0, .first⟩, qualified := true } }
        }, by and_intros <;> decide⟩

theorem witness_AgreementCompletes_7 :
    ∃ (c : Cursor) (s : State), inService s = true ∧ agreementWaiting s = true ∧ s.pcu.edge = .settled ∧ s.pcu.traversal.map
      Traversal.target ≠ some none ∧ chooseCursor s.pcu.cursor (qualifiedCursors s) = c :=
  ⟨⟨0, .first⟩, { headAgreeing with
      pcu := { headAgreeing.pcu with cursor := ⟨1, .first⟩ },
      ptb := { headAgreeing.ptb with
          peers := headAgreeing.ptb.peers.set 8 { Peer.initial with
              presence := .present, role := .axisX, run := .stopped, stopCursor := some ⟨0, .first⟩, qualified := true } }
        }, by and_intros <;> decide⟩

theorem witness_AgreementCompletes_7a :
    ∃ (c : Cursor) (s : State), inService s = true ∧ agreementWaiting s = true ∧ s.pcu.edge = .settled ∧ s.pcu.traversal.map
      Traversal.target ≠ some none ∧ chooseCursor s.pcu.cursor (qualifiedCursors s) = c ∧ s.pcu.run = .running ∧ c ≠
      s.pcu.cursor :=
  ⟨⟨0, .first⟩, { headAgreeing with
      pcu := { headAgreeing.pcu with run := .running, cursor := ⟨1, .first⟩ },
      ptb := { headAgreeing.ptb with
          peers := headAgreeing.ptb.peers.set 8 { Peer.initial with
              presence := .present, role := .axisX, run := .stopped, stopCursor := some ⟨0, .first⟩, qualified := true } }
        }, by and_intros <;> decide⟩

theorem witness_AgreementCompletes_8 :
    ∃ (r : Rec) (s : State), inService s = true ∧ agreementWaiting s = true ∧ s.pcu.win = .preparing ∧ s.pcu.run = .running
      ∧ chooseCursor s.pcu.cursor (qualifiedCursors s) = s.pcu.cursor ∧ s.pcu.preparePending = true ∧ s.pcu.traversal = none
      ∧ s.pcu.pendingStop = none ∧ s.pcu.haltSeen = false ∧ s.pcu.edge = .settled ∧ roleReady s = true ∧ recAtN s = some r
      :=
  ⟨⟨1, 3, 4⟩, { withRecords [⟨1, 3, 4⟩] headAgreeing with
      pcu := { headAgreeing.pcu with run := .running, preparePending := true } }, by and_intros <;> decide⟩

theorem witness_AgreementCompletes_9 :
    ∃ (d : TravDir) (k : Nat) (e : Bool) (c : Cursor) (t : Cursor) (lim : Bool) (s : State), inService s = true ∧
      agreementWaiting s = true ∧ s.pcu.win = .preparing ∧ isTraversing s.pcu.run ∧ s.pcu.traversal = some ⟨d, k, none, e⟩ ∧
      chooseCursor s.pcu.cursor (qualifiedCursors s) = c ∧ (if d = .back then (backTarget (chosenRing c s) c k, false) else
      forwardTarget (chosenRing c s) c k) = (t, lim) ∧ t ≠ c ∧ s.pcu.edge = .settled :=
  ⟨.forward, 1, false, ⟨0, .first⟩, ⟨1, .first⟩, false, { withRecords [⟨2, 3, 4⟩] headAgreeing with
      pcu := { headAgreeing.pcu with run := .traversingForward, traversal := some ⟨.forward, 1, none, false⟩ } }, by
    and_intros <;> decide⟩

theorem witness_AgreementCompletes_10 :
    ∃ (d : TravDir) (k : Nat) (e : Bool) (c : Cursor) (t : Cursor) (lim : Bool) (s : State), inService s = true ∧
      agreementWaiting s = true ∧ s.pcu.win = .preparing ∧ isTraversing s.pcu.run ∧ s.pcu.traversal = some ⟨d, k, none, e⟩ ∧
      chooseCursor s.pcu.cursor (qualifiedCursors s) = c ∧ (if d = .back then (backTarget (chosenRing c s) c k, false) else
      forwardTarget (chosenRing c s) c k) = (t, lim) ∧ t ≠ c :=
  ⟨.forward, 1, false, ⟨0, .first⟩, ⟨1, .first⟩, false, { withRecords [⟨2, 3, 4⟩] headAgreeing with
      pcu := { headAgreeing.pcu with run := .traversingForward, traversal := some ⟨.forward, 1, none, false⟩ } }, by
    and_intros <;> decide⟩

theorem witness_AgreementCompletes_11 :
    ∃ (d : TravDir) (k : Nat) (e : Bool) (c : Cursor) (t : Cursor) (lim : Bool) (s : State), inService s = true ∧
      agreementWaiting s = true ∧ s.pcu.win = .preparing ∧ isTraversing s.pcu.run ∧ s.pcu.traversal = some ⟨d, k, none, e⟩ ∧
      chooseCursor s.pcu.cursor (qualifiedCursors s) = c ∧ (if d = .back then (backTarget (chosenRing c s) c k, false) else
      forwardTarget (chosenRing c s) c k) = (t, lim) ∧ t = c :=
  ⟨.back, 1, false, ⟨0, .first⟩, ⟨0, .first⟩, false, { headAgreeing with
      pcu := { headAgreeing.pcu with run := .traversingBack, traversal := some ⟨.back, 1, none, false⟩ } }, by and_intros
    <;> decide⟩

theorem witness_CommandedPositionFollowsCursor :
    ∃ (role : Option Role) (r : Ring) (old new : Cursor), pcChange role r old new = some 14 :=
  ⟨some .axisX, ⟨900, [⟨1, 14, 0xF7⟩], [], 0⟩, ⟨900, .first⟩, ⟨900, .stroke⟩, by decide⟩

theorem witness_RetentionFollowsCursor :
    ∃ (c : Cursor) (s : State), s.drg.recs.length ≤ Config.ringPlaces ∧ s.drg.trail = colorEntries s.drg.F s.drg.recs ∧
      recordsInvalid s.drg.F s.drg.recs = none ∧ s.drg.base ≤ 31 ∧ ringL s.drg ≤ Config.maxRecord + 1 ∧ c.n ≠ s.pcu.cursor.n
      :=
  ⟨⟨1, .first⟩, withRecords [⟨4, 7, 0⟩, ⟨2, 5, 5⟩] headStopped, by decide⟩

theorem witness_SegmentNumberBands :
    ∃ pw nw : Nat, 1 ≤ pw ∧ pw ≤ 255 ∧ nw ≤ 255 ∧ pw + nw ≤ 256 :=
  ⟨1, 255, by decide⟩

theorem witness_SegmentsAreAppended_0 :
    ∃ (body : List Byte) (seg : Segment) (s : State), hearsFrames s ∧ s.pcu.run ≠ .cut ∧ parseSegment body = some seg ∧
      seg.designId = s.dld.designId ∧ seg.number = s.dld.v ∧ seg.r0 = ringL s.drg ∧ segmentInvalid seg.r0 seg.records = none
      ∧ s.dld.state = .opened ∧ s.drg.trail.length + colorCount seg.records ≤ 64 ∧ seg.records.length ≤ ringRoom s.drg ∧
      (s.pcu.win ≠ .preparing ∨ isMoving s.pcu.run = false ∨ s.pcu.pendingStop ≠ none ∨ s.pcu.haltSeen = true ∨
      agreementWaiting s = true ∨ s.pcu.edge ≠ .settled ∨ roleReady s = false) ∧ (s.pcu.win = .opened → s.pcu.edge ≠
      .settled ∨ workInFlight s = true) ∧ ringForm s.drg :=
  ⟨[0, 0, 0, 0, 0, 0, 2, 1, 3, 4, 4, 7, 0], ⟨0, 0, 0, [⟨1, 3, 4⟩, ⟨4, 7, 0⟩]⟩, headStopped, by and_intros <;> decide⟩

theorem witness_SegmentsAreAppended_0a :
    ∃ (body : List Byte) (seg : Segment) (s : State), hearsFrames s ∧ s.pcu.run ≠ .cut ∧ parseSegment body = some seg ∧
      seg.designId = s.dld.designId ∧ seg.number = s.dld.v ∧ seg.r0 = ringL s.drg ∧ segmentInvalid seg.r0 seg.records = none
      ∧ s.dld.state = .opened ∧ s.drg.trail.length + colorCount seg.records ≤ 64 ∧ seg.records.length ≤ ringRoom s.drg ∧
      (s.pcu.win ≠ .preparing ∨ isMoving s.pcu.run = false ∨ s.pcu.pendingStop ≠ none ∨ s.pcu.haltSeen = true ∨
      agreementWaiting s = true ∨ s.pcu.edge ≠ .settled ∨ roleReady s = false) ∧ (s.pcu.win = .opened → s.pcu.edge ≠
      .settled ∨ workInFlight s = true) ∧ ringForm s.drg :=
  ⟨[0, 0, 0, 0, 0, 0, 1, 1, 3, 4], ⟨0, 0, 0, [⟨1, 3, 4⟩]⟩, { headStopped with
      pcu := { PaceUnit.initial with listen := .running 9 } }, by and_intros <;> decide⟩

theorem witness_SegmentsAreAppended_0b :
    ∃ (body : List Byte) (seg : Segment) (s : State), hearsFrames s ∧ s.pcu.run ≠ .cut ∧ parseSegment body = some seg ∧
      seg.designId = s.dld.designId ∧ seg.number = s.dld.v ∧ seg.r0 = ringL s.drg ∧ segmentInvalid seg.r0 seg.records = none
      ∧ s.dld.state = .opened ∧ s.drg.trail.length + colorCount seg.records ≤ 64 ∧ seg.records.length ≤ ringRoom s.drg ∧
      (s.pcu.win ≠ .preparing ∨ isMoving s.pcu.run = false ∨ s.pcu.pendingStop ≠ none ∨ s.pcu.haltSeen = true ∨
      agreementWaiting s = true ∨ s.pcu.edge ≠ .settled ∨ roleReady s = false) ∧ (s.pcu.win = .opened → s.pcu.edge ≠
      .settled ∨ workInFlight s = true) ∧ ringForm s.drg :=
  ⟨[0, 0, 0, 0, 0, 0, 1, 1, 3, 4], ⟨0, 0, 0, [⟨1, 3, 4⟩]⟩, { headRunning with
      pcu := { headRunning.pcu with win := .opened, edge := .inGuard, openW := some ⟨.trim 0, ⟨3, 0, 0⟩⟩ } }, by and_intros
    <;> decide⟩

theorem witness_SegmentsAreAppended_0c :
    ∃ (body : List Byte) (seg : Segment) (s : State), hearsFrames s ∧ s.pcu.run ≠ .cut ∧ parseSegment body = some seg ∧
      seg.designId = s.dld.designId ∧ seg.number = s.dld.v ∧ seg.r0 = ringL s.drg ∧ segmentInvalid seg.r0 seg.records = none
      ∧ s.dld.state = .opened ∧ s.drg.trail.length + colorCount seg.records ≤ 64 ∧ seg.records.length ≤ ringRoom s.drg ∧
      (s.pcu.win ≠ .preparing ∨ isMoving s.pcu.run = false ∨ s.pcu.pendingStop ≠ none ∨ s.pcu.haltSeen = true ∨
      agreementWaiting s = true ∨ s.pcu.edge ≠ .settled ∨ roleReady s = false) ∧ (s.pcu.win = .opened → s.pcu.edge ≠
      .settled ∨ workInFlight s = true) ∧ ringForm s.drg :=
  ⟨[0, 0, 0, 0, 0, 0, 1, 1, 3, 4], ⟨0, 0, 0, [⟨1, 3, 4⟩]⟩, { headRunning with
      pcu := { headRunning.pcu with
          run := .traversingForward, traversal := some ⟨.forward, 1, none, false⟩, agreement := .running 9 } }, by
    and_intros <;> decide⟩

theorem witness_SegmentsAreAppended_1 :
    ∃ (body : List Byte) (seg : Segment) (s : State) (r : Rec), hearsFrames s ∧ s.pcu.run ≠ .cut ∧ parseSegment body = some
      seg ∧ seg.designId = s.dld.designId ∧ seg.number = s.dld.v ∧ seg.r0 = ringL s.drg ∧ segmentInvalid seg.r0 seg.records
      = none ∧ s.dld.state = .opened ∧ s.drg.trail.length + colorCount seg.records ≤ 64 ∧ seg.records.length ≤ ringRoom
      s.drg ∧ s.pcu.win = .preparing ∧ s.pcu.pendingStop = none ∧ agreementWaiting s = false ∧ s.pcu.edge = .settled ∧
      roleReady s = true ∧ s.pcu.haltSeen = false ∧ s.pcu.run = .running ∧ s.pcu.preparePending = true ∧ ringL s.drg ≤
      s.pcu.cursor.n ∧ seg.records[s.pcu.cursor.n - ringL s.drg]? = some r :=
  ⟨[0, 0, 0, 0, 0, 0, 1, 1, 3, 4], ⟨0, 0, 0, [⟨1, 3, 4⟩]⟩, { headRunning with
      pcu := { headRunning.pcu with preparePending := true } }, ⟨1, 3, 4⟩, by and_intros <;> decide⟩

theorem witness_SegmentsAreAppended_2 :
    ∃ (body : List Byte) (seg : Segment) (s : State) (r : Rec) (k : Window), hearsFrames s ∧ s.pcu.run ≠ .cut ∧ parseSegment
      body = some seg ∧ seg.designId = s.dld.designId ∧ seg.number = s.dld.v ∧ seg.r0 = ringL s.drg ∧ segmentInvalid seg.r0
      seg.records = none ∧ s.dld.state = .opened ∧ s.drg.trail.length + colorCount seg.records ≤ 64 ∧ seg.records.length ≤
      ringRoom s.drg ∧ s.pcu.win = .preparing ∧ s.pcu.pendingStop = none ∧ agreementWaiting s = false ∧ s.pcu.edge =
      .settled ∧ roleReady s = true ∧ s.pcu.haltSeen = false ∧ s.pcu.run = .running ∧ s.pcu.preparePending = false ∧ ringL
      s.drg ≤ s.pcu.cursor.n ∧ seg.records[s.pcu.cursor.n - ringL s.drg]? = some r ∧ (if r.kind = 1 then (if
      s.pcu.cursor.step = .first then some (Window.move s.pcu.cursor.n) else some (.stroke s.pcu.cursor.n)) else if r.kind =
      2 then some (.move s.pcu.cursor.n) else if r.kind = 3 then some (.trim s.pcu.cursor.n) else if r.kind = 4 then some
      (.change s.pcu.cursor.n) else none) = some k :=
  ⟨[0, 0, 0, 0, 0, 0, 1, 3, 0, 0], ⟨0, 0, 0, [⟨3, 0, 0⟩]⟩, headRunning, ⟨3, 0, 0⟩, .trim 0, by and_intros <;> decide⟩

theorem witness_SegmentsAreAppended_3 :
    ∃ (body : List Byte) (seg : Segment) (s : State) (r : Rec), hearsFrames s ∧ s.pcu.run ≠ .cut ∧ parseSegment body = some
      seg ∧ seg.designId = s.dld.designId ∧ seg.number = s.dld.v ∧ seg.r0 = ringL s.drg ∧ segmentInvalid seg.r0 seg.records
      = none ∧ s.dld.state = .opened ∧ s.drg.trail.length + colorCount seg.records ≤ 64 ∧ seg.records.length ≤ ringRoom
      s.drg ∧ s.pcu.win = .preparing ∧ s.pcu.pendingStop = none ∧ agreementWaiting s = false ∧ s.pcu.edge = .settled ∧
      roleReady s = true ∧ s.pcu.haltSeen = false ∧ s.pcu.run = .running ∧ s.pcu.preparePending = false ∧ ringL s.drg ≤
      s.pcu.cursor.n ∧ seg.records[s.pcu.cursor.n - ringL s.drg]? = some r ∧ r.kind = 5 :=
  ⟨[0, 0, 0, 0, 0, 0, 1, 5, 0, 0], ⟨0, 0, 0, [⟨5, 0, 0⟩]⟩, headRunning, ⟨5, 0, 0⟩, by and_intros <;> decide⟩

theorem witness_SegmentsAreAppended_4 :
    ∃ (body : List Byte) (seg : Segment) (s : State) (r : Rec), hearsFrames s ∧ s.pcu.run ≠ .cut ∧ parseSegment body = some
      seg ∧ seg.designId = s.dld.designId ∧ seg.number = s.dld.v ∧ seg.r0 = ringL s.drg ∧ segmentInvalid seg.r0 seg.records
      = none ∧ s.dld.state = .opened ∧ s.drg.trail.length + colorCount seg.records ≤ 64 ∧ seg.records.length ≤ ringRoom
      s.drg ∧ s.pcu.win = .preparing ∧ s.pcu.pendingStop = none ∧ agreementWaiting s = false ∧ s.pcu.edge = .settled ∧
      roleReady s = true ∧ s.pcu.haltSeen = false ∧ s.pcu.run = .running ∧ s.pcu.preparePending = false ∧ ringL s.drg ≤
      s.pcu.cursor.n ∧ seg.records[s.pcu.cursor.n - ringL s.drg]? = some r ∧ r.kind = 6 :=
  ⟨[0, 0, 0, 0, 0, 0, 1, 6, 0, 0], ⟨0, 0, 0, [⟨6, 0, 0⟩]⟩, headRunning, ⟨6, 0, 0⟩, by and_intros <;> decide⟩

theorem witness_SegmentsAreAppended_5 :
    ∃ (body : List Byte) (seg : Segment) (s : State), hearsFrames s ∧ s.pcu.run ≠ .cut ∧ parseSegment body = some seg ∧
      seg.designId = s.dld.designId ∧ seg.number = s.dld.v ∧ seg.r0 = ringL s.drg ∧ segmentInvalid seg.r0 seg.records = none
      ∧ s.dld.state = .opened ∧ s.drg.trail.length + colorCount seg.records ≤ 64 ∧ seg.records.length ≤ ringRoom s.drg ∧
      s.pcu.win = .preparing ∧ s.pcu.pendingStop = none ∧ agreementWaiting s = false ∧ s.pcu.edge = .settled ∧ roleReady s =
      true ∧ s.pcu.haltSeen = false ∧ s.pcu.run = .running ∧ ringL s.drg + seg.records.length ≤ s.pcu.cursor.n :=
  ⟨[0, 0, 0, 0, 0, 0, 1, 3, 0, 0], ⟨0, 0, 0, [⟨3, 0, 0⟩]⟩, { headRunning with
      pcu := { headRunning.pcu with cursor := ⟨5, .first⟩ } }, by and_intros <;> decide⟩

theorem witness_SegmentsAreAppended_6 :
    ∃ (body : List Byte) (seg : Segment) (s : State) (tv : Traversal), hearsFrames s ∧ s.pcu.run ≠ .cut ∧ parseSegment body
      = some seg ∧ seg.designId = s.dld.designId ∧ seg.number = s.dld.v ∧ seg.r0 = ringL s.drg ∧ segmentInvalid seg.r0
      seg.records = none ∧ s.dld.state = .opened ∧ s.drg.trail.length + colorCount seg.records ≤ 64 ∧ seg.records.length ≤
      ringRoom s.drg ∧ s.pcu.win = .preparing ∧ s.pcu.pendingStop = none ∧ agreementWaiting s = false ∧ s.pcu.edge =
      .settled ∧ roleReady s = true ∧ s.pcu.haltSeen = false ∧ isTraversing s.pcu.run ∧ s.pcu.traversal = some tv :=
  ⟨[0, 0, 0, 0, 0, 0, 1, 2, 3, 4], ⟨0, 0, 0, [⟨2, 3, 4⟩]⟩, { headRunning with
      pcu := { headRunning.pcu with run := .traversingForward, traversal := some ⟨.forward, 1, some ⟨1, .first⟩, false⟩ } },
    ⟨.forward, 1, some ⟨1, .first⟩, false⟩, by and_intros <;> decide⟩

theorem witness_SegmentValidity_over :
    ∃ (r0 : Nat) (rs : List Rec), 16777216 < r0 + rs.length :=
  ⟨16777215, [⟨6, 0, 0⟩, ⟨6, 0, 0⟩], by decide⟩

theorem witness_SegmentValidity_last :
    ∃ (r0 : Nat) (rs : List Rec), r0 + rs.length ≤ 16777216 ∧ segmentInvalid r0 rs = none :=
  ⟨16777215, [⟨6, 0, 0⟩], by decide⟩

theorem witness_SegmentsDiscardedOrLockedOut_0 :
    ∃ (body : List Byte) (s : State), hearsFrames s ∧ (s.pcu.run = .cut ∨ parseSegment body = none ∨ s.dld.state = .lockout)
      :=
  ⟨[0, 0, 0, 0, 0, 0, 0], headStopped, by and_intros <;> decide⟩

theorem witness_SegmentsDiscardedOrLockedOut_1 :
    ∃ (body : List Byte) (seg : Segment) (s : State), hearsFrames s ∧ parseSegment body = some seg ∧ (seg.designId ≠
      s.dld.designId ∨ bandOf s.params.pw s.params.nw s.dld.v seg.number = .negative ∨ (bandOf s.params.pw s.params.nw
      s.dld.v seg.number = .positive ∧ s.dld.state = .wait) ∨ (seg.number = s.dld.v ∧ seg.r0 = ringL s.drg ∧ segmentInvalid
      seg.r0 seg.records = none ∧ s.dld.state = .wait)) :=
  ⟨[0, 0, 255, 0, 0, 0, 1, 3, 0, 0], ⟨0, 255, 0, [⟨3, 0, 0⟩]⟩, headStopped, by and_intros <;> decide⟩

theorem witness_SegmentsDiscardedOrLockedOut_2 :
    ∃ (body : List Byte) (seg : Segment) (s : State), hearsFrames s ∧ s.pcu.run ≠ .cut ∧ parseSegment body = some seg ∧
      seg.designId = s.dld.designId ∧ bandOf s.params.pw s.params.nw s.dld.v seg.number = .positive ∧ s.dld.state = .opened
      :=
  ⟨[0, 0, 7, 0, 0, 0, 1, 3, 0, 0], ⟨0, 7, 0, [⟨3, 0, 0⟩]⟩, headStopped, by and_intros <;> decide⟩

theorem witness_SegmentsDiscardedOrLockedOut_3 :
    ∃ (body : List Byte) (seg : Segment) (s : State) (reason : LockReason), hearsFrames s ∧ s.pcu.run ≠ .cut ∧ parseSegment
      body = some seg ∧ seg.designId = s.dld.designId ∧ s.dld.state ≠ .lockout ∧ (if bandOf s.params.pw s.params.nw s.dld.v
      seg.number = .outside then some LockReason.window else if seg.number ≠ s.dld.v then none else if seg.r0 ≠ ringL s.drg
      then some .gap else segmentInvalid seg.r0 seg.records) = some reason :=
  ⟨[0, 0, 0, 0, 0, 9, 1, 3, 0, 0], ⟨0, 0, 9, [⟨3, 0, 0⟩]⟩, headStopped, .gap, by and_intros <;> decide⟩

theorem witness_SegmentsDiscardedOrLockedOut_3a :
    ∃ (body : List Byte) (seg : Segment) (s : State) (reason : LockReason), hearsFrames s ∧ s.pcu.run ≠ .cut ∧ parseSegment
      body = some seg ∧ seg.designId = s.dld.designId ∧ s.dld.state ≠ .lockout ∧ (if bandOf s.params.pw s.params.nw s.dld.v
      seg.number = .outside then some LockReason.window else if seg.number ≠ s.dld.v then none else if seg.r0 ≠ ringL s.drg
      then some .gap else segmentInvalid seg.r0 seg.records) = some reason :=
  ⟨[0, 0, 100, 0, 0, 0, 1, 3, 0, 0], ⟨0, 100, 0, [⟨3, 0, 0⟩]⟩, headStopped, .window, by and_intros <;> decide⟩

theorem witness_SegmentsDiscardedOrLockedOut_3b :
    ∃ (body : List Byte) (seg : Segment) (s : State) (reason : LockReason), hearsFrames s ∧ s.pcu.run ≠ .cut ∧ parseSegment
      body = some seg ∧ seg.designId = s.dld.designId ∧ s.dld.state ≠ .lockout ∧ (if bandOf s.params.pw s.params.nw s.dld.v
      seg.number = .outside then some LockReason.window else if seg.number ≠ s.dld.v then none else if seg.r0 ≠ ringL s.drg
      then some .gap else segmentInvalid seg.r0 seg.records) = some reason :=
  ⟨[0, 0, 0, 0, 0, 0, 2, 3, 0, 0, 9, 0, 0], ⟨0, 0, 0, [⟨3, 0, 0⟩, ⟨9, 0, 0⟩]⟩, headStopped, .badRecord, by and_intros <;>
    decide⟩

theorem witness_SegmentsDiscardedOrLockedOut_3c :
    ∃ (body : List Byte) (seg : Segment) (s : State) (reason : LockReason), hearsFrames s ∧ s.pcu.run ≠ .cut ∧ parseSegment
      body = some seg ∧ seg.designId = s.dld.designId ∧ s.dld.state ≠ .lockout ∧ (if bandOf s.params.pw s.params.nw s.dld.v
      seg.number = .outside then some LockReason.window else if seg.number ≠ s.dld.v then none else if seg.r0 ≠ ringL s.drg
      then some .gap else segmentInvalid seg.r0 seg.records) = some reason :=
  ⟨[0, 0, 0, 0, 0, 0, 1, 4, 32, 0], ⟨0, 0, 0, [⟨4, 32, 0⟩]⟩, headStopped, .badRecord, by and_intros <;> decide⟩

theorem witness_SegmentsDiscardedOrLockedOut_3d :
    ∃ (body : List Byte) (seg : Segment) (s : State) (reason : LockReason), hearsFrames s ∧ s.pcu.run ≠ .cut ∧ parseSegment
      body = some seg ∧ seg.designId = s.dld.designId ∧ s.dld.state ≠ .lockout ∧ (if bandOf s.params.pw s.params.nw s.dld.v
      seg.number = .outside then some LockReason.window else if seg.number ≠ s.dld.v then none else if seg.r0 ≠ ringL s.drg
      then some .gap else segmentInvalid seg.r0 seg.records) = some reason :=
  ⟨[0, 0, 0, 255, 255, 255, 1, 3, 0, 0], ⟨0, 0, 16777215, [⟨3, 0, 0⟩]⟩, { headStopped with drg := ⟨16777215, [], [], 0⟩ },
    .range, by and_intros <;> decide⟩

theorem witness_SegmentsDiscardedOrLockedOut_3e :
    ∃ (body : List Byte) (seg : Segment) (s : State) (reason : LockReason), hearsFrames s ∧ s.pcu.run ≠ .cut ∧ parseSegment
      body = some seg ∧ seg.designId = s.dld.designId ∧ s.dld.state ≠ .lockout ∧ (if bandOf s.params.pw s.params.nw s.dld.v
      seg.number = .outside then some LockReason.window else if seg.number ≠ s.dld.v then none else if seg.r0 ≠ ringL s.drg
      then some .gap else segmentInvalid seg.r0 seg.records) = some reason :=
  ⟨[0, 0, 0, 255, 255, 255, 2, 6, 0, 0, 6, 0, 0], ⟨0, 0, 16777215, [⟨6, 0, 0⟩, ⟨6, 0, 0⟩]⟩, { headStopped with
      drg := ⟨16777215, [], [], 0⟩ }, .range, by and_intros <;> decide⟩

theorem witness_SegmentsDiscardedOrLockedOut_3f :
    ∃ (body : List Byte) (seg : Segment) (s : State) (reason : LockReason), hearsFrames s ∧ s.pcu.run ≠ .cut ∧ parseSegment
      body = some seg ∧ seg.designId = s.dld.designId ∧ s.dld.state ≠ .lockout ∧ (if bandOf s.params.pw s.params.nw s.dld.v
      seg.number = .outside then some LockReason.window else if seg.number ≠ s.dld.v then none else if seg.r0 ≠ ringL s.drg
      then some .gap else segmentInvalid seg.r0 seg.records) = some reason :=
  ⟨[0, 0, 0, 255, 255, 255, 1, 9, 0, 0], ⟨0, 0, 16777215, [⟨9, 0, 0⟩]⟩, { headStopped with drg := ⟨16777215, [], [], 0⟩ },
    .badRecord, by and_intros <;> decide⟩

theorem witness_SegmentsThatDoNotFit_0 :
    ∃ (body : List Byte) (seg : Segment) (s : State), hearsFrames s ∧ s.pcu.run ≠ .cut ∧ parseSegment body = some seg ∧
      seg.designId = s.dld.designId ∧ seg.number = s.dld.v ∧ seg.r0 = ringL s.drg ∧ segmentInvalid seg.r0 seg.records = none
      ∧ s.dld.state = .opened ∧ s.drg.trail.length + colorCount seg.records ≤ 64 ∧ ringRoom s.drg < seg.records.length ∧
      s.pcu.cursor.n < ringL s.drg :=
  ⟨[0, 0, 0, 0, 15, 255, 2, 3, 0, 0, 3, 0, 0], ⟨0, 0, 4095, [⟨3, 0, 0⟩, ⟨3, 0, 0⟩]⟩, { headStopped with
      drg := ⟨0, List.replicate 4095 ⟨1, 3, 4⟩, [], 0⟩ }, by and_intros <;> decide +kernel⟩

theorem witness_SegmentsThatDoNotFit_1 :
    ∃ (body : List Byte) (seg : Segment) (s : State), hearsFrames s ∧ s.pcu.run ≠ .cut ∧ parseSegment body = some seg ∧
      seg.designId = s.dld.designId ∧ seg.number = s.dld.v ∧ seg.r0 = ringL s.drg ∧ segmentInvalid seg.r0 seg.records = none
      ∧ s.dld.state = .opened ∧ s.drg.trail.length + colorCount seg.records ≤ 64 ∧ ringRoom s.drg < seg.records.length ∧
      ringL s.drg ≤ s.pcu.cursor.n ∧ ringForm s.drg ∧ seg.records.length ≤ 64 :=
  ⟨[0, 0, 0, 0, 15, 255, 2, 3, 0, 0, 3, 0, 0], ⟨0, 0, 4095, [⟨3, 0, 0⟩, ⟨3, 0, 0⟩]⟩, { headStopped with
      drg := ⟨0, List.replicate 4095 ⟨1, 3, 4⟩, [], 0⟩, pcu := { headStopped.pcu with cursor := ⟨4095, .first⟩ } }, by
    and_intros <;> decide +kernel⟩

theorem witness_SegmentsThatDoNotFit_2 :
    ∃ (body : List Byte) (seg : Segment) (s : State) (e : Nat × Nat), hearsFrames s ∧ s.pcu.run ≠ .cut ∧ parseSegment body =
      some seg ∧ seg.designId = s.dld.designId ∧ seg.number = s.dld.v ∧ seg.r0 = ringL s.drg ∧ segmentInvalid seg.r0
      seg.records = none ∧ s.dld.state = .opened ∧ 64 < s.drg.trail.length + colorCount seg.records ∧
      s.drg.trail[s.drg.trail.length + colorCount seg.records - 65]? = some e ∧ s.pcu.cursor.n ≤ e.1 ∧ s.pcu.cursor.n <
      ringL s.drg ∧ ringForm s.drg :=
  ⟨[0, 0, 0, 0, 0, 64, 1, 4, 9, 0], ⟨0, 0, 64, [⟨4, 9, 0⟩]⟩, (let t : State := headStopped; { t with
      pcu := { t.pcu with cursor := ⟨0, .first⟩ },
      drg := ⟨0, List.replicate 64 ⟨4, 7, 0⟩, colorEntries 0 (List.replicate 64 ⟨4, 7, 0⟩), 0⟩ }), (0, 7), by and_intros <;>
    decide⟩

theorem witness_SegmentsThatDoNotFit_3 :
    ∃ (body : List Byte) (seg : Segment) (s : State) (e : Nat × Nat), hearsFrames s ∧ s.pcu.run ≠ .cut ∧ parseSegment body =
      some seg ∧ seg.designId = s.dld.designId ∧ seg.number = s.dld.v ∧ seg.r0 = ringL s.drg ∧ segmentInvalid seg.r0
      seg.records = none ∧ s.dld.state = .opened ∧ 64 < s.drg.trail.length + colorCount seg.records ∧
      s.drg.trail[s.drg.trail.length + colorCount seg.records - 65]? = some e ∧ e.1 < s.pcu.cursor.n ∧ ringForm s.drg ∧
      seg.records.length + ringL s.drg ≤ 4096 + (e.1 + 1) ∧ (s.pcu.win ≠ .preparing ∨ isMoving s.pcu.run = false ∨
      s.pcu.pendingStop ≠ none ∨ s.pcu.haltSeen = true ∨ agreementWaiting s = true ∨ s.pcu.edge ≠ .settled ∨ roleReady s =
      false) ∧ (s.pcu.win = .opened → s.pcu.edge ≠ .settled ∨ workInFlight s = true) :=
  ⟨[0, 0, 0, 0, 0, 64, 1, 4, 9, 0], ⟨0, 0, 64, [⟨4, 9, 0⟩]⟩, (let t : State := headStopped; { t with
      pcu := { t.pcu with cursor := ⟨1, .first⟩ },
      drg := ⟨0, List.replicate 64 ⟨4, 7, 0⟩, colorEntries 0 (List.replicate 64 ⟨4, 7, 0⟩), 0⟩ }), (0, 7), by and_intros <;>
    decide⟩

theorem witness_SegmentsThatDoNotFit_3a :
    ∃ (body : List Byte) (seg : Segment) (s : State) (e : Nat × Nat), hearsFrames s ∧ s.pcu.run ≠ .cut ∧ parseSegment body =
      some seg ∧ seg.designId = s.dld.designId ∧ seg.number = s.dld.v ∧ seg.r0 = ringL s.drg ∧ segmentInvalid seg.r0
      seg.records = none ∧ s.dld.state = .opened ∧ 64 < s.drg.trail.length + colorCount seg.records ∧
      s.drg.trail[s.drg.trail.length + colorCount seg.records - 65]? = some e ∧ e.1 < s.pcu.cursor.n ∧ ringForm s.drg ∧
      seg.records.length + ringL s.drg ≤ 4096 + (e.1 + 1) ∧ (s.pcu.win ≠ .preparing ∨ isMoving s.pcu.run = false ∨
      s.pcu.pendingStop ≠ none ∨ s.pcu.haltSeen = true ∨ agreementWaiting s = true ∨ s.pcu.edge ≠ .settled ∨ roleReady s =
      false) ∧ (s.pcu.win = .opened → s.pcu.edge ≠ .settled ∨ workInFlight s = true) :=
  ⟨[0, 0, 0, 0, 0, 64, 1, 4, 9, 0], ⟨0, 0, 64, [⟨4, 9, 0⟩]⟩, (let t : State := { headRunning with
      pcu := { headRunning.pcu with win := .opened, edge := .inGuard, openW := some ⟨.trim 0, ⟨3, 0, 0⟩⟩ } }; { t with
      pcu := { t.pcu with cursor := ⟨1, .first⟩ },
      drg := ⟨0, List.replicate 64 ⟨4, 7, 0⟩, colorEntries 0 (List.replicate 64 ⟨4, 7, 0⟩), 0⟩ }), (0, 7), by and_intros <;>
    decide⟩

theorem witness_SegmentsThatDoNotFit_4 :
    ∃ (body : List Byte) (seg : Segment) (s : State) (e : Nat × Nat), hearsFrames s ∧ s.pcu.run ≠ .cut ∧ parseSegment body =
      some seg ∧ seg.designId = s.dld.designId ∧ seg.number = s.dld.v ∧ seg.r0 = ringL s.drg ∧ segmentInvalid seg.r0
      seg.records = none ∧ s.dld.state = .opened ∧ 64 < s.drg.trail.length + colorCount seg.records ∧
      s.drg.trail[s.drg.trail.length + colorCount seg.records - 65]? = some e ∧ e.1 < s.pcu.cursor.n ∧ ringForm s.drg :=
  ⟨[0, 0, 0, 0, 0, 64, 1, 4, 9, 0], ⟨0, 0, 64, [⟨4, 9, 0⟩]⟩, (let t : State := headStopped; { t with
      pcu := { t.pcu with cursor := ⟨1, .first⟩ },
      drg := ⟨0, List.replicate 64 ⟨4, 7, 0⟩, colorEntries 0 (List.replicate 64 ⟨4, 7, 0⟩), 0⟩ }), (0, 7), by and_intros <;>
    decide⟩

theorem witness_SegmentsThatDoNotFit_5 :
    ∃ (body : List Byte) (seg : Segment) (s : State) (e : Nat × Nat), hearsFrames s ∧ s.pcu.run ≠ .cut ∧ parseSegment body =
      some seg ∧ seg.designId = s.dld.designId ∧ seg.number = s.dld.v ∧ seg.r0 = ringL s.drg ∧ segmentInvalid seg.r0
      seg.records = none ∧ s.dld.state = .opened ∧ 64 < s.drg.trail.length + colorCount seg.records ∧
      s.drg.trail[s.drg.trail.length + colorCount seg.records - 65]? = some e ∧ e.1 < s.pcu.cursor.n ∧ s.pcu.cursor.n <
      ringL s.drg ∧ 4096 + max s.drg.F (e.1 + 1) < seg.records.length + ringL s.drg ∧ ringForm s.drg :=
  ⟨[0, 0, 0, 0, 15, 255, 3, 4, 9, 0, 3, 0, 0, 3, 0, 0], ⟨0, 0, 4095, [⟨4, 9, 0⟩, ⟨3, 0, 0⟩, ⟨3, 0, 0⟩]⟩, (let t : State :=
    headStopped; { t with
      pcu := { t.pcu with cursor := ⟨1, .first⟩ },
      drg := ⟨0, List.replicate 64 ⟨4, 7, 0⟩ ++ List.replicate 4031 ⟨3, 0, 0⟩, colorEntries 0 (List.replicate 64 ⟨4, 7, 0⟩),
        0⟩ }), (0, 7), by and_intros <;> decide +kernel⟩

theorem witness_CrossingOpensTheNextWindow_0 :
    ∃ (w : WindowRec) (s : State), inService s = true ∧ s.pcu.win = .ready ∧ s.pcu.armed = true ∧ s.pcu.next = some w :=
  ⟨⟨.move 0, ⟨1, 3, 4⟩⟩, (let t : State := headStopped; { t with
      pcu := { t.pcu with run := .running, win := .ready, pace := false, next := some ⟨.move 0, ⟨1, 3, 4⟩⟩ } }), by
    and_intros <;> decide⟩

theorem witness_CrossingOpensTheNextWindow_0a :
    ∃ (w : WindowRec) (s : State), inService s = true ∧ s.pcu.win = .ready ∧ s.pcu.armed = true ∧ s.pcu.next = some w ∧
      (cursorAfter w s.pcu.cursor).n < s.drg.F :=
  ⟨⟨.retreat 3, ⟨1, 3, 4⟩⟩, (let t : State := headStopped; { t with
      drg := ⟨5, [⟨3, 0, 0⟩], [], 6⟩,
      pcu := { t.pcu with
          win := .ready, pace := false, next := some ⟨.retreat 3, ⟨1, 3, 4⟩⟩ , run := .traversingBack,
          cursor := ⟨6, .first⟩ } }), by and_intros <;> decide⟩

theorem witness_CrossingOpensTheNextWindow_1 :
    ∃ (s : State), inService s = true ∧ (s.pcu.win ≠ .ready ∨ s.pcu.armed = false ∨ s.pcu.next = none) :=
  ⟨headStopped, by and_intros <;> decide⟩

theorem witness_StrokeOrRideAtAStrokeWindow_0 :
    ∃ (n : Nat) (r : Rec) (s : State), inService s = true ∧ isHead s = true ∧ s.pcu.win = .ready ∧ s.pcu.armed = true ∧
      s.pcu.next = some ⟨.stroke n, r⟩ ∧ s.drg.F ≤ s.pcu.cursor.n :=
  ⟨0, ⟨1, 3, 4⟩, (let t : State := headStopped; { t with
      pcu := { t.pcu with run := .running, win := .ready, pace := false, next := some ⟨.stroke 0, ⟨1, 3, 4⟩⟩ } }), by
    and_intros <;> decide⟩

theorem witness_StrokeOrRideAtAStrokeWindow_0a :
    ∃ (lines : CodeLines) (n : Nat) (r : Rec) (s : State), inService s = true ∧ isHead s = true ∧ s.pcu.win = .ready ∧
      s.pcu.armed = true ∧ s.pcu.next = some ⟨.stroke n, r⟩ ∧ s.drg.F ≤ s.pcu.cursor.n ∧ (nextOf (exec (.crossing lines)
      s)).any (fun u => u.stu.phase == .downstroke) = true :=
  ⟨0, 0, ⟨1, 3, 4⟩, (let t : State := (let t : State := headStopped; { t with
      pcu := { t.pcu with run := .running, win := .ready, pace := false, next := some ⟨.stroke 0, ⟨1, 3, 4⟩⟩ } }); { t with
      slu := { t.slu with sel := .settled 3, map := t.slu.map.set 0 3 } }), by and_intros <;> decide⟩

theorem witness_WindowMovesOfAnAxis_0 :
    ∃ (n : Nat) (r : Rec) (pc : Int) (pt : Int) (st : Int) (d : Int) (s : State), inService s = true ∧ isAxis s = true ∧
      s.pcu.win = .ready ∧ s.pcu.armed = true ∧ s.pcu.next = some ⟨.move n, r⟩ ∧ s.drg.F ≤ s.pcu.cursor.n ∧ max
      (-1000000000) (min (s.axu.pc + displacement s.role r) 1000000000) = pc ∧ min s.params.lmax (max pc s.params.lmin) = pt
      ∧ pt * s.params.p / 100 = st ∧ st - s.axu.sPos = d :=
  ⟨0, ⟨1, 3, 4⟩, 3, 3, 19, 19, (let t : State := axisStopped; { t with
      pcu := { t.pcu with run := .running, win := .ready, pace := false, next := some ⟨.move 0, ⟨1, 3, 4⟩⟩ } }), by
    and_intros <;> decide⟩

theorem witness_WindowMovesOfAnAxis_1 :
    ∃ (n : Nat) (r : Rec) (pc : Int) (pt : Int) (st : Int) (d : Int) (s : State), inService s = true ∧ isAxis s = true ∧
      s.pcu.win = .ready ∧ s.pcu.armed = true ∧ s.pcu.next = some ⟨.advance n, r⟩ ∧ max (-1000000000) (min (s.axu.pc +
      displacement s.role r) 1000000000) = pc ∧ min s.params.lmax (max pc s.params.lmin) = pt ∧ pt * s.params.p / 100 = st ∧
      st - s.axu.sPos = d :=
  ⟨0, ⟨1, 3, 4⟩, 3, 3, 19, 19, (let t : State := axisStopped; { t with
      pcu := { t.pcu with run := .running, win := .ready, pace := false, next := some ⟨.advance 0, ⟨1, 3, 4⟩⟩ } }), by
    and_intros <;> decide⟩

theorem witness_WindowMovesOfAnAxis_2 :
    ∃ (n : Nat) (r : Rec) (pc : Int) (pt : Int) (st : Int) (d : Int) (s : State), inService s = true ∧ isAxis s = true ∧
      s.pcu.win = .ready ∧ s.pcu.armed = true ∧ s.pcu.next = some ⟨.retreat n, r⟩ ∧ max (-1000000000) (min (s.axu.pc -
      displacement s.role r) 1000000000) = pc ∧ min s.params.lmax (max pc s.params.lmin) = pt ∧ pt * s.params.p / 100 = st ∧
      st - s.axu.sPos = d :=
  ⟨1, ⟨1, 3, 4⟩, -3, -3, -20, -20, (let t : State := axisStopped; { t with
      pcu := { t.pcu with run := .running, win := .ready, pace := false, next := some ⟨.retreat 1, ⟨1, 3, 4⟩⟩ } }), by
    and_intros <;> decide⟩

theorem witness_WindowMovesOfAnAxis_3 :
    ∃ (r : Rec) (pc : Int) (pt : Int) (st : Int) (d : Int) (s : State), inService s = true ∧ isAxis s = true ∧ s.pcu.win =
      .ready ∧ s.pcu.armed = true ∧ s.pcu.next = some ⟨.prepare, r⟩ ∧ s.drg.F ≤ s.pcu.cursor.n ∧ max (-1000000000) (min
      (s.axu.pc) 1000000000) = pc ∧ min s.params.lmax (max pc s.params.lmin) = pt ∧ pt * s.params.p / 100 = st ∧ st -
      s.axu.sPos = d :=
  ⟨⟨1, 3, 4⟩, 0, 0, 0, 0, (let t : State := axisStopped; { t with
      pcu := { t.pcu with run := .running, win := .ready, pace := false, next := some ⟨.prepare, ⟨1, 3, 4⟩⟩ } }), by
    and_intros <;> decide⟩

theorem witness_WindowMovesOfAnAxis_4 :
    ∃ (w : WindowRec) (s : State), inService s = true ∧ s.pcu.win = .ready ∧ s.pcu.armed = true ∧ s.pcu.next = some w ∧
      isAxis s = true ∧ restsAxis w.kind = true ∧ s.drg.F ≤ s.pcu.cursor.n :=
  ⟨⟨.stroke 0, ⟨1, 3, 4⟩⟩, (let t : State := axisStopped; { t with
      pcu := { t.pcu with run := .running, win := .ready, pace := false, next := some ⟨.stroke 0, ⟨1, 3, 4⟩⟩ } }), by
    and_intros <;> decide⟩

theorem witness_SelectorAndTrimmerAtAWindow_0 :
    ∃ (w : WindowRec) (s : State), inService s = true ∧ isHead s = true ∧ s.pcu.win = .ready ∧ s.pcu.armed = true ∧
      s.pcu.next = some w ∧ restsHead w.kind = true :=
  ⟨⟨.move 0, ⟨1, 3, 4⟩⟩, (let t : State := headStopped; { t with
      pcu := { t.pcu with run := .running, win := .ready, pace := false, next := some ⟨.move 0, ⟨1, 3, 4⟩⟩ } }), by
    and_intros <;> decide⟩

theorem witness_SelectorAndTrimmerAtAWindow_0a :
    ∃ (w : WindowRec) (s : State), inService s = true ∧ isHead s = true ∧ s.pcu.win = .ready ∧ s.pcu.armed = true ∧
      s.pcu.next = some w ∧ restsHead w.kind = true :=
  ⟨⟨.advance 0, ⟨1, 3, 4⟩⟩, (let t : State := headStopped; { t with
      pcu := { t.pcu with run := .running, win := .ready, pace := false, next := some ⟨.advance 0, ⟨1, 3, 4⟩⟩ } }), by
    and_intros <;> decide⟩

theorem witness_SelectorAndTrimmerAtAWindow_1 :
    ∃ (w : WindowRec) (s : State), inService s = true ∧ isHead s = true ∧ s.pcu.win = .ready ∧ s.pcu.armed = true ∧ s.drg.F
      ≤ s.pcu.cursor.n ∧ s.pcu.next = some w ∧ trimWindow w.kind = true ∧ (s.stu.pendingPart.getD s.stu.participation =
      .enabled ∧ s.stu.tail = true) :=
  ⟨⟨.trim 0, ⟨3, 0, 0⟩⟩, (let t : State := (let t : State := headStopped; { t with
      pcu := { t.pcu with run := .running, win := .ready, pace := false, next := some ⟨.trim 0, ⟨3, 0, 0⟩⟩ } }); { t with
      stu := { t.stu with tail := true } }), by and_intros <;> decide⟩

theorem witness_SelectorAndTrimmerAtAWindow_2 :
    ∃ (n : Nat) (r : Rec) (s : State), inService s = true ∧ isHead s = true ∧ s.pcu.win = .ready ∧ s.pcu.armed = true ∧
      s.drg.F ≤ s.pcu.cursor.n ∧ s.pcu.next = some ⟨.trim n, r⟩ ∧ ¬ (s.stu.pendingPart.getD s.stu.participation = .enabled ∧
      s.stu.tail = true) :=
  ⟨0, ⟨3, 0, 0⟩, (let t : State := headStopped; { t with
      pcu := { t.pcu with run := .running, win := .ready, pace := false, next := some ⟨.trim 0, ⟨3, 0, 0⟩⟩ } }), by
    and_intros <;> decide⟩

theorem witness_SelectorAndTrimmerAtAWindow_3 :
    ∃ (colour : Nat) (n : Nat) (s : State), inService s = true ∧ isHead s = true ∧ s.pcu.win = .ready ∧ s.pcu.armed = true ∧
      s.drg.F ≤ s.pcu.cursor.n ∧ ¬ (s.stu.pendingPart.getD s.stu.participation = .enabled ∧ s.stu.tail = true) ∧
      colourWanted s = some colour ∧ mapNeedle colour s = n :=
  ⟨7, 3, (let t : State := (let t : State := headStopped; { t with
      pcu := { t.pcu with run := .running, win := .ready, pace := false, next := some ⟨.change 0, ⟨4, 7, 0⟩⟩ } }); { t with
      stu := { t.stu with participation := .enabled },
      slu := { t.slu with sel := .settled 5, map := t.slu.map.set 7 3 } }), by and_intros <;> decide⟩

theorem witness_SelectorAndTrimmerAtAWindow_4 :
    ∃ (lines : CodeLines) (colour : Nat) (n : Nat) (q : Nat) (s : State), inService s = true ∧ isHead s = true ∧ s.pcu.win =
      .ready ∧ s.pcu.armed = true ∧ s.drg.F ≤ s.pcu.cursor.n ∧ ¬ (s.stu.pendingPart.getD s.stu.participation = .enabled ∧
      s.stu.tail = true) ∧ colourWanted s = some colour ∧ mapNeedle colour s = n ∧ selectorStart lines s = some q ∧ q ≠ n :=
  ⟨0, 7, 3, 5, (let t : State := (let t : State := headStopped; { t with
      pcu := { t.pcu with run := .running, win := .ready, pace := false, next := some ⟨.change 0, ⟨4, 7, 0⟩⟩ } }); { t with
      stu := { t.stu with participation := .enabled },
      slu := { t.slu with sel := .settled 5, map := t.slu.map.set 7 3 } }), by and_intros <;> decide⟩

theorem witness_WindowEndsAndTheNextBegins_0 :
    ∃ (s : State), inService s = true ∧ s.pcu.edge = .inGuard :=
  ⟨{ headRunning with pcu := { headRunning.pcu with edge := .inGuard } }, by and_intros <;> decide⟩

theorem witness_WindowEndsAndTheNextBegins_1 :
    ∃ (s : State), inService s = true ∧ s.pcu.edge ≠ .inGuard :=
  ⟨headRunning, by and_intros <;> decide⟩

theorem witness_WindowEndsAndTheNextBegins_2 :
    ∃ (s : State), inService s = true ∧ s.pcu.edge ≠ .minAssertion :=
  ⟨headRunning, by and_intros <;> decide⟩

theorem witness_WindowEndsAndTheNextBegins_3 :
    ∃ (s : State), inService s = true ∧ s.pcu.edge = .minAssertion ∧ (s.pcu.win = .ready ∨ (s.pcu.win = .opened ∧
      workInFlight s = true) ∨ (s.pcu.win = .preparing ∧ (isMoving s.pcu.run = false ∨ s.pcu.pendingStop ≠ none ∨
      s.pcu.haltSeen = true ∨ agreementWaiting s = true ∨ roleReady s = false))) :=
  ⟨(let t : State := (let t : State := headRunning; { t with
      pcu := { t.pcu with run := .running, win := .opened, edge := .minAssertion, openW := some ⟨.trim 0, ⟨3, 0, 0⟩⟩ } }); {
    t with stu := { t.stu with phase := .dwell } }), by and_intros <;> decide⟩

theorem witness_WindowEndsAndTheNextBegins_4 :
    ∃ (s : State), inService s = true ∧ s.pcu.edge = .minAssertion ∧ s.pcu.win = .opened ∧ workInFlight s = false ∧
      s.pcu.pendingStop = none ∧ (isMoving s.pcu.run = false ∨ s.pcu.pendingStop ≠ none ∨ s.pcu.haltSeen = true ∨
      agreementWaiting s = true ∨ roleReady s = false) :=
  ⟨(let t : State := (let t : State := headRunning; { t with
      pcu := { t.pcu with run := .running, win := .opened, edge := .minAssertion, openW := some ⟨.trim 0, ⟨3, 0, 0⟩⟩ } }); {
    t with stu := { t.stu with needleUp := false } }), by and_intros <;> decide⟩

theorem witness_WindowEndsAndTheNextBegins_5 :
    ∃ (s : State) (r : StopReason), inService s = true ∧ s.pcu.edge = .minAssertion ∧ s.pcu.win = .opened ∧ workInFlight s =
      false ∧ s.pcu.pendingStop = some r :=
  ⟨(let t : State := headRunning; { t with
      pcu := { t.pcu with
          run := .running, win := .opened, edge := .minAssertion, openW := some ⟨.trim 0, ⟨3, 0, 0⟩⟩ ,
          pendingStop := some .halted } }), .halted, by and_intros <;> decide⟩

theorem witness_WindowEndsAndTheNextBegins_6 :
    ∃ (r : Rec) (s : State), inService s = true ∧ s.pcu.edge = .minAssertion ∧ (s.pcu.win = .preparing ∨ (s.pcu.win =
      .opened ∧ workInFlight s = false)) ∧ s.pcu.pendingStop = none ∧ s.pcu.haltSeen = false ∧ agreementWaiting s = false ∧
      roleReady s = true ∧ s.pcu.run = .running ∧ s.pcu.preparePending = true ∧ recAtN s = some r :=
  ⟨⟨5, 0, 0⟩, (let t : State := withRecords [⟨5, 0, 0⟩] headRunning; { t with
      pcu := { t.pcu with
          run := .running, win := .opened, edge := .minAssertion, openW := some ⟨.trim 0, ⟨3, 0, 0⟩⟩ ,
          preparePending := true } }), by and_intros <;> decide⟩

theorem witness_WindowEndsAndTheNextBegins_7 :
    ∃ (r : Rec) (k : Window) (s : State), inService s = true ∧ s.pcu.edge = .minAssertion ∧ (s.pcu.win = .preparing ∨
      (s.pcu.win = .opened ∧ workInFlight s = false)) ∧ s.pcu.pendingStop = none ∧ s.pcu.haltSeen = false ∧ agreementWaiting
      s = false ∧ roleReady s = true ∧ s.pcu.run = .running ∧ s.pcu.preparePending = false ∧ recAtN s = some r ∧ (if r.kind
      = 1 then (if s.pcu.cursor.step = .first then some (Window.move s.pcu.cursor.n) else some (.stroke s.pcu.cursor.n))
      else if r.kind = 2 then some (.move s.pcu.cursor.n) else if r.kind = 3 then some (.trim s.pcu.cursor.n) else if r.kind
      = 4 then some (.change s.pcu.cursor.n) else none) = some k :=
  ⟨⟨1, 3, 4⟩, .move 0, (let t : State := withRecords [⟨1, 3, 4⟩] headRunning; { t with
      pcu := { t.pcu with run := .running, win := .opened, edge := .minAssertion, openW := some ⟨.trim 0, ⟨3, 0, 0⟩⟩ } }),
    by and_intros <;> decide⟩

theorem witness_WindowEndsAndTheNextBegins_8 :
    ∃ (r : Rec) (s : State), inService s = true ∧ s.pcu.edge = .minAssertion ∧ (s.pcu.win = .preparing ∨ (s.pcu.win =
      .opened ∧ workInFlight s = false)) ∧ s.pcu.pendingStop = none ∧ s.pcu.haltSeen = false ∧ agreementWaiting s = false ∧
      roleReady s = true ∧ s.pcu.run = .running ∧ s.pcu.preparePending = false ∧ recAtN s = some r ∧ r.kind = 5 :=
  ⟨⟨5, 0, 0⟩, (let t : State := withRecords [⟨5, 0, 0⟩] headRunning; { t with
      pcu := { t.pcu with run := .running, win := .opened, edge := .minAssertion, openW := some ⟨.trim 0, ⟨3, 0, 0⟩⟩ } }),
    by and_intros <;> decide⟩

theorem witness_WindowEndsAndTheNextBegins_9 :
    ∃ (r : Rec) (s : State), inService s = true ∧ s.pcu.edge = .minAssertion ∧ (s.pcu.win = .preparing ∨ (s.pcu.win =
      .opened ∧ workInFlight s = false)) ∧ s.pcu.pendingStop = none ∧ s.pcu.haltSeen = false ∧ agreementWaiting s = false ∧
      roleReady s = true ∧ s.pcu.run = .running ∧ s.pcu.preparePending = false ∧ recAtN s = some r ∧ r.kind = 6 :=
  ⟨⟨6, 0, 0⟩, (let t : State := withRecords [⟨6, 0, 0⟩] headRunning; { t with
      pcu := { t.pcu with run := .running, win := .opened, edge := .minAssertion, openW := some ⟨.trim 0, ⟨3, 0, 0⟩⟩ } }),
    by and_intros <;> decide⟩

theorem witness_WindowEndsAndTheNextBegins_10 :
    ∃ (s : State), inService s = true ∧ s.pcu.edge = .minAssertion ∧ (s.pcu.win = .preparing ∨ (s.pcu.win = .opened ∧
      workInFlight s = false)) ∧ s.pcu.pendingStop = none ∧ s.pcu.haltSeen = false ∧ agreementWaiting s = false ∧ roleReady
      s = true ∧ s.pcu.run = .running ∧ recAtN s = none :=
  ⟨(let t : State := headRunning; { t with
      pcu := { t.pcu with run := .running, win := .opened, edge := .minAssertion, openW := some ⟨.trim 0, ⟨3, 0, 0⟩⟩ } }),
    by and_intros <;> decide⟩

theorem witness_WindowEndsAndTheNextBegins_11 :
    ∃ (tv : Traversal) (s : State), inService s = true ∧ s.pcu.edge = .minAssertion ∧ (s.pcu.win = .preparing ∨ (s.pcu.win =
      .opened ∧ workInFlight s = false)) ∧ s.pcu.pendingStop = none ∧ s.pcu.haltSeen = false ∧ agreementWaiting s = false ∧
      roleReady s = true ∧ isTraversing s.pcu.run ∧ s.pcu.traversal = some tv :=
  ⟨⟨.back, 1, some ⟨0, .first⟩, false⟩, (let t : State := { withRecords [⟨2, 3, 4⟩] headRunning with
      pcu := { headRunning.pcu with cursor := ⟨1, .first⟩ } }; { t with
      pcu := { t.pcu with
          win := .opened, edge := .minAssertion, openW := some ⟨.trim 0, ⟨3, 0, 0⟩⟩ , run := .traversingBack,
          traversal := some ⟨.back, 1, some ⟨0, .first⟩, false⟩ } }), by and_intros <;> decide⟩

theorem witness_WindowEndsAndTheNextBegins_11a :
    ∃ (tv : Traversal) (s : State), inService s = true ∧ s.pcu.edge = .minAssertion ∧ (s.pcu.win = .preparing ∨ (s.pcu.win =
      .opened ∧ workInFlight s = false)) ∧ s.pcu.pendingStop = none ∧ s.pcu.haltSeen = false ∧ agreementWaiting s = false ∧
      roleReady s = true ∧ isTraversing s.pcu.run ∧ s.pcu.traversal = some tv :=
  ⟨⟨.forward, 1, some ⟨1, .first⟩, false⟩, (let t : State := { withRecords [⟨2, 3, 4⟩] headRunning with
      pcu := { headRunning.pcu with cursor := ⟨0, .first⟩ } }; { t with
      pcu := { t.pcu with
          win := .opened, edge := .minAssertion, openW := some ⟨.trim 0, ⟨3, 0, 0⟩⟩ , run := .traversingForward,
          traversal := some ⟨.forward, 1, some ⟨1, .first⟩, false⟩ } }), by and_intros <;> decide⟩

theorem witness_HaltStopsTheStation_0 :
    ∃ (s : State), inService s = true ∧ isMoving s.pcu.run = false :=
  ⟨headStopped, by and_intros <;> decide⟩

theorem witness_HaltStopsTheStation_1 :
    ∃ (s : State), inService s = true ∧ isMoving s.pcu.run = true ∧ s.pcu.win = .opened :=
  ⟨(let t : State := headRunning; { t with
      pcu := { t.pcu with run := .running, win := .opened, edge := .minAssertion, openW := some ⟨.trim 0, ⟨3, 0, 0⟩⟩ } }),
    by and_intros <;> decide⟩

theorem witness_HaltStopsTheStation_2 :
    ∃ (s : State), inService s = true ∧ isMoving s.pcu.run = true ∧ s.pcu.win = .ready :=
  ⟨{ headRunning with pcu := { headRunning.pcu with win := .ready } }, by and_intros <;> decide⟩

theorem witness_HaltStopsTheStation_3 :
    ∃ (s : State), inService s = true ∧ isMoving s.pcu.run = true ∧ s.pcu.win = .preparing :=
  ⟨headRunning, by and_intros <;> decide⟩

theorem witness_HaltStopsTheStation_4 :
    ∃ (s : State), inService s = true ∧ (s.pcu.win ≠ .preparing ∨ isMoving s.pcu.run = false ∨ s.pcu.pendingStop ≠ none ∨
      agreementWaiting s = true ∨ s.pcu.edge ≠ .settled ∨ roleReady s = false) ∧ (s.pcu.win = .opened → s.pcu.edge ≠
      .settled ∨ workInFlight s = true) :=
  ⟨headHalted, by and_intros <;> decide⟩

theorem witness_HaltStopsTheStation_4a :
    ∃ (s : State), inService s = true ∧ (s.pcu.win ≠ .preparing ∨ isMoving s.pcu.run = false ∨ s.pcu.pendingStop ≠ none ∨
      agreementWaiting s = true ∨ s.pcu.edge ≠ .settled ∨ roleReady s = false) ∧ (s.pcu.win = .opened → s.pcu.edge ≠
      .settled ∨ workInFlight s = true) :=
  ⟨{ headRunning with
      pcu := { headRunning.pcu with
          win := .opened, edge := .inGuard, run := .stopping, pendingStop := some .halted, haltSeen := true } }, by
    and_intros <;> decide⟩

theorem witness_HaltStopsTheStation_4b :
    ∃ (s : State), inService s = true ∧ (s.pcu.win ≠ .preparing ∨ isMoving s.pcu.run = false ∨ s.pcu.pendingStop ≠ none ∨
      agreementWaiting s = true ∨ s.pcu.edge ≠ .settled ∨ roleReady s = false) ∧ (s.pcu.win = .opened → s.pcu.edge ≠
      .settled ∨ workInFlight s = true) :=
  ⟨{ headRunning with pcu := { headRunning.pcu with win := .ready, pendingStop := some .halted, haltSeen := true } }, by
    and_intros <;> decide⟩

theorem witness_HaltStopsTheStation_5 :
    ∃ (r : Rec) (s : State), inService s = true ∧ s.pcu.run = .running ∧ s.pcu.win = .preparing ∧ s.pcu.pendingStop = none ∧
      agreementWaiting s = false ∧ s.pcu.edge = .settled ∧ roleReady s = true ∧ s.pcu.preparePending = true ∧ recAtN s =
      some r :=
  ⟨⟨5, 0, 0⟩, { withRecords [⟨5, 0, 0⟩] headRunning with
      pcu := { headRunning.pcu with preparePending := true, haltSeen := true } }, by and_intros <;> decide⟩

theorem witness_HaltStopsTheStation_6 :
    ∃ (r : Rec) (k : Window) (s : State), inService s = true ∧ s.pcu.run = .running ∧ s.pcu.win = .preparing ∧
      s.pcu.pendingStop = none ∧ agreementWaiting s = false ∧ s.pcu.edge = .settled ∧ roleReady s = true ∧
      s.pcu.preparePending = false ∧ recAtN s = some r ∧ (if r.kind = 1 then (if s.pcu.cursor.step = .first then some
      (Window.move s.pcu.cursor.n) else some (.stroke s.pcu.cursor.n)) else if r.kind = 2 then some (.move s.pcu.cursor.n)
      else if r.kind = 3 then some (.trim s.pcu.cursor.n) else if r.kind = 4 then some (.change s.pcu.cursor.n) else none) =
      some k :=
  ⟨⟨1, 3, 4⟩, .move 0, { withRecords [⟨1, 3, 4⟩] headRunning with pcu := { headRunning.pcu with haltSeen := true } }, by
    and_intros <;> decide⟩

theorem witness_HaltStopsTheStation_7 :
    ∃ (r : Rec) (s : State), inService s = true ∧ s.pcu.run = .running ∧ s.pcu.win = .preparing ∧ s.pcu.pendingStop = none ∧
      agreementWaiting s = false ∧ s.pcu.edge = .settled ∧ roleReady s = true ∧ s.pcu.preparePending = false ∧ recAtN s =
      some r ∧ r.kind = 5 :=
  ⟨⟨5, 0, 0⟩, { withRecords [⟨5, 0, 0⟩] headRunning with pcu := { headRunning.pcu with haltSeen := true } }, by and_intros
    <;> decide⟩

theorem witness_HaltStopsTheStation_8 :
    ∃ (r : Rec) (s : State), inService s = true ∧ s.pcu.run = .running ∧ s.pcu.win = .preparing ∧ s.pcu.pendingStop = none ∧
      agreementWaiting s = false ∧ s.pcu.edge = .settled ∧ roleReady s = true ∧ s.pcu.preparePending = false ∧ recAtN s =
      some r ∧ r.kind = 6 :=
  ⟨⟨6, 0, 0⟩, { withRecords [⟨6, 0, 0⟩] headRunning with pcu := { headRunning.pcu with haltSeen := true } }, by and_intros
    <;> decide⟩

theorem witness_HaltStopsTheStation_9 :
    ∃ (s : State), inService s = true ∧ s.pcu.run = .running ∧ s.pcu.win = .preparing ∧ s.pcu.pendingStop = none ∧
      agreementWaiting s = false ∧ s.pcu.edge = .settled ∧ roleReady s = true ∧ recAtN s = none :=
  ⟨headRunning, by and_intros <;> decide⟩

theorem witness_HaltStopsTheStation_10 :
    ∃ (tv : Traversal) (s : State), inService s = true ∧ s.pcu.win = .preparing ∧ s.pcu.pendingStop = none ∧
      agreementWaiting s = false ∧ s.pcu.edge = .settled ∧ roleReady s = true ∧ isTraversing s.pcu.run ∧ s.pcu.traversal =
      some tv :=
  ⟨⟨.back, 1, some ⟨0, .first⟩, false⟩, { withRecords [⟨2, 3, 4⟩] headRunning with
      pcu := { headRunning.pcu with
          run := .traversingBack, cursor := ⟨1, .first⟩, haltSeen := true,
          traversal := some ⟨.back, 1, some ⟨0, .first⟩, false⟩ } }, by and_intros <;> decide⟩

theorem witness_HaltStopsTheStation_11 :
    ∃ (s : State), inService s = true ∧ s.pcu.win = .ready ∧ isRunning s.pcu.haltWait = true ∧ s.pcu.run ≠ .cut :=
  ⟨{ headRunning with pcu := { headRunning.pcu with win := .ready, haltWait := .running 20 } }, by and_intros <;> decide⟩

theorem witness_HaltStopsTheStation_12 :
    ∃ (s : State), inService s = true ∧ (s.pcu.win ≠ .ready ∨ isRunning s.pcu.haltWait = false) :=
  ⟨headRunning, by and_intros <;> decide⟩

theorem witness_HaltStopsTheStation_13 :
    ∃ (s : State), inService s = true :=
  ⟨headRunning, by decide⟩

theorem witness_EventsThatOnlyRaiseFaults_0 :
    ∃ (s : State), inService s = true ∧ isRunning s.pcu.starve = true :=
  ⟨{ headRunning with pcu := { headRunning.pcu with starve := .running 9 } }, by and_intros <;> decide⟩

theorem witness_EventsThatOnlyRaiseFaults_1 :
    ∃ (s : State), inService s = true ∧ isRunning s.pcu.starve = false :=
  ⟨headRunning, by and_intros <;> decide⟩

theorem witness_EventsThatOnlyRaiseFaults_2 :
    ∃ (s : State), inService s = true ∧ isRunning s.pcu.stall = true :=
  ⟨{ headRunning with pcu := { headRunning.pcu with stall := .running 9 } }, by and_intros <;> decide⟩

theorem witness_EventsThatOnlyRaiseFaults_3 :
    ∃ (s : State), inService s = true ∧ isRunning s.pcu.stall = false :=
  ⟨headRunning, by and_intros <;> decide⟩

theorem witness_EventsThatOnlyRaiseFaults_4 :
    ∃ (s : State), inService s = true ∧ isAxis s = true :=
  ⟨axisStopped, by and_intros <;> decide⟩

theorem witness_EventsThatOnlyRaiseFaults_5 :
    ∃ (s : State), inService s = true ∧ isAxis s = true :=
  ⟨axisStopped, by and_intros <;> decide⟩

theorem witness_EventsThatOnlyRaiseFaults_6 :
    ∃ (s : State), inService s = true ∧ isAxis s = false :=
  ⟨headStopped, by and_intros <;> decide⟩

theorem witness_EventsThatOnlyRaiseFaults_7 :
    ∃ (s : State), inService s = true ∧ isAxis s = false :=
  ⟨headStopped, by and_intros <;> decide⟩

theorem witness_StepsOfAnAxis_0 :
    ∃ (s : State), inService s = true ∧ s.axu.move = none :=
  ⟨axisStopped, by and_intros <;> decide⟩

theorem witness_StepsOfAnAxis_1 :
    ∃ (m : AxisMove) (s : State), inService s = true ∧ s.axu.move = some m ∧ m.issued + 1 < m.delta.natAbs :=
  ⟨⟨1, 1, 6, 6, 43750, 2⟩, (let t : State := (let t : State := axisStopped; { t with
      pcu := { t.pcu with run := .running, win := .opened, edge := .minAssertion, openW := some ⟨.trim 0, ⟨3, 0, 0⟩⟩ } }); {
    t with
      pcu := { t.pcu with edge := .inGuard, armed := false, pace := false },
      axu := { t.axu with move := some ⟨1, 1, 6, 6, 43750, 2⟩ } }), by and_intros <;> decide⟩

theorem witness_StepsOfAnAxis_2 :
    ∃ (m : AxisMove) (s : State), inService s = true ∧ s.axu.move = some m ∧ m.delta.natAbs ≤ m.issued + 1 :=
  ⟨⟨1, 1, 6, 6, 43750, 5⟩, (let t : State := (let t : State := axisStopped; { t with
      pcu := { t.pcu with run := .running, win := .opened, edge := .minAssertion, openW := some ⟨.trim 0, ⟨3, 0, 0⟩⟩ } }); {
    t with pcu := { t.pcu with edge := .settled }, axu := { t.axu with move := some ⟨1, 1, 6, 6, 43750, 5⟩ } }), by
    and_intros <;> decide⟩

theorem witness_StepsOfAnAxis_3 :
    ∃ (m : AxisMove) (s : State), inService s = true ∧ s.axu.move = some m ∧ m.delta.natAbs ≤ m.issued + 1 :=
  ⟨⟨1, 1, 6, 6, 43750, 5⟩, (let t : State := (let t : State := axisStopped; { t with
      pcu := { t.pcu with run := .running, win := .opened, edge := .minAssertion, openW := some ⟨.trim 0, ⟨3, 0, 0⟩⟩ } }); {
    t with pcu := { t.pcu with edge := .settled }, axu := { t.axu with move := some ⟨1, 1, 6, 6, 43750, 5⟩ } }), by
    and_intros <;> decide⟩

theorem witness_StepsOfAnAxis_3a :
    ∃ (m : AxisMove) (s : State), inService s = true ∧ s.axu.move = some m ∧ m.delta.natAbs ≤ m.issued + 1 :=
  ⟨⟨1, 1, 6, 6, 43750, 5⟩, (let t : State := (let t : State := { withRecords [⟨2, 3, 4⟩, ⟨2, 3, 4⟩] axisStopped with
      pcu := { axisStopped.pcu with
          cursor := ⟨1, .first⟩, run := .traversingBack, traversal := some ⟨.back, 2, some ⟨0, .first⟩, false⟩ } }; { t with
      pcu := { t.pcu with
          win := .opened, edge := .minAssertion, openW := some ⟨.trim 0, ⟨3, 0, 0⟩⟩ , run := .traversingBack } }); { t with
      pcu := { t.pcu with edge := .settled }, axu := { t.axu with move := some ⟨1, 1, 6, 6, 43750, 5⟩ } }), by and_intros
    <;> decide⟩

theorem witness_StepsOfAnAxis_4 :
    ∃ (m : AxisMove) (s : State), inService s = true ∧ s.axu.move = some m ∧ m.delta.natAbs ≤ m.issued + 1 ∧ s.pcu.win =
      .opened ∧ s.pcu.edge ≠ .settled ∧ s.pcu.starve = .stopped :=
  ⟨⟨1, 1, 6, 6, 43750, 5⟩, (let t : State := (let t : State := axisStopped; { t with
      pcu := { t.pcu with run := .running, win := .opened, edge := .minAssertion, openW := some ⟨.trim 0, ⟨3, 0, 0⟩⟩ } }); {
    t with
      pcu := { t.pcu with edge := .inGuard, armed := false, pace := false },
      axu := { t.axu with move := some ⟨1, 1, 6, 6, 43750, 5⟩ } }), by and_intros <;> decide⟩

theorem witness_StepsOfAnAxis_5 :
    ∃ (m : AxisMove) (s : State) (r : StopReason), inService s = true ∧ isAxis s = true ∧ s.axu.move = some m ∧
      m.delta.natAbs ≤ m.issued + 1 ∧ s.pcu.win = .opened ∧ s.pcu.edge = .settled ∧ s.pcu.pendingStop = some r ∧ s.pcu.run ≠
      .cut ∧ workInFlight { s with axu := { s.axu with move := none } } = false :=
  ⟨⟨1, 1, 6, 6, 43750, 5⟩, (let t : State := (let t : State := axisStopped; { t with
      pcu := { t.pcu with
          run := .running, win := .opened, edge := .minAssertion, openW := some ⟨.trim 0, ⟨3, 0, 0⟩⟩ ,
          pendingStop := some .halted } }); { t with
      pcu := { t.pcu with edge := .settled, run := .stopping },
      axu := { t.axu with move := some ⟨1, 1, 6, 6, 43750, 5⟩ } }), .halted, by and_intros <;> decide⟩

theorem witness_StepsOfAnAxis_6 :
    ∃ (m : AxisMove) (s : State) (r : Rec) (k : Window), inService s = true ∧ isAxis s = true ∧ s.axu.move = some m ∧
      m.delta.natAbs ≤ m.issued + 1 ∧ s.pcu.win = .opened ∧ s.pcu.edge = .settled ∧ workInFlight { s with
        axu := { s.axu with move := none } } = false ∧ s.axu.op = none ∧ s.pcu.pendingStop = none ∧ s.pcu.haltSeen = false ∧
      agreementWaiting s = false ∧ s.pcu.run = .running ∧ s.pcu.preparePending = false ∧ recAtN s = some r ∧ (if r.kind = 1
      then (if s.pcu.cursor.step = .first then some (Window.move s.pcu.cursor.n) else some (.stroke s.pcu.cursor.n)) else if
      r.kind = 2 then some (.move s.pcu.cursor.n) else if r.kind = 3 then some (.trim s.pcu.cursor.n) else if r.kind = 4
      then some (.change s.pcu.cursor.n) else none) = some k :=
  ⟨⟨1, 1, 6, 6, 43750, 5⟩, (let t : State := (let t : State := withRecords [⟨2, 3, 4⟩] axisStopped; { t with
      pcu := { t.pcu with run := .running, win := .opened, edge := .minAssertion, openW := some ⟨.trim 0, ⟨3, 0, 0⟩⟩ } }); {
    t with pcu := { t.pcu with edge := .settled }, axu := { t.axu with move := some ⟨1, 1, 6, 6, 43750, 5⟩ } }), ⟨2, 3, 4⟩,
    .move 0, by and_intros <;> decide⟩

theorem witness_StepsOfAnAxis_7 :
    ∃ (pt : Int) (st : Int) (d : Int) (k : Nat) (s : State), inService s = true ∧ s.axu.op = some (.moveto pt st d k) ∧ k +
      1 < d.natAbs :=
  ⟨1, 6, 6, 1, { axisStopped with axu := { axisStopped.axu with op := some (.moveto 1 6 6 1) } }, by and_intros <;> decide⟩

theorem witness_StepsOfAnAxis_8 :
    ∃ (pt : Int) (st : Int) (d : Int) (k : Nat) (s : State), inService s = true ∧ s.axu.op = some (.moveto pt st d k) ∧
      d.natAbs ≤ k + 1 :=
  ⟨1, 6, 6, 5, { axisStopped with axu := { axisStopped.axu with op := some (.moveto 1 6 6 5) } }, by and_intros <;> decide⟩

theorem witness_StepsOfAnAxis_9 :
    ∃ (pt : Int) (st : Int) (d : Int) (k : Nat) (s : State), inService s = true ∧ s.axu.op = some (.moveto pt st d k) ∧
      d.natAbs ≤ k + 1 :=
  ⟨1, 6, 6, 5, { axisStopped with axu := { axisStopped.axu with op := some (.moveto 1 6 6 5) } }, by and_intros <;> decide⟩

theorem witness_StepsOfAnAxis_10 :
    ∃ (pt : Int) (st : Int) (d : Int) (k : Nat) (s : State), inService s = true ∧ s.axu.op = some (.moveto pt st d k) ∧
      d.natAbs ≤ k + 1 ∧ s.pcu.run = .stopped ∧ s.pcu.win = .preparing :=
  ⟨1, 6, 6, 5, { axisStopped with axu := { axisStopped.axu with op := some (.moveto 1 6 6 5) } }, by and_intros <;> decide⟩

theorem witness_StepsOfAnAxis_11 :
    ∃ (k : Nat) (s : State), inService s = true ∧ s.axu.op = some (.homing k) :=
  ⟨5, { axisStopped with axu := { axisStopped.axu with op := some (.homing 5) } }, by and_intros <;> decide⟩

theorem witness_StepsOfAnAxis_12 :
    ∃ (k : Nat) (s : State), inService s = true ∧ isAxis s = true ∧ s.axu.op = some (.homing k) :=
  ⟨5, { axisStopped with axu := { axisStopped.axu with op := some (.homing 5) } }, by and_intros <;> decide⟩

theorem witness_StepsOfAnAxis_13 :
    ∃ (k : Nat) (s : State), inService s = true ∧ isAxis s = true ∧ s.axu.op = some (.homing k) :=
  ⟨5, { axisStopped with axu := { axisStopped.axu with op := some (.homing 5) } }, by and_intros <;> decide⟩

theorem witness_StepsOfAnAxis_14 :
    ∃ (k : Nat) (s : State), inService s = true ∧ isAxis s = true ∧ s.axu.op = some (.homing k) ∧ s.pcu.run = .stopped ∧
      s.pcu.win = .preparing :=
  ⟨5, { axisStopped with axu := { axisStopped.axu with op := some (.homing 5) } }, by and_intros <;> decide⟩

theorem witness_StepsOfAnAxis_15 :
    ∃ (k : Nat) (s : State), inService s = true ∧ s.axu.op = some (.homing k) ∧ s.params.homeTravel ≤ k :=
  ⟨200000, { axisStopped with axu := { axisStopped.axu with op := some (.homing 200000) } }, by and_intros <;> decide⟩

theorem witness_StepsOfAnAxis_16 :
    ∃ (k : Nat) (s : State), inService s = true ∧ s.axu.op = some (.homing k) ∧ s.params.homeTravel ≤ k :=
  ⟨200000, { axisStopped with axu := { axisStopped.axu with op := some (.homing 200000) } }, by and_intros <;> decide⟩

theorem witness_StepsOfAnAxis_17 :
    ∃ (k : Nat) (s : State), inService s = true ∧ s.axu.op = some (.homing k) ∧ s.params.homeTravel ≤ k ∧ s.pcu.run =
      .stopped ∧ s.pcu.win = .preparing :=
  ⟨200000, { axisStopped with axu := { axisStopped.axu with op := some (.homing 200000) } }, by and_intros <;> decide⟩

theorem witness_StepsOfAnAxis_18 :
    ∃ (k : Nat) (s : State), inService s = true ∧ s.axu.op = some (.homing k) ∧ k < s.params.homeTravel :=
  ⟨5, { axisStopped with axu := { axisStopped.axu with op := some (.homing 5) } }, by and_intros <;> decide⟩

theorem witness_StepsOfAnAxis_19 :
    ∃ (s : State), inService s = true ∧ s.axu.op = none :=
  ⟨axisStopped, by and_intros <;> decide⟩

theorem witness_StepsOfAnAxis_20 :
    ∃ (s : State), inService s = true ∧ s.axu.op = none :=
  ⟨axisStopped, by and_intros <;> decide⟩

theorem witness_StepsOfAnAxis_21 :
    ∃ (s : State), inService s = true ∧ s.axu.op = none :=
  ⟨axisStopped, by and_intros <;> decide⟩

theorem witness_StepsOfAnAxis_22 :
    ∃ (s : State), inService s = true ∧ isAxis s = true ∧ s.axu.op = none :=
  ⟨axisStopped, by and_intros <;> decide⟩

theorem witness_StepsOfAnAxis_23 :
    ∃ (s : State), inService s = true ∧ isAxis s = false :=
  ⟨headStopped, by and_intros <;> decide⟩

theorem witness_StepsOfAnAxis_24 :
    ∃ (pt : Int) (st : Int) (d : Int) (k : Nat) (s : State), inService s = true ∧ isAxis s = true ∧ s.axu.op = some (.moveto
      pt st d k) :=
  ⟨1, 6, 6, 1, { axisStopped with axu := { axisStopped.axu with op := some (.moveto 1 6 6 1) } }, by and_intros <;> decide⟩

theorem witness_StepsOfAnAxis_25 :
    ∃ (pt : Int) (st : Int) (d : Int) (k : Nat) (s : State), inService s = true ∧ s.axu.op = some (.moveto pt st d k) :=
  ⟨1, 6, 6, 1, { axisStopped with axu := { axisStopped.axu with op := some (.moveto 1 6 6 1) } }, by and_intros <;> decide⟩

theorem witness_StepsOfAnAxis_26 :
    ∃ (pt : Int) (st : Int) (d : Int) (k : Nat) (s : State), inService s = true ∧ s.axu.op = some (.moveto pt st d k) :=
  ⟨1, 6, 6, 1, { axisStopped with axu := { axisStopped.axu with op := some (.moveto 1 6 6 1) } }, by and_intros <;> decide⟩

theorem witness_StepsOfAnAxis_27 :
    ∃ (k : Nat) (s : State), inService s = true ∧ s.axu.op = some (.homing k) :=
  ⟨5, { axisStopped with axu := { axisStopped.axu with op := some (.homing 5) } }, by and_intros <;> decide⟩

theorem witness_SelectorInputsAndTimers_0 :
    ∃ (p : Nat) (s : State), inService s = true ∧ isHead s = true ∧ s.pcu.win = .opened ∧ s.pcu.starve = .stopped ∧
      s.slu.sel = .moving p ∧ s.slu.dir = .positive ∧ s.slu.counter + 1 = p ∧ p ≤ s.params.needles ∧ s.slu.counter < 15 :=
  ⟨4, (let t : State := { headRunning with
      pcu := { headRunning.pcu with win := .opened, openW := some ⟨.change 0, ⟨4, 7, 0⟩⟩ } }; { t with
      slu := { t.slu with sel := .moving 4, counter := 3, dir := .positive, moveLimit := .running 9, settle := .running 9 }
        }), by and_intros <;> decide⟩

theorem witness_SelectorInputsAndTimers_1 :
    ∃ (p : Nat) (s : State), inService s = true ∧ isHead s = true ∧ s.pcu.win = .opened ∧ s.pcu.starve = .stopped ∧
      s.slu.sel = .moving p ∧ s.slu.dir = .negative ∧ s.slu.counter = p + 1 ∧ 1 ≤ p ∧ p ≤ s.params.needles :=
  ⟨4, (let t : State := { headRunning with
      pcu := { headRunning.pcu with win := .opened, openW := some ⟨.change 0, ⟨4, 7, 0⟩⟩ } }; { t with
      slu := { t.slu with sel := .moving 4, counter := 5, dir := .negative, moveLimit := .running 9, settle := .running 9 }
        }), by and_intros <;> decide⟩

theorem witness_SelectorInputsAndTimers_2 :
    ∃ (p : Nat) (s : State), inService s = true ∧ isHead s = true ∧ s.pcu.win = .opened ∧ s.pcu.starve = .stopped ∧
      s.slu.sel = .moving p ∧ s.slu.dir = .positive ∧ s.slu.counter + 1 ≠ p ∧ s.slu.counter + 1 ≤ s.params.needles ∧
      s.slu.counter < 15 :=
  ⟨4, (let t : State := { headRunning with
      pcu := { headRunning.pcu with win := .opened, openW := some ⟨.change 0, ⟨4, 7, 0⟩⟩ } }; { t with
      slu := { t.slu with sel := .moving 4, counter := 1, dir := .positive, moveLimit := .running 9, settle := .running 9 }
        }), by and_intros <;> decide⟩

theorem witness_SelectorInputsAndTimers_3 :
    ∃ (p : Nat) (s : State), inService s = true ∧ isHead s = true ∧ s.pcu.win = .opened ∧ s.pcu.starve = .stopped ∧
      s.slu.sel = .moving p ∧ s.slu.dir = .negative ∧ s.slu.counter ≠ p + 1 ∧ 2 ≤ s.slu.counter ∧ s.slu.counter ≤
      s.params.needles + 1 :=
  ⟨4, (let t : State := { headRunning with
      pcu := { headRunning.pcu with win := .opened, openW := some ⟨.change 0, ⟨4, 7, 0⟩⟩ } }; { t with
      slu := { t.slu with sel := .moving 4, counter := 8, dir := .negative, moveLimit := .running 9, settle := .running 9 }
        }), by and_intros <;> decide⟩

theorem witness_SelectorInputsAndTimers_4 :
    ∃ (p : Nat) (s : State), inService s = true ∧ isHead s = true ∧ selectorTarget s.slu.sel = some p ∧ s.slu.dir =
      .positive ∧ s.params.needles < s.slu.counter + 1 ∧ s.slu.counter < 15 :=
  ⟨4, (let t : State := { headRunning with
      pcu := { headRunning.pcu with win := .opened, openW := some ⟨.change 0, ⟨4, 7, 0⟩⟩ } }; { t with
      slu := { t.slu with
          sel := .moving 4, counter := 12, dir := .positive, moveLimit := .running 9, settle := .running 9 } }), by
    and_intros <;> decide⟩

theorem witness_SelectorInputsAndTimers_5 :
    ∃ (p : Nat) (s : State), inService s = true ∧ isHead s = true ∧ selectorTarget s.slu.sel = some p ∧ s.slu.dir =
      .positive ∧ s.slu.counter = 15 ∧ s.params.needles ≤ 15 :=
  ⟨4, (let t : State := { headRunning with
      pcu := { headRunning.pcu with win := .opened, openW := some ⟨.change 0, ⟨4, 7, 0⟩⟩ } }; { t with
      slu := { t.slu with
          sel := .moving 4, counter := 15, dir := .positive, moveLimit := .running 9, settle := .running 9 } }), by
    and_intros <;> decide⟩

theorem witness_SelectorInputsAndTimers_6 :
    ∃ (p : Nat) (s : State), inService s = true ∧ isHead s = true ∧ selectorTarget s.slu.sel = some p ∧ s.slu.dir =
      .negative ∧ s.slu.counter = 1 :=
  ⟨4, (let t : State := { headRunning with
      pcu := { headRunning.pcu with win := .opened, openW := some ⟨.change 0, ⟨4, 7, 0⟩⟩ } }; { t with
      slu := { t.slu with sel := .moving 4, counter := 1, dir := .negative, moveLimit := .running 9, settle := .running 9 }
        }), by and_intros <;> decide⟩

theorem witness_SelectorInputsAndTimers_7 :
    ∃ (p : Nat) (s : State), inService s = true ∧ isHead s = true ∧ selectorTarget s.slu.sel = some p ∧ s.slu.dir =
      .negative ∧ s.slu.counter = 0 :=
  ⟨4, (let t : State := { headRunning with
      pcu := { headRunning.pcu with win := .opened, openW := some ⟨.change 0, ⟨4, 7, 0⟩⟩ } }; { t with
      slu := { t.slu with sel := .moving 4, counter := 0, dir := .negative, moveLimit := .running 9, settle := .running 9 }
        }), by and_intros <;> decide⟩

theorem witness_SelectorInputsAndTimers_8 :
    ∃ (p : Nat) (s : State), inService s = true ∧ isHead s = true ∧ s.pcu.win = .opened ∧ s.pcu.starve = .stopped ∧
      s.slu.sel = .confirming p ∧ s.slu.dir = .positive ∧ s.slu.counter + 1 ≤ s.params.needles ∧ s.slu.counter < 15 :=
  ⟨4, (let t : State := { headRunning with
      pcu := { headRunning.pcu with win := .opened, openW := some ⟨.change 0, ⟨4, 7, 0⟩⟩ } }; { t with
      slu := { t.slu with
          sel := .confirming 4, counter := 4, dir := .positive, moveLimit := .running 9, settle := .running 9 } }), by
    and_intros <;> decide⟩

theorem witness_SelectorInputsAndTimers_9 :
    ∃ (p : Nat) (s : State), inService s = true ∧ isHead s = true ∧ s.pcu.win = .opened ∧ s.pcu.starve = .stopped ∧
      s.slu.sel = .confirming p ∧ s.slu.dir = .negative ∧ 2 ≤ s.slu.counter ∧ s.slu.counter ≤ s.params.needles + 1 :=
  ⟨4, (let t : State := { headRunning with
      pcu := { headRunning.pcu with win := .opened, openW := some ⟨.change 0, ⟨4, 7, 0⟩⟩ } }; { t with
      slu := { t.slu with
          sel := .confirming 4, counter := 4, dir := .negative, moveLimit := .running 9, settle := .running 9 } }), by
    and_intros <;> decide⟩

theorem witness_SelectorInputsAndTimers_10 :
    ∃ (s : State), inService s = true ∧ isHead s = true ∧ selectorBusy s = false :=
  ⟨headStopped, by and_intros <;> decide⟩

theorem witness_SelectorInputsAndTimers_11 :
    ∃ (s : State), inService s = true ∧ isHead s = true ∧ (selectorBusy s = true ∨ s.slu.sel = .unknown ∨ s.slu.sel =
      .jammed) :=
  ⟨headStopped, by and_intros <;> decide⟩

theorem witness_SelectorInputsAndTimers_12 :
    ∃ (p : Nat) (s : State), inService s = true ∧ isHead s = true ∧ s.slu.sel = .settled p ∧ s.pcu.run = .stopped ∧
      s.pcu.win = .preparing :=
  ⟨4, { headStopped with slu := { headStopped.slu with sel := .settled 4 } }, by and_intros <;> decide⟩

theorem witness_SelectorInputsAndTimers_13 :
    ∃ (p : Nat) (s : State), inService s = true ∧ isHead s = true ∧ s.slu.sel = .settled p :=
  ⟨4, (let t : State := { headRunning with
      pcu := { headRunning.pcu with win := .opened, openW := some ⟨.change 0, ⟨4, 7, 0⟩⟩ } }; { t with
      slu := { t.slu with sel := .settled 4 } }), by and_intros <;> decide⟩

theorem witness_SelectorInputsAndTimers_14 :
    ∃ (p : Nat) (s : State), inService s = true ∧ s.slu.sel = .moving p ∧ isRunning s.slu.moveLimit = true :=
  ⟨4, (let t : State := { headRunning with
      pcu := { headRunning.pcu with win := .opened, openW := some ⟨.change 0, ⟨4, 7, 0⟩⟩ } }; { t with
      slu := { t.slu with sel := .moving 4, counter := 4, dir := .negative, moveLimit := .running 9, settle := .running 9 }
        }), by and_intros <;> decide⟩

theorem witness_SelectorInputsAndTimers_15 :
    ∃ (s : State), inService s = true ∧ isRunning s.slu.moveLimit = false :=
  ⟨headStopped, by and_intros <;> decide⟩

theorem witness_SelectorInputsAndTimers_16 :
    ∃ (lines : CodeLines) (p : Nat) (s : State), inService s = true ∧ s.slu.sel = .confirming p ∧ isRunning s.slu.settle =
      true ∧ readCode s.params.needles s.slu.detent lines = none :=
  ⟨0xF, 4, (let t : State := { headRunning with
      pcu := { headRunning.pcu with win := .opened, openW := some ⟨.change 0, ⟨4, 7, 0⟩⟩ } }; { t with
      slu := { t.slu with
          sel := .confirming 4, counter := 4, dir := .negative, moveLimit := .running 9, settle := .running 9 } }), by
    and_intros <;> decide⟩

theorem witness_SelectorInputsAndTimers_17 :
    ∃ (lines : CodeLines) (p : Nat) (s : State), inService s = true ∧ s.slu.sel = .confirming p ∧ isRunning s.slu.settle =
      true ∧ readCode s.params.needles s.slu.detent lines = some p :=
  ⟨0xB, 4, (let t : State := { headRunning with
      pcu := { headRunning.pcu with win := .opened, openW := some ⟨.change 0, ⟨4, 7, 0⟩⟩ } }; { t with
      slu := { t.slu with
          sel := .confirming 4, counter := 4, dir := .negative, moveLimit := .running 9, settle := .running 9 } }), by
    and_intros <;> decide⟩

theorem witness_SelectorInputsAndTimers_18 :
    ∃ (lines : CodeLines) (p : Nat) (q : Nat) (s : State), inService s = true ∧ s.pcu.win = .opened ∧ s.pcu.starve =
      .stopped ∧ s.slu.sel = .confirming p ∧ isRunning s.slu.settle = true ∧ readCode s.params.needles s.slu.detent lines =
      some q ∧ q ≠ p ∧ s.slu.reMoved = false :=
  ⟨0xA, 4, 5, (let t : State := { headRunning with
      pcu := { headRunning.pcu with win := .opened, openW := some ⟨.change 0, ⟨4, 7, 0⟩⟩ } }; { t with
      slu := { t.slu with
          sel := .confirming 4, counter := 4, dir := .negative, moveLimit := .running 9, settle := .running 9 } }), by
    and_intros <;> decide⟩

theorem witness_SelectorInputsAndTimers_19 :
    ∃ (lines : CodeLines) (p : Nat) (q : Nat) (s : State), inService s = true ∧ s.slu.sel = .confirming p ∧ isRunning
      s.slu.settle = true ∧ readCode s.params.needles s.slu.detent lines = some q ∧ q ≠ p ∧ s.slu.reMoved = true :=
  ⟨0xA, 4, 5, (let t : State := { headRunning with
      pcu := { headRunning.pcu with win := .opened, openW := some ⟨.change 0, ⟨4, 7, 0⟩⟩ } }; { t with
      slu := { t.slu with sel := .confirming 4, reMoved := true, settle := .running 9 } }), by and_intros <;> decide⟩

theorem witness_SelectorInputsAndTimers_20 :
    ∃ (s : State), inService s = true ∧ isRunning s.slu.settle = false :=
  ⟨headStopped, by and_intros <;> decide⟩

theorem witness_SelectorInputsAndTimers_21 :
    ∃ (s : State), inService s = true ∧ isRunning s.slu.trim = false :=
  ⟨headStopped, by and_intros <;> decide⟩

theorem witness_SelectorInputsAndTimers_22 :
    ∃ (n : Nat) (r : Rec) (s : State), inService s = true ∧ isRunning s.slu.trim = true ∧ s.pcu.openW = some ⟨.trim n, r⟩ :=
  ⟨0, ⟨3, 0, 0⟩, { headRunning with
      slu := { headRunning.slu with trim := .running 9 },
      pcu := { headRunning.pcu with win := .opened, openW := some ⟨.trim 0, ⟨3, 0, 0⟩⟩ } }, by and_intros <;> decide⟩

theorem witness_SelectorInputsAndTimers_23 :
    ∃ (n : Nat) (r : Rec) (p : Nat) (s : State), inService s = true ∧ isRunning s.slu.trim = true ∧ s.pcu.openW = some
      ⟨.change n, r⟩ ∧ mapNeedle r.o1.toNat s = p ∧ needleUsable p s = false :=
  ⟨0, ⟨4, 7, 0⟩, 0, (let t : State := { headRunning with
      pcu := { headRunning.pcu with win := .opened, openW := some ⟨.change 0, ⟨4, 7, 0⟩⟩ } }; { t with
      slu := { t.slu with trim := .running 9 } }), by and_intros <;> decide⟩

theorem witness_SelectorInputsAndTimers_24 :
    ∃ (w : WindowRec) (colour : Nat) (p : Nat) (s : State), inService s = true ∧ isRunning s.slu.trim = true ∧ s.pcu.openW =
      some w ∧ colourOfWindow w s = some colour ∧ mapNeedle colour s = p :=
  ⟨⟨.change 0, ⟨4, 7, 0⟩⟩, 7, 0, (let t : State := { headRunning with
      pcu := { headRunning.pcu with win := .opened, openW := some ⟨.change 0, ⟨4, 7, 0⟩⟩ } }; { t with
      slu := { t.slu with trim := .running 9 } }), by and_intros <;> decide⟩

theorem witness_SelectorInputsAndTimers_25 :
    ∃ (lines : CodeLines) (n : Nat) (r : Rec) (p : Nat) (q : Nat) (s : State), inService s = true ∧ s.pcu.win = .opened ∧
      s.pcu.starve = .stopped ∧ isRunning s.slu.trim = true ∧ s.pcu.openW = some ⟨.change n, r⟩ ∧ mapNeedle r.o1.toNat s = p
      ∧ needleUsable p s = true ∧ selectorStart lines s = some q ∧ q ≠ p :=
  ⟨0xA, 0, ⟨4, 7, 0⟩, 3, 5, (let t : State := { headRunning with
      pcu := { headRunning.pcu with win := .opened, openW := some ⟨.change 0, ⟨4, 7, 0⟩⟩ } }; { t with
      slu := { t.slu with trim := .running 9, map := t.slu.map.set 7 3 } }), by and_intros <;> decide⟩

theorem witness_SelectorInputsAndTimers_26 :
    ∃ (lines : CodeLines) (r : Rec) (p : Nat) (q : Nat) (s : State), inService s = true ∧ s.pcu.win = .opened ∧ s.pcu.starve
      = .stopped ∧ isRunning s.slu.trim = true ∧ s.pcu.openW = some ⟨.prepare, r⟩ ∧ mapNeedle (colorInForce s.drg
      s.pcu.cursor.n) s = p ∧ needleUsable p s = true ∧ selectorStart lines s = some q ∧ q ≠ p :=
  ⟨0xA, ⟨4, 7, 0⟩, 3, 5, (let t : State := (let t : State := { headRunning with
      pcu := { headRunning.pcu with win := .opened, openW := some ⟨.change 0, ⟨4, 7, 0⟩⟩ } }; { t with
      slu := { t.slu with trim := .running 9, map := t.slu.map.set 0 3 } }); { t with
      pcu := { t.pcu with openW := some ⟨.prepare, ⟨4, 7, 0⟩⟩ } }), by and_intros <;> decide⟩

theorem witness_SelectorInputsAndTimers_27 :
    ∃ (p : Nat) (s : State), inService s = true ∧ isHead s = true ∧ selectorTarget s.slu.sel = some p :=
  ⟨4, (let t : State := { headRunning with
      pcu := { headRunning.pcu with win := .opened, openW := some ⟨.change 0, ⟨4, 7, 0⟩⟩ } }; { t with
      slu := { t.slu with sel := .moving 4, counter := 3, dir := .positive, moveLimit := .running 9, settle := .running 9 }
        }), by and_intros <;> decide⟩

theorem witness_SelectorInputsAndTimers_28 :
    ∃ (p : Nat) (s : State), inService s = true ∧ isHead s = true ∧ s.slu.sel = .settled p :=
  ⟨4, (let t : State := { headRunning with
      pcu := { headRunning.pcu with win := .opened, openW := some ⟨.change 0, ⟨4, 7, 0⟩⟩ } }; { t with
      slu := { t.slu with sel := .settled 4 } }), by and_intros <;> decide⟩

theorem witness_SelectorInputsAndTimers_29 :
    ∃ (p : Nat) (s : State), inService s = true ∧ s.slu.sel = .moving p ∧ isRunning s.slu.moveLimit = true :=
  ⟨4, (let t : State := { headRunning with
      pcu := { headRunning.pcu with win := .opened, openW := some ⟨.change 0, ⟨4, 7, 0⟩⟩ } }; { t with
      slu := { t.slu with sel := .moving 4, counter := 4, dir := .negative, moveLimit := .running 9, settle := .running 9 }
        }), by and_intros <;> decide⟩

theorem witness_SelectorInputsAndTimers_30 :
    ∃ (p : Nat) (s : State), inService s = true ∧ s.slu.sel = .confirming p ∧ isRunning s.slu.settle = true :=
  ⟨4, (let t : State := { headRunning with
      pcu := { headRunning.pcu with win := .opened, openW := some ⟨.change 0, ⟨4, 7, 0⟩⟩ } }; { t with
      slu := { t.slu with
          sel := .confirming 4, counter := 4, dir := .negative, moveLimit := .running 9, settle := .running 9 } }), by
    and_intros <;> decide⟩

theorem witness_SelectorInputsAndTimers_31 :
    ∃ (s : State), inService s = true ∧ isRunning s.slu.trim = true :=
  ⟨(let t : State := { headRunning with
      pcu := { headRunning.pcu with win := .opened, openW := some ⟨.change 0, ⟨4, 7, 0⟩⟩ } }; { t with
      slu := { t.slu with trim := .running 9 } }), by and_intros <;> decide⟩

theorem witness_SelectorInputsAndTimers_32 :
    ∃ (s : State), inService s = true ∧ isHead s = false :=
  ⟨axisStopped, by and_intros <;> decide⟩

theorem witness_SelectorInputsAndTimers_33 :
    ∃ (s : State), inService s = true ∧ isHead s = false :=
  ⟨axisStopped, by and_intros <;> decide⟩

theorem witness_SelectorInputsAndTimers_34 :
    ∃ (s : State), inService s = true ∧ selectorBusy s = false :=
  ⟨headStopped, by and_intros <;> decide⟩

theorem witness_SelectorInputsAndTimers_35 :
    ∃ (p : Nat) (s : State), inService s = true ∧ s.slu.sel = .confirming p :=
  ⟨4, (let t : State := { headRunning with
      pcu := { headRunning.pcu with win := .opened, openW := some ⟨.change 0, ⟨4, 7, 0⟩⟩ } }; { t with
      slu := { t.slu with
          sel := .confirming 4, counter := 4, dir := .negative, moveLimit := .running 9, settle := .running 9 } }), by
    and_intros <;> decide⟩

theorem witness_SelectorInputsAndTimers_36 :
    ∃ (s : State), inService s = true ∧ selectorBusy s = false :=
  ⟨headStopped, by and_intros <;> decide⟩

theorem witness_SelectorInputsAndTimers_37 :
    ∃ (p : Nat) (s : State), inService s = true ∧ s.slu.sel = .moving p :=
  ⟨4, (let t : State := { headRunning with
      pcu := { headRunning.pcu with win := .opened, openW := some ⟨.change 0, ⟨4, 7, 0⟩⟩ } }; { t with
      slu := { t.slu with sel := .moving 4, counter := 4, dir := .negative, moveLimit := .running 9, settle := .running 9 }
        }), by and_intros <;> decide⟩

theorem witness_SelectorInputsAndTimers_38 :
    ∃ (s : State), inService s = true ∧ isRunning s.slu.trim = true ∧ s.pcu.openW.bind (colourOfWindow · s) = none :=
  ⟨(let t : State := { headRunning with
      pcu := { headRunning.pcu with win := .opened, openW := some ⟨.change 0, ⟨4, 7, 0⟩⟩ } }; { t with
      slu := { t.slu with trim := .running 9 }, pcu := { t.pcu with openW := some ⟨.trim 0, ⟨3, 0, 0⟩⟩ } }), by and_intros
    <;> decide⟩

theorem witness_NeedleInputs_0 :
    ∃ (s : State), inService s = true ∧ isHead s = true ∧ s.stu.phase = .downstroke :=
  ⟨(let t : State := { headRunning with
      pcu := { headRunning.pcu with win := .opened, openW := some ⟨.change 0, ⟨4, 7, 0⟩⟩ } }; { t with
      stu := { t.stu with
          phase := .downstroke, needle := 3, strokeLimit := .running 9, tsWait := .running 9, copy := ⟨1, 3, 4⟩ },
      thm := { t.thm with lastNeedle := 3 } }), by and_intros <;> decide⟩

theorem witness_NeedleInputs_1 :
    ∃ (s : State), inService s = true ∧ isHead s = true ∧ s.stu.phase ≠ .downstroke :=
  ⟨headStopped, by and_intros <;> decide⟩

theorem witness_NeedleInputs_2 :
    ∃ (s : State), inService s = true ∧ isHead s = true :=
  ⟨headStopped, by and_intros <;> decide⟩

theorem witness_NeedleInputs_3 :
    ∃ (s : State), inService s = true ∧ isHead s = true :=
  ⟨headStopped, by and_intros <;> decide⟩

theorem witness_NeedleInputs_4 :
    ∃ (s : State), inService s = true ∧ isHead s = true ∧ s.stu.phase = .upstroke ∧ s.thm.sample = none ∧ s.pcu.win =
      .opened ∧ s.pcu.starve = .stopped :=
  ⟨(let t : State := { headRunning with
      pcu := { headRunning.pcu with win := .opened, openW := some ⟨.change 0, ⟨4, 7, 0⟩⟩ } }; { t with
      stu := { t.stu with
          phase := .upstroke, needle := 3, strokeLimit := .running 9, tsWait := .running 9, copy := ⟨1, 3, 4⟩ },
      thm := { t.thm with lastNeedle := 3 } }), by and_intros <;> decide⟩

theorem witness_NeedleInputs_5 :
    ∃ (s : State), inService s = true ∧ isHead s = true ∧ s.stu.phase = .stuck :=
  ⟨(let t : State := { headRunning with
      pcu := { headRunning.pcu with win := .opened, openW := some ⟨.change 0, ⟨4, 7, 0⟩⟩ } }; { t with
      stu := { t.stu with
          phase := .stuck, needle := 3, strokeLimit := .running 9, tsWait := .running 9, copy := ⟨1, 3, 4⟩ },
      thm := { t.thm with lastNeedle := 3 } }), by and_intros <;> decide⟩

theorem witness_NeedleInputs_6 :
    ∃ (s : State), inService s = true ∧ isHead s = true ∧ s.stu.phase ≠ .upstroke ∧ s.stu.phase ≠ .stuck :=
  ⟨headStopped, by and_intros <;> decide⟩

theorem witness_NeedleInputs_7 :
    ∃ (r : Rec) (s : State), inService s = true ∧ isHead s = true ∧ s.stu.phase = .idle ∧ s.pcu.run = .running ∧ s.pcu.win =
      .preparing ∧ s.pcu.pendingStop = none ∧ s.pcu.haltSeen = false ∧ agreementWaiting s = false ∧ s.pcu.edge = .settled ∧
      trimming s = false ∧ selectorBusy s = false ∧ s.pcu.preparePending = true ∧ recAtN s = some r :=
  ⟨⟨1, 3, 4⟩, { withRecords [⟨1, 3, 4⟩] headRunning with pcu := { headRunning.pcu with preparePending := true } }, by
    and_intros <;> decide⟩

theorem witness_NeedleInputs_8 :
    ∃ (s : State), inService s = true ∧ isRunning s.stu.strokeLimit = true ∧ s.stu.phase = .downstroke ∧ s.stu.needleUp =
      true :=
  ⟨(let t : State := { headRunning with
      pcu := { headRunning.pcu with win := .opened, openW := some ⟨.change 0, ⟨4, 7, 0⟩⟩ } }; { t with
      stu := { t.stu with
          phase := .downstroke, needle := 3, strokeLimit := .running 9, tsWait := .running 9, copy := ⟨1, 3, 4⟩ },
      thm := { t.thm with lastNeedle := 3 } }), by and_intros <;> decide⟩

theorem witness_NeedleInputs_9 :
    ∃ (s : State), inService s = true ∧ isHead s = true :=
  ⟨(let t : State := { headRunning with
      pcu := { headRunning.pcu with win := .opened, openW := some ⟨.change 0, ⟨4, 7, 0⟩⟩ } }; { t with
      stu := { t.stu with
          phase := .upstroke, needle := 3, strokeLimit := .running 9, tsWait := .running 9, copy := ⟨1, 3, 4⟩ },
      thm := { t.thm with lastNeedle := 3 } }), by and_intros <;> decide⟩

theorem witness_NeedleInputs_10 :
    ∃ (s : State), inService s = true ∧ isRunning s.stu.strokeLimit = true ∧ s.stu.phase = .downstroke ∧ s.stu.needleUp =
      true :=
  ⟨(let t : State := { headRunning with
      pcu := { headRunning.pcu with win := .opened, openW := some ⟨.change 0, ⟨4, 7, 0⟩⟩ } }; { t with
      stu := { t.stu with
          phase := .downstroke, needle := 3, strokeLimit := .running 9, tsWait := .running 9, copy := ⟨1, 3, 4⟩ },
      thm := { t.thm with lastNeedle := 3 } }), by and_intros <;> decide⟩

theorem witness_NeedleInputs_11 :
    ∃ (s : State), inService s = true ∧ isRunning s.stu.strokeLimit = true ∧ (s.stu.phase = .upstroke ∨ (s.stu.phase =
      .downstroke ∧ s.stu.needleUp = false)) :=
  ⟨(let t : State := { headRunning with
      pcu := { headRunning.pcu with win := .opened, openW := some ⟨.change 0, ⟨4, 7, 0⟩⟩ } }; { t with
      stu := { t.stu with
          phase := .upstroke, needle := 3, strokeLimit := .running 9, tsWait := .running 9, copy := ⟨1, 3, 4⟩ },
      thm := { t.thm with lastNeedle := 3 } }), by and_intros <;> decide⟩

theorem witness_NeedleInputs_12 :
    ∃ (s : State), inService s = true ∧ s.stu.phase ≠ .downstroke ∧ s.stu.phase ≠ .upstroke :=
  ⟨(let t : State := { headRunning with
      pcu := { headRunning.pcu with win := .opened, openW := some ⟨.change 0, ⟨4, 7, 0⟩⟩ } }; { t with
      stu := { t.stu with
          phase := .dwell, needle := 3, strokeLimit := .running 9, tsWait := .running 9, copy := ⟨1, 3, 4⟩ },
      thm := { t.thm with lastNeedle := 3 } }), by and_intros <;> decide⟩

theorem witness_NeedleInputs_13 :
    ∃ (s : State), inService s = true ∧ isHead s = true ∧ s.stu.phase = .upstroke ∧ s.thm.sample = none :=
  ⟨(let t : State := { headRunning with
      pcu := { headRunning.pcu with win := .opened, openW := some ⟨.change 0, ⟨4, 7, 0⟩⟩ } }; { t with
      stu := { t.stu with
          phase := .upstroke, needle := 3, strokeLimit := .running 9, tsWait := .running 9, copy := ⟨1, 3, 4⟩ },
      thm := { t.thm with lastNeedle := 3 } }), by and_intros <;> decide⟩

theorem witness_NeedleInputs_14 :
    ∃ (s : State), inService s = true ∧ isHead s = false :=
  ⟨axisStopped, by and_intros <;> decide⟩

theorem witness_NeedleInputs_15 :
    ∃ (s : State), inService s = true ∧ isHead s = false :=
  ⟨axisStopped, by and_intros <;> decide⟩

theorem witness_NeedleInputs_16 :
    ∃ (s : State), inService s = true ∧ isHead s = false :=
  ⟨axisStopped, by and_intros <;> decide⟩

theorem witness_NeedleInputs_17 :
    ∃ (s : State), inService s = true ∧ isHead s = false :=
  ⟨axisStopped, by and_intros <;> decide⟩

theorem witness_NeedleInputs_18 :
    ∃ (s : State), inService s = true ∧ isRunning s.stu.strokeLimit = false :=
  ⟨headStopped, by and_intros <;> decide⟩

theorem witness_SampleFeedSurgeAndDwell_0 :
    ∃ (s : State), inService s = true ∧ isRunning s.thm.oneShot = true :=
  ⟨(let t : State := { headRunning with
      pcu := { headRunning.pcu with win := .opened, openW := some ⟨.change 0, ⟨4, 7, 0⟩⟩ } }; { t with
      stu := { t.stu with
          phase := .upstroke, needle := 3, strokeLimit := .running 9, tsWait := .running 9, copy := ⟨1, 3, 4⟩ },
      thm := { t.thm with lastNeedle := 3 , oneShot := .running 5 } }), by and_intros <;> decide⟩

theorem witness_SampleFeedSurgeAndDwell_1 :
    ∃ (s : State), inService s = true ∧ isRunning s.thm.oneShot = false :=
  ⟨headStopped, by and_intros <;> decide⟩

theorem witness_SampleFeedSurgeAndDwell_2 :
    ∃ (s : State), inService s = true ∧ s.thm.conv = .none :=
  ⟨headStopped, by and_intros <;> decide⟩

theorem witness_SampleFeedSurgeAndDwell_3 :
    ∃ (s : State), inService s = true ∧ s.thm.conv ≠ .none ∧ s.stu.phase ≠ .sampling :=
  ⟨(let t : State := { headRunning with
      pcu := { headRunning.pcu with win := .opened, openW := some ⟨.change 0, ⟨4, 7, 0⟩⟩ } }; { t with
      stu := { t.stu with
          phase := .upstroke, needle := 3, strokeLimit := .running 9, tsWait := .running 9, copy := ⟨1, 3, 4⟩ },
      thm := { t.thm with lastNeedle := 3 , conv := .onTime } }), by and_intros <;> decide⟩

theorem witness_SampleFeedSurgeAndDwell_4 :
    ∃ (s : State), inService s = true ∧ s.thm.conv ≠ .none ∧ s.stu.phase = .sampling :=
  ⟨(let t : State := { headRunning with
      pcu := { headRunning.pcu with win := .opened, openW := some ⟨.change 0, ⟨4, 7, 0⟩⟩ } }; { t with
      stu := { t.stu with
          phase := .sampling, needle := 3, strokeLimit := .running 9, tsWait := .running 9, copy := ⟨1, 3, 4⟩ },
      thm := { t.thm with lastNeedle := 3 , conv := .late } }), by and_intros <;> decide⟩

theorem witness_SampleFeedSurgeAndDwell_5 :
    ∃ (s : State), inService s = true ∧ s.thm.conv ≠ .none ∧ s.stu.phase = .sampling :=
  ⟨(let t : State := { headRunning with
      pcu := { headRunning.pcu with win := .opened, openW := some ⟨.change 0, ⟨4, 7, 0⟩⟩ } }; { t with
      stu := { t.stu with
          phase := .sampling, needle := 3, strokeLimit := .running 9, tsWait := .running 9, copy := ⟨1, 3, 4⟩ },
      thm := { t.thm with lastNeedle := 3 , conv := .late } }), by and_intros <;> decide⟩

theorem witness_SampleFeedSurgeAndDwell_6 :
    ∃ (s : State), inService s = true ∧ (s.stu.phase = .downstroke ∨ s.stu.phase = .upstroke) :=
  ⟨(let t : State := { headRunning with
      pcu := { headRunning.pcu with win := .opened, openW := some ⟨.change 0, ⟨4, 7, 0⟩⟩ } }; { t with
      stu := { t.stu with
          phase := .upstroke, needle := 3, strokeLimit := .running 9, tsWait := .running 9, copy := ⟨1, 3, 4⟩ },
      thm := { t.thm with lastNeedle := 3 } }), by and_intros <;> decide⟩

theorem witness_SampleFeedSurgeAndDwell_7 :
    ∃ (s : State), inService s = true ∧ s.stu.phase ≠ .downstroke ∧ s.stu.phase ≠ .upstroke :=
  ⟨headStopped, by and_intros <;> decide⟩

theorem witness_SampleFeedSurgeAndDwell_8 :
    ∃ (s : State), inService s = true ∧ (s.stu.phase = .downstroke ∨ s.stu.phase = .upstroke ∨ s.stu.phase = .stuck) :=
  ⟨(let t : State := { headRunning with
      pcu := { headRunning.pcu with win := .opened, openW := some ⟨.change 0, ⟨4, 7, 0⟩⟩ } }; { t with
      stu := { t.stu with
          phase := .upstroke, needle := 3, strokeLimit := .running 9, tsWait := .running 9, copy := ⟨1, 3, 4⟩ },
      thm := { t.thm with lastNeedle := 3 } }), by and_intros <;> decide⟩

theorem witness_SampleFeedSurgeAndDwell_9 :
    ∃ (s : State), inService s = true ∧ s.stu.phase ≠ .downstroke ∧ s.stu.phase ≠ .upstroke ∧ s.stu.phase ≠ .stuck :=
  ⟨headStopped, by and_intros <;> decide⟩

theorem witness_SampleFeedSurgeAndDwell_10 :
    ∃ (s : State), inService s = true ∧ isRunning s.stu.tsWait = true ∧ s.stu.phase = .dwell :=
  ⟨(let t : State := { headRunning with
      pcu := { headRunning.pcu with win := .opened, openW := some ⟨.change 0, ⟨4, 7, 0⟩⟩ } }; { t with
      stu := { t.stu with
          phase := .dwell, needle := 3, strokeLimit := .running 9, tsWait := .running 9, copy := ⟨1, 3, 4⟩ },
      thm := { t.thm with lastNeedle := 3 } }), by and_intros <;> decide⟩

theorem witness_SampleFeedSurgeAndDwell_11 :
    ∃ (r : StopReason) (s : State), inService s = true ∧ isHead s = true ∧ isRunning s.stu.tsWait = true ∧ s.stu.phase =
      .dwell ∧ s.pcu.win = .opened ∧ s.pcu.edge = .settled ∧ s.pcu.pendingStop = some r ∧ s.axu.move = none ∧ trimming s =
      false ∧ selectorBusy s = false :=
  ⟨.halted, (let t : State := (let t : State := { headRunning with
      pcu := { headRunning.pcu with win := .opened, openW := some ⟨.change 0, ⟨4, 7, 0⟩⟩ } }; { t with
      stu := { t.stu with
          phase := .dwell, needle := 3, strokeLimit := .running 9, tsWait := .running 9, copy := ⟨1, 3, 4⟩ },
      thm := { t.thm with lastNeedle := 3 } }); { t with
      pcu := { t.pcu with run := .stopping, pendingStop := some .halted } }), by and_intros <;> decide⟩

theorem witness_SampleFeedSurgeAndDwell_12 :
    ∃ (s : State), inService s = true ∧ isRunning s.stu.tsWait = true ∧ s.stu.phase = .dwell :=
  ⟨(let t : State := { headRunning with
      pcu := { headRunning.pcu with win := .opened, openW := some ⟨.change 0, ⟨4, 7, 0⟩⟩ } }; { t with
      stu := { t.stu with
          phase := .dwell, needle := 3, strokeLimit := .running 9, tsWait := .running 9, copy := ⟨1, 3, 4⟩ },
      thm := { t.thm with lastNeedle := 3 } }), by and_intros <;> decide⟩

theorem witness_SampleFeedSurgeAndDwell_13 :
    ∃ (r : Rec) (k : Window) (s : State), inService s = true ∧ isHead s = true ∧ isRunning s.stu.tsWait = true ∧ s.stu.phase
      = .dwell ∧ s.pcu.win = .opened ∧ s.pcu.edge = .settled ∧ s.axu.move = none ∧ trimming s = false ∧ selectorBusy s =
      false ∧ s.stu.needleUp = true ∧ s.pcu.pendingStop = none ∧ s.pcu.haltSeen = false ∧ agreementWaiting s = false ∧
      s.pcu.run = .running ∧ s.pcu.preparePending = false ∧ recAtN s = some r ∧ (if r.kind = 1 then (if s.pcu.cursor.step =
      .first then some (Window.move s.pcu.cursor.n) else some (.stroke s.pcu.cursor.n)) else if r.kind = 2 then some (.move
      s.pcu.cursor.n) else if r.kind = 3 then some (.trim s.pcu.cursor.n) else if r.kind = 4 then some (.change
      s.pcu.cursor.n) else none) = some k :=
  ⟨⟨1, 3, 4⟩, .move 0, withRecords [⟨1, 3, 4⟩] (let t : State := { headRunning with
      pcu := { headRunning.pcu with win := .opened, openW := some ⟨.change 0, ⟨4, 7, 0⟩⟩ } }; { t with
      stu := { t.stu with
          phase := .dwell, needle := 3, strokeLimit := .running 9, tsWait := .running 9, copy := ⟨1, 3, 4⟩ },
      thm := { t.thm with lastNeedle := 3 } }), by and_intros <;> decide⟩

theorem witness_SampleFeedSurgeAndDwell_14 :
    ∃ (s : State), inService s = true ∧ isRunning s.stu.tsWait = true ∧ s.stu.phase ≠ .dwell :=
  ⟨(let t : State := { headRunning with
      pcu := { headRunning.pcu with win := .opened, openW := some ⟨.change 0, ⟨4, 7, 0⟩⟩ } }; { t with
      stu := { t.stu with
          phase := .upstroke, needle := 3, strokeLimit := .running 9, tsWait := .running 9, copy := ⟨1, 3, 4⟩ },
      thm := { t.thm with lastNeedle := 3 } }), by and_intros <;> decide⟩

theorem witness_SampleFeedSurgeAndDwell_15 :
    ∃ (s : State), inService s = true ∧ isRunning s.stu.tsWait = false :=
  ⟨headStopped, by and_intros <;> decide⟩

theorem witness_StrokeEnds_0 :
    ∃ (x : Sample) (s : State), inService s = true ∧ isHead s = true ∧ s.stu.phase = .upstroke ∧ s.thm.sample = some x :=
  ⟨⟨400, false⟩, (let t : State := { headRunning with
      pcu := { headRunning.pcu with win := .opened, openW := some ⟨.change 0, ⟨4, 7, 0⟩⟩ } }; { t with
      stu := { t.stu with
          phase := .upstroke, needle := 3, strokeLimit := .running 9, tsWait := .running 9, copy := ⟨1, 3, 4⟩ },
      thm := { t.thm with lastNeedle := 3 , sample := some ⟨400, false⟩ } }), by and_intros <;> decide⟩

theorem witness_StrokeEnds_1 :
    ∃ (s : State), inService s = true ∧ s.stu.phase = .sampling ∧ s.thm.conv ≠ .none :=
  ⟨(let t : State := { headRunning with
      pcu := { headRunning.pcu with win := .opened, openW := some ⟨.change 0, ⟨4, 7, 0⟩⟩ } }; { t with
      stu := { t.stu with
          phase := .sampling, needle := 3, strokeLimit := .running 9, tsWait := .running 9, copy := ⟨1, 3, 4⟩ },
      thm := { t.thm with lastNeedle := 3 , conv := .late } }), by and_intros <;> decide⟩

theorem witness_StrokeEnds_2 :
    ∃ (t : Nat) (late : Bool) (s : State), inService s = true ∧ isHead s = true ∧ s.stu.phase = .upstroke ∧ s.thm.sample =
      some ⟨t, late⟩ ∧ strokeClass (feedClass s.params s.stu.copy s.thm.feed) (tensionClass s.params t s.thm.surge) = .good
      :=
  ⟨400, false, (let t : State := { headRunning with
      pcu := { headRunning.pcu with win := .opened, openW := some ⟨.change 0, ⟨4, 7, 0⟩⟩ } }; { t with
      stu := { t.stu with
          phase := .upstroke, needle := 3, strokeLimit := .running 9, tsWait := .running 9, copy := ⟨1, 3, 4⟩ ,
          recNo := 0 }, thm := { t.thm with lastNeedle := 3 , sample := some ⟨400, false⟩, feed := 7 } }), by and_intros <;>
    decide⟩

theorem witness_StrokeEnds_3 :
    ∃ (t : Nat) (late : Bool) (s : State), inService s = true ∧ isHead s = true ∧ s.stu.phase = .upstroke ∧ s.thm.sample =
      some ⟨t, late⟩ ∧ strokeClass (feedClass s.params s.stu.copy s.thm.feed) (tensionClass s.params t s.thm.surge) =
      .breakSuspect ∧ 1 ≤ s.stu.needle ∧ s.stu.needle ≤ 15 :=
  ⟨400, false, (let t : State := { headRunning with
      pcu := { headRunning.pcu with win := .opened, openW := some ⟨.change 0, ⟨4, 7, 0⟩⟩ } }; { t with
      stu := { t.stu with
          phase := .upstroke, needle := 3, strokeLimit := .running 9, tsWait := .running 9, copy := ⟨1, 3, 4⟩ ,
          recNo := 0 }, thm := { t.thm with lastNeedle := 3 , sample := some ⟨400, false⟩, feed := 0 } }), by and_intros <;>
    decide⟩

theorem witness_StrokeEnds_4 :
    ∃ (t : Nat) (late : Bool) (s : State), inService s = true ∧ isHead s = true ∧ s.stu.phase = .upstroke ∧ s.thm.sample =
      some ⟨t, late⟩ ∧ strokeClass (feedClass s.params s.stu.copy s.thm.feed) (tensionClass s.params t s.thm.surge) =
      .snagSuspect :=
  ⟨900, false, (let t : State := { headRunning with
      pcu := { headRunning.pcu with win := .opened, openW := some ⟨.change 0, ⟨4, 7, 0⟩⟩ } }; { t with
      stu := { t.stu with
          phase := .upstroke, needle := 3, strokeLimit := .running 9, tsWait := .running 9, copy := ⟨1, 3, 4⟩ ,
          recNo := 0 }, thm := { t.thm with lastNeedle := 3 , sample := some ⟨900, false⟩, feed := 0 } }), by and_intros <;>
    decide⟩

theorem witness_StrokeEnds_5 :
    ∃ (t : Nat) (late : Bool) (s : State), inService s = true ∧ isHead s = true ∧ s.stu.phase = .upstroke ∧ s.thm.sample =
      some ⟨t, late⟩ ∧ strokeClass (feedClass s.params s.stu.copy s.thm.feed) (tensionClass s.params t s.thm.surge) = .loose
      ∧ 1 ≤ s.stu.needle ∧ s.stu.needle ≤ 15 :=
  ⟨400, false, (let t : State := { headRunning with
      pcu := { headRunning.pcu with win := .opened, openW := some ⟨.change 0, ⟨4, 7, 0⟩⟩ } }; { t with
      stu := { t.stu with
          phase := .upstroke, needle := 3, strokeLimit := .running 9, tsWait := .running 9, copy := ⟨1, 3, 4⟩ ,
          recNo := 0 }, thm := { t.thm with lastNeedle := 3 , sample := some ⟨400, false⟩, feed := 50 } }), by and_intros
    <;> decide⟩

theorem witness_StrokeEnds_6 :
    ∃ (t : Nat) (late : Bool) (s : State), inService s = true ∧ isHead s = true ∧ s.stu.phase = .upstroke ∧ s.thm.sample =
      some ⟨t, late⟩ ∧ strokeClass (feedClass s.params s.stu.copy s.thm.feed) (tensionClass s.params t s.thm.surge) = .tight
      ∧ 1 ≤ s.stu.needle ∧ s.stu.needle ≤ 15 :=
  ⟨900, false, (let t : State := { headRunning with
      pcu := { headRunning.pcu with win := .opened, openW := some ⟨.change 0, ⟨4, 7, 0⟩⟩ } }; { t with
      stu := { t.stu with
          phase := .upstroke, needle := 3, strokeLimit := .running 9, tsWait := .running 9, copy := ⟨1, 3, 4⟩ ,
          recNo := 0 }, thm := { t.thm with lastNeedle := 3 , sample := some ⟨900, false⟩, feed := 7 } }), by and_intros <;>
    decide⟩

theorem witness_StrokeEnds_7 :
    ∃ (v : BitVec 10) (s : State), inService s = true ∧ s.stu.phase = .sampling ∧ s.thm.conv ≠ .none ∧ strokeClass
      (feedClass s.params s.stu.copy s.thm.feed) (tensionClass s.params v.toNat s.thm.surge) = .good :=
  ⟨400, (let t : State := { headRunning with
      pcu := { headRunning.pcu with win := .opened, openW := some ⟨.change 0, ⟨4, 7, 0⟩⟩ } }; { t with
      stu := { t.stu with
          phase := .sampling, needle := 3, strokeLimit := .running 9, tsWait := .running 9, copy := ⟨1, 3, 4⟩ ,
          recNo := 0 }, thm := { t.thm with lastNeedle := 3 , conv := .late, feed := 7 } }), by and_intros <;> decide⟩

theorem witness_StrokeEnds_8 :
    ∃ (v : BitVec 10) (s : State), inService s = true ∧ s.stu.phase = .sampling ∧ s.thm.conv ≠ .none ∧ strokeClass
      (feedClass s.params s.stu.copy s.thm.feed) (tensionClass s.params v.toNat s.thm.surge) = .breakSuspect ∧ 1 ≤
      s.stu.needle ∧ s.stu.needle ≤ 15 :=
  ⟨400, (let t : State := { headRunning with
      pcu := { headRunning.pcu with win := .opened, openW := some ⟨.change 0, ⟨4, 7, 0⟩⟩ } }; { t with
      stu := { t.stu with
          phase := .sampling, needle := 3, strokeLimit := .running 9, tsWait := .running 9, copy := ⟨1, 3, 4⟩ ,
          recNo := 0 }, thm := { t.thm with lastNeedle := 3 , conv := .late, feed := 0 } }), by and_intros <;> decide⟩

theorem witness_StrokeEnds_9 :
    ∃ (v : BitVec 10) (s : State), inService s = true ∧ s.stu.phase = .sampling ∧ s.thm.conv ≠ .none ∧ strokeClass
      (feedClass s.params s.stu.copy s.thm.feed) (tensionClass s.params v.toNat s.thm.surge) = .snagSuspect :=
  ⟨900, (let t : State := { headRunning with
      pcu := { headRunning.pcu with win := .opened, openW := some ⟨.change 0, ⟨4, 7, 0⟩⟩ } }; { t with
      stu := { t.stu with
          phase := .sampling, needle := 3, strokeLimit := .running 9, tsWait := .running 9, copy := ⟨1, 3, 4⟩ ,
          recNo := 0 }, thm := { t.thm with lastNeedle := 3 , conv := .late, feed := 0 } }), by and_intros <;> decide⟩

theorem witness_StrokeEnds_10 :
    ∃ (v : BitVec 10) (s : State), inService s = true ∧ s.stu.phase = .sampling ∧ s.thm.conv ≠ .none ∧ strokeClass
      (feedClass s.params s.stu.copy s.thm.feed) (tensionClass s.params v.toNat s.thm.surge) = .loose ∧ 1 ≤ s.stu.needle ∧
      s.stu.needle ≤ 15 :=
  ⟨400, (let t : State := { headRunning with
      pcu := { headRunning.pcu with win := .opened, openW := some ⟨.change 0, ⟨4, 7, 0⟩⟩ } }; { t with
      stu := { t.stu with
          phase := .sampling, needle := 3, strokeLimit := .running 9, tsWait := .running 9, copy := ⟨1, 3, 4⟩ ,
          recNo := 0 }, thm := { t.thm with lastNeedle := 3 , conv := .late, feed := 50 } }), by and_intros <;> decide⟩

theorem witness_StrokeEnds_11 :
    ∃ (v : BitVec 10) (s : State), inService s = true ∧ s.stu.phase = .sampling ∧ s.thm.conv ≠ .none ∧ strokeClass
      (feedClass s.params s.stu.copy s.thm.feed) (tensionClass s.params v.toNat s.thm.surge) = .tight ∧ 1 ≤ s.stu.needle ∧
      s.stu.needle ≤ 15 :=
  ⟨900, (let t : State := { headRunning with
      pcu := { headRunning.pcu with win := .opened, openW := some ⟨.change 0, ⟨4, 7, 0⟩⟩ } }; { t with
      stu := { t.stu with
          phase := .sampling, needle := 3, strokeLimit := .running 9, tsWait := .running 9, copy := ⟨1, 3, 4⟩ ,
          recNo := 0 }, thm := { t.thm with lastNeedle := 3 , conv := .late, feed := 7 } }), by and_intros <;> decide⟩

theorem witness_SupplyCrossings_0 :
    ∃ (s : State), inService s = true ∧ s.flt.supply = .normal :=
  ⟨{ headStopped with flt := { headStopped.flt with supply := .normal } }, by and_intros <;> decide⟩

theorem witness_SupplyCrossings_1 :
    ∃ (s : State), inService s = true ∧ s.flt.supply ≠ .normal :=
  ⟨{ headStopped with flt := { headStopped.flt with supply := .cut } }, by and_intros <;> decide⟩

theorem witness_SupplyCrossings_2 :
    ∃ (s : State), inService s = true ∧ s.flt.supply = .warn :=
  ⟨{ headStopped with flt := { headStopped.flt with supply := .warn } }, by and_intros <;> decide⟩

theorem witness_SupplyCrossings_3 :
    ∃ (s : State), inService s = true ∧ s.flt.supply ≠ .warn :=
  ⟨{ headStopped with flt := { headStopped.flt with supply := .cut } }, by and_intros <;> decide⟩

theorem witness_SupplyCrossings_4 :
    ∃ (s : State), inService s = true ∧ s.flt.supply = .warn :=
  ⟨{ headStopped with flt := { headStopped.flt with supply := .warn } }, by and_intros <;> decide⟩

theorem witness_SupplyCrossings_5 :
    ∃ (s : State), inService s = true ∧ s.flt.supply ≠ .warn :=
  ⟨{ headStopped with flt := { headStopped.flt with supply := .cut } }, by and_intros <;> decide⟩

theorem witness_SupplyCrossings_6 :
    ∃ (s : State), inService s = true ∧ s.flt.supply = .low :=
  ⟨{ headStopped with flt := { headStopped.flt with supply := .low } }, by and_intros <;> decide⟩

theorem witness_SupplyCrossings_7 :
    ∃ (s : State), inService s = true ∧ s.flt.supply ≠ .low :=
  ⟨{ headStopped with flt := { headStopped.flt with supply := .cut } }, by and_intros <;> decide⟩

theorem witness_SupplyCrossings_8 :
    ∃ (s : State), inService s = true ∧ s.flt.supply = .low :=
  ⟨{ headStopped with flt := { headStopped.flt with supply := .low } }, by and_intros <;> decide⟩

theorem witness_SupplyCrossings_9 :
    ∃ (s : State), inService s = true ∧ s.flt.supply ≠ .low :=
  ⟨{ headStopped with flt := { headStopped.flt with supply := .cut } }, by and_intros <;> decide⟩

theorem witness_SupplyCrossings_10 :
    ∃ (s : State), inService s = true ∧ s.flt.supply = .cut :=
  ⟨headCut, by and_intros <;> decide⟩

theorem witness_SupplyCrossings_11 :
    ∃ (s : State), inService s = true ∧ s.flt.supply ≠ .cut :=
  ⟨headStopped, by and_intros <;> decide⟩

theorem witness_TransmitSlotsAndFramer_0 :
    ∃ (s : State), inService s = true ∧ s.pcu.run ≠ .cut :=
  ⟨headStopped, by and_intros <;> decide⟩

theorem witness_TransmitSlotsAndFramer_1 :
    ∃ (s : State), inService s = true ∧ s.pcu.run = .cut :=
  ⟨headCut, by and_intros <;> decide⟩

theorem witness_TransmitSlotsAndFramer_2 :
    ∃ (s : State), inService s = true ∧ (s.liu.framer ≠ .hunting ∨ s.liu.tx.isSome = true ∨ s.pcu.run = .cut) :=
  ⟨headCut, by and_intros <;> decide⟩

theorem witness_TransmitSlotsAndFramer_3 :
    ∃ (cs : List FaultCode) (s : State), inService s = true ∧ s.liu.framer = .hunting ∧ s.liu.tx = none ∧ s.pcu.run ≠ .cut ∧
      (allFaults.filter fun c => (faultRec c s).pending).take 8 = cs ∧ cs ≠ [] :=
  ⟨allFaults.take 8, (let t : State := { headStopped with liu := { headStopped.liu with framer := .hunting } }; { t with
      flt := { t.flt with recs := vmap (fun r => { r with latched := true, pending := true, fresh := true }) t.flt.recs }
        }), by and_intros <;> decide⟩

theorem witness_TransmitSlotsAndFramer_4 :
    ∃ (r : Role) (s : State), inService s = true ∧ s.liu.framer = .hunting ∧ s.liu.tx = none ∧ s.pcu.run ≠ .cut ∧ (∀ c ∈
      allFaults, (faultRec c s).pending = false) ∧ s.liu.beaconDue = true ∧ s.role = some r :=
  ⟨.head, { headStopped with liu := { headStopped.liu with framer := .hunting , beaconDue := true } }, by and_intros <;>
    decide⟩

theorem witness_TransmitSlotsAndFramer_5 :
    ∃ (s : State), inService s = true ∧ (∀ c ∈ allFaults, (faultRec c s).pending = false) ∧ s.liu.beaconDue = false :=
  ⟨{ headStopped with liu := { headStopped.liu with framer := .hunting } }, by and_intros <;> decide⟩

theorem witness_TransmitSlotsAndFramer_6 :
    ∃ (s : State), inService s = true ∧ s.liu.tx.isSome = true :=
  ⟨{ headStopped with liu := { headStopped.liu with framer := .inFrame, tx := some ⟨.beacon, [1], [], false⟩ } }, by
    and_intros <;> decide⟩

theorem witness_TransmitSlotsAndFramer_7 :
    ∃ (s : State), inService s = true ∧ s.liu.tx.isSome = true ∧ s.liu.collisions = 0 :=
  ⟨{ headStopped with liu := { headStopped.liu with framer := .inFrame, tx := some ⟨.beacon, [1], [], false⟩ } }, by
    and_intros <;> decide⟩

theorem witness_TransmitSlotsAndFramer_8 :
    ∃ (s : State), inService s = true ∧ s.liu.tx.isSome = true ∧ 1 ≤ s.liu.collisions :=
  ⟨(let t : State := { headStopped with
      liu := { headStopped.liu with framer := .inFrame, tx := some ⟨.beacon, [1], [], false⟩ } }; { t with
      liu := { t.liu with collisions := 1 } }), by and_intros <;> decide⟩

theorem witness_TransmitSlotsAndFramer_9 :
    ∃ (t : Transmission) (s : State), inService s = true ∧ s.liu.tx = some t ∧ t.slot = .urgent :=
  ⟨⟨.urgent, [1], [.stall], false⟩, { headStopped with
      liu := { headStopped.liu with framer := .inFrame, tx := some ⟨.urgent, [1], [.stall], false⟩ } }, by and_intros <;>
    decide⟩

theorem witness_TransmitSlotsAndFramer_10 :
    ∃ (t : Transmission) (s : State), inService s = true ∧ s.liu.tx = some t ∧ t.slot = .beacon :=
  ⟨⟨.beacon, [1], [], false⟩, { headStopped with
      liu := { headStopped.liu with framer := .inFrame, tx := some ⟨.beacon, [1], [], false⟩ } }, by and_intros <;> decide⟩

theorem witness_TransmitSlotsAndFramer_11 :
    ∃ (s : State), inService s = true ∧ s.liu.tx = none :=
  ⟨headStopped, by and_intros <;> decide⟩

theorem witness_TransmitSlotsAndFramer_12 :
    ∃ (s : State), inService s = true ∧ s.liu.tx = none :=
  ⟨headStopped, by and_intros <;> decide⟩

theorem witness_TransmitSlotsAndFramer_13 :
    ∃ (s : State), inService s = true ∧ s.liu.tx = none :=
  ⟨headStopped, by and_intros <;> decide⟩

theorem witness_TransmitSlotsAndFramer_14 :
    ∃ (s : State), inService s = true ∧ s.liu.tx = none :=
  ⟨headStopped, by and_intros <;> decide⟩

theorem witness_TransmitSlotsAndFramer_15 :
    ∃ (s : State), inService s = true ∧ s.liu.tx.isSome = true :=
  ⟨{ headStopped with liu := { headStopped.liu with framer := .inFrame, tx := some ⟨.beacon, [1], [], false⟩ } }, by
    and_intros <;> decide⟩

theorem witness_TransmitSlotsAndFramer_16 :
    ∃ (s : State), inService s = true ∧ s.liu.framer ≠ .inFrame :=
  ⟨headStopped, by and_intros <;> decide⟩

theorem witness_TransmitSlotsAndFramer_17 :
    ∃ (s : State), inService s = true ∧ s.liu.framer = .inFrame :=
  ⟨{ headStopped with liu := { headStopped.liu with framer := .inFrame, tx := some ⟨.beacon, [1], [], false⟩ } }, by
    and_intros <;> decide⟩

theorem witness_FeedBandArithmetic :
    ∃ ps : Params, ps.ka ≤ 255 ∧ ps.kb ≤ 4095 ∧ 1 ≤ ps.delta ∧ ps.delta ≤ 15 :=
  ⟨{ Params.defaults with ka := 255, kb := 4095, delta := 15 }, by decide⟩

theorem witness_StepsAndMoveTimes_range :
    ∃ (ps : Params) (x y : Int), ps.p ≤ 65535 ∧ 1 ≤ ps.p ∧ -32768 ≤ x ∧ x ≤ 32767 ∧ -32768 ≤ y ∧ y ≤ 32767 :=
  ⟨{ Params.defaults with p := 65535 }, -32768, 32767, by decide⟩

theorem witness_StepsAndMoveTimes_steps :
    ∃ (ps : Params) (d : Int) (j k : Nat), 1 ≤ ps.vmax ∧ ps.vmax ≤ 400 ∧ 1 ≤ ps.homeRate ∧ d ≠ 0 ∧ j < k :=
  ⟨{ Params.defaults with vmax := 400 }, -1, 0, 1, by decide⟩

theorem witness_LineFramesReadBack :
    ∃ (i : Instr) (octets : List Byte), i.wf = true ∧ encodeLine i = some octets :=
  ⟨.moveto (toAll [0xFF, 0x38]), buildFrame .order 31 [7, 0x40, 0xFF, 0x38], by decide, rfl⟩

theorem witness_BlockCode :
    ∃ data : List Byte, data.length = 7 :=
  ⟨[1, 2, 3, 4, 5, 6, 7], by decide⟩

end Sys2Proof.Machine
end

namespace Sys2Proof.Machine

/-! ### What ring, loader, cursor and record numbers rest on -/

/-- The part of the pace laws that the cursor's laws rest on: at rest no window is under way, a next window is held in READY
alone, and agreement waits only at rest. -/
def Calm (p : PaceUnit) : Prop :=
  (p.run = .joining ∨ p.run = .stopped → p.win = .preparing) ∧ (p.win ≠ .ready → p.next = none) ∧
    (isRunning p.agreement = true → p.win = .preparing ∧ p.run ≠ .joining)

theorem calm_of_paceLaw (s : State) (h : paceLaw s) : Calm s.pcu := by
  obtain ⟨⟨hrest, hprep, -, hopen, -, -⟩, -, -, hagr, -⟩ := h
  refine ⟨fun hr => hrest (hr.elim (fun h => .inr (.inl h)) .inl), fun hw => ?_, fun ha => ?_⟩
  · cases hwin : s.pcu.win with
    | opened => exact (hopen hwin).2.1
    | preparing => exact (hprep hwin).2.2.2
    | ready => exact absurd hwin hw
  · exact ⟨(hagr ha).1, (hagr ha).2.1⟩

/-- Every cursor that the peer table holds lies at a record number (R4). -/
def PeersNumbered (t : PeerTable) : Prop :=
  ∀ i : Station, t.peers[i].cursor.n ≤ Config.maxRecord ∧ ∀ c ∈ t.peers[i].stopCursor, c.n ≤ Config.maxRecord

/-- An update that leaves ring, loader and cursor alone, begins no joining, fixes no new window, and keeps the pace unit calm
and the peers' cursors within the record numbers. -/
structure Quiet (s u : State) : Prop where
  drg : u.drg = s.drg
  dld : u.dld = s.dld
  cursor : u.pcu.cursor = s.pcu.cursor
  joining : u.pcu.run = .joining → s.pcu.run = .joining
  next : u.pcu.next = s.pcu.next ∨ u.pcu.next = none
  calm : Calm s.pcu → Calm u.pcu
  peers : PeersNumbered s.ptb → PeersNumbered u.ptb

theorem Quiet.trans {s t u : State} (h : Quiet s t) (k : Quiet t u) : Quiet s u where
  drg := k.drg.trans h.drg
  dld := k.dld.trans h.dld
  cursor := k.cursor.trans h.cursor
  joining := h.joining ∘ k.joining
  next := k.next.elim (fun e => e ▸ h.next) .inr
  calm := k.calm ∘ h.calm
  peers := k.peers ∘ h.peers

/-- The items that an update which is quiet on its face leaves alone. -/
def paceView (p : PaceUnit) : RunState × WinState × Option WindowRec × Timer × Cursor :=
  (p.run, p.win, p.next, p.agreement, p.cursor)

/-- An update that keeps ring, loader, peers, and the pace unit's states and cursor, is quiet. -/
theorem Quiet.of_keeps {s u : State} (hd : u.drg = s.drg ∧ u.dld = s.dld ∧ u.ptb = s.ptb)
    (hp : paceView u.pcu = paceView s.pcu) : Quiet s u := by
  obtain ⟨hdrg, hdld, hptb⟩ := hd
  simp only [paceView, Prod.mk.injEq] at hp
  obtain ⟨hrun, hwin, hnext, hagr, hcur⟩ := hp
  exact ⟨hdrg, hdld, hcur, fun h => hrun ▸ h, .inl hnext, by simp [Calm, hrun, hwin, hnext, hagr], by simp [hptb]⟩

theorem Quiet.refl (s : State) : Quiet s s := .of_keeps ⟨rfl, rfl, rfl⟩ rfl

/-- An update of the pace unit that ends at rest or moving without a next window is quiet. -/
theorem Quiet.of_pace {s u : State} (hd : u.drg = s.drg ∧ u.dld = s.dld) (hptb : PeersNumbered s.ptb → PeersNumbered u.ptb)
    (hcur : u.pcu.cursor = s.pcu.cursor) (hwin : u.pcu.win = .preparing) (hrun : u.pcu.run ≠ .joining)
    (hnext : u.pcu.next = none) : Quiet s u :=
  ⟨hd.1, hd.2, hcur, fun h => absurd h hrun, .inr hnext, fun _ => ⟨fun _ => hwin, fun _ => hnext, fun _ => ⟨hwin, hrun⟩⟩,
    hptb⟩

/-! ### Quiet operations -/

theorem quiet_raise (c : FaultCode) (d1 d2 : Byte) (s : State) : Quiet s (raise c d1 d2 s) := .of_keeps (by simp) (by simp)

theorem quiet_setFault (c : FaultCode) (x : FaultRec) (s : State) : Quiet s (setFault c x s) := .of_keeps (by simp) (by simp)

theorem quiet_raiseStartingLevel (s : State) : Quiet s (raiseStartingLevel s) := .of_keeps (by simp) (by simp)

theorem quiet_rosterCheck (s : State) : Quiet s (rosterCheck s) := .of_keeps (by simp) (by simp)

theorem quiet_starveWatch (s : State) : Quiet s (starveWatch s) :=
  .of_keeps (by simp) (by unfold starveWatch; (repeat' split) <;> rfl)

theorem beaconFallsDue_pcu (s : State) : (beaconFallsDue s).pcu = s.pcu := by simp

/-- Clearing the qualified marks keeps every cursor. -/
theorem peersNumbered_beginAgreement (s : State) (h : PeersNumbered s.ptb) : PeersNumbered (beginAgreement s).ptb := by
  intro i
  simpa [beginAgreement] using h i

theorem enterStopped_pace (reason : StopReason) (s : State) :
    (enterStopped reason s).pcu.cursor = s.pcu.cursor ∧ (enterStopped reason s).pcu.win = .preparing ∧
      (enterStopped reason s).pcu.run = .stopped ∧ (enterStopped reason s).pcu.next = none := by
  simp [enterStopped, beginAgreement, stopPace]

theorem quiet_enterStopped (reason : StopReason) (s : State) : Quiet s (enterStopped reason s) := by
  obtain ⟨hcur, hwin, hrun, hnext⟩ := enterStopped_pace reason s
  refine .of_pace (by simp) (fun h => peersNumbered_beginAgreement _ ?_) hcur hwin (by simp [hrun]) hnext
  simpa using h

theorem quiet_tryFinish (s : State) : Quiet s (tryFinish s) := by
  unfold tryFinish
  split
  · rename_i h
    split
    · exact quiet_enterStopped _ _
    · exact ⟨rfl, rfl, rfl, id, .inl rfl,
        fun ⟨_, hn, ha⟩ => ⟨fun _ => rfl, fun _ => hn (by simp [h.1]), fun hr => by simp [h.1] at ha; exact absurd hr (by simp [ha])⟩, id⟩
  · exact .refl s

/-- R147, R148: the target of a traversal over a ring from a cursor, and its END-limited flag. -/
def targetOf (t : Traversal) (r : Ring) (c : Cursor) : Cursor × Bool :=
  match t.dir with
  | .back => (backTarget r c t.k, false)
  | .forward => forwardTarget r c t.k

/-- R146: the traversal of the station with its target fixed. -/
def withTarget (t : Traversal) (f : Cursor × Bool) (s : State) : State :=
  { s with pcu := { s.pcu with traversal := some { t with target := some f.1, endLimited := f.2 } } }

theorem fixTarget_none (s : State) (h : s.pcu.traversal = none) : fixTarget s = s := by simp [fixTarget, h]

theorem fixTarget_fixed (t : Traversal) (s : State) (h : s.pcu.traversal = some t) (ht : t.target.isSome = true) :
    fixTarget s = s := by simp [fixTarget, h, ht]

theorem fixTarget_unfixed (t : Traversal) (s : State) (h : s.pcu.traversal = some t) (ht : t.target = none) :
    fixTarget s =
      if (targetOf t s.drg s.pcu.cursor).1 = s.pcu.cursor then
        enterStopped (if (targetOf t s.drg s.pcu.cursor).2 then .designEnd else .traverseDone)
          (withTarget t (targetOf t s.drg s.pcu.cursor) s)
      else withTarget t (targetOf t s.drg s.pcu.cursor) s := by
  simp only [fixTarget, h, ht, targetOf, withTarget]
  rfl

theorem quiet_fixTarget (s : State) : Quiet s (fixTarget s) := by
  cases h : s.pcu.traversal with
  | none => rw [fixTarget_none s h]; exact .refl s
  | some t =>
    cases ht : t.target with
    | some c => rw [fixTarget_fixed t s h (by simp [ht])]; exact .refl s
    | none =>
      have hw : Quiet s (withTarget t (targetOf t s.drg s.pcu.cursor) s) := .of_keeps ⟨rfl, rfl, rfl⟩ rfl
      rw [fixTarget_unfixed t s h ht]
      split
      · exact hw.trans (quiet_enterStopped _ _)
      · exact hw

theorem quiet_fixUnlessWaiting (s : State) : Quiet s (fixUnlessWaiting s) := by
  unfold fixUnlessWaiting
  split
  · exact .refl s
  · exact quiet_fixTarget s

theorem quiet_startRun (s : State) (hr : s.pcu.run = .stopped) : Quiet s (startRun s) :=
  ⟨rfl, rfl, rfl, by simp [startRun, closeSetup], .inl rfl,
    fun ⟨hrest, hnext, _⟩ => ⟨fun _ => rfl, fun _ => hnext (by simp [hrest (.inr hr)]),
      fun _ => ⟨rfl, by simp [startRun, closeSetup]⟩⟩, id⟩

theorem quiet_startTraversal (dir : TravDir) (k : Nat) (s : State) (hr : s.pcu.run = .stopped) :
    Quiet s (startTraversal dir k s) := by
  have hne : travRun dir ≠ .joining := by cases dir <;> simp [travRun]
  exact ⟨rfl, rfl, rfl, fun h => absurd h hne, .inl rfl,
    fun ⟨hrest, hnext, _⟩ => ⟨fun _ => rfl, fun _ => hnext (by simp [hrest (.inr hr)]), fun _ => ⟨rfl, hne⟩⟩, id⟩

theorem quiet_enterCut (s : State) : Quiet s (enterCut s) :=
  .of_pace ⟨rfl, rfl⟩ id rfl rfl (by simp [enterCut, cutPace]) rfl

theorem quiet_beginJoining (s : State) : Quiet s (beginJoining s) := .of_keeps ⟨rfl, rfl, rfl⟩ rfl

theorem quiet_pendHalted (s : State) : Quiet s (pendHalted s) := .of_keeps ⟨rfl, rfl, rfl⟩ rfl
end Sys2Proof.Machine

namespace Sys2Proof.Machine

/-- The station right after a reset or a restart, as far as ring, loader, cursor and peers go. -/
structure Fresh (s : State) : Prop where
  drg : s.drg = Ring.initial
  dld : s.dld = Loader.initial
  ptb : s.ptb = PeerTable.initial
  cursor : s.pcu.cursor = Cursor.at 0
  next : s.pcu.next = none
  calm : Calm s.pcu

/-- A property of the station that every command keeps: quiet updates keep it, and so do the few operations that touch ring,
loader, cursor or next window. -/
structure LoadInvariant (P : State → Prop) : Prop where
  quiet : ∀ s u, Quiet s u → P s → P u
  ready : ∀ s, P s → P (tryReady s)
  chosen : ∀ s, agreementWaiting s = true → P s → P (takeChosen s)
  joined : ∀ lines s, s.pcu.run = .joining → P s → P (completeJoining lines s)
  opened : ∀ lines w s, s.pcu.win = .ready → s.pcu.next = some w → P s → P (openWindow lines w s)
  judged : ∀ seg s, P s → P (judgeSegment seg s)
  seated : ∀ (q : SetSeg) (s : State), s.pcu.run = .stopped → s.dld.state ≠ .lockout → q.base ≤ 31 → q.r ≤ Config.maxRecord →
    (q.new = true ∨ q.r ≤ s.pcu.cursor.n) → P s → P (if q.new then newDesign q.r (reseat q s) else reseat q s)
  resumed : ∀ s, P s → P (resumeLoader s)
  fresh : ∀ s, Fresh s → P s

variable {P : State → Prop}

namespace LoadInvariant

theorem settle (h : LoadInvariant P) (s : State) (hs : P s) : P (settle s) :=
  h.quiet _ _ (quiet_starveWatch _) (h.ready _ (h.quiet _ _ (quiet_tryFinish s) hs))

theorem completeAgreement (h : LoadInvariant P) (s : State) (hw : agreementWaiting s = true) (hs : P s) :
    P (completeAgreement s) := h.settle _ (h.quiet _ _ (quiet_fixTarget _) (h.chosen s hw hs))

theorem testAgreement (h : LoadInvariant P) (s : State) (hs : P s) : P (testAgreement s) := by
  unfold Machine.testAgreement
  split
  · rename_i hw
    exact h.completeAgreement s (by simp_all) hs
  · exact hs

theorem onService {f : State → State} {s t : State} (hf : P s → P (f s)) (ht : onService f s = .next t) (hs : P s) : P t := by
  unfold Machine.onService at ht
  cases ht
  split
  · exact hf hs
  · exact hs

theorem quiet_frameTaken (src : Station) (s : State) : Quiet s (frameTaken src s) := by
  refine ⟨by simp, by simp, by simp, by simp, .inl (by simp), by simp, fun h i => ?_⟩
  unfold frameTaken
  dsimp only
  split
  · simpa using h i
  · by_cases hi : i = src
    · subst hi
      simpa [setPeer] using h i
    · simpa [setPeer, Fin.val_inj, Ne.symm hi] using h i

theorem onFrame (h : LoadInvariant P) {src : Station} {f : State → State} {s t : State} (hf : ∀ s, P s → P (f s))
    (ht : onFrame src f s = .next t) (hs : P s) : P t := by
  refine onService (fun hs => ?_) ht hs
  split
  · exact hf _ (h.quiet _ _ (quiet_frameTaken src s) hs)
  · exact hs

theorem takeOrder (h : LoadInvariant P) {kind : Byte} {fit : RoleFit} {f : OrderFrame} {owner : State → Verdict} {s t : State}
    (ho : ∀ s u, owner s = .ok u → P s → P u) (ht : takeOrder kind fit f owner s = .next t) (hs : P s) : P t := by
  refine h.onFrame (fun s hs => ?_) ht hs
  unfold judgeOrder
  split
  · exact hs
  · exact h.quiet _ _ (.of_keeps (by simp) (by simp)) hs
  · split
    · rename_i u hu
      exact h.quiet _ _ (.of_keeps (by simp) (by simp)) (ho s u hu hs)
    · exact h.quiet _ _ (.of_keeps (by simp) (by simp)) hs

end LoadInvariant
end Sys2Proof.Machine

namespace Sys2Proof.Machine

/-! ### What an accepted order does to ring, loader and cursor -/

theorem withArgs_ok {α : Type} {args : Option α} {owner : α → State → Verdict} {s u : State} :
    withArgs args owner s = .ok u ↔ ∃ a, args = some a ∧ owner a s = .ok u := by
  cases args <;> simp [withArgs]

theorem require_ok {ok : Bool} {code : RefusalCode} {v : Verdict} {u : State} :
    require ok code v = .ok u ↔ ok = true ∧ v = .ok u := by
  cases ok <;> simp

theorem be24_le (a b c : Byte) : be24 a b c ≤ Config.maxRecord := by
  have := a.isLt
  have := b.isLt
  have := c.isLt
  simp only [be24, be16, Config.maxRecord]
  omega

theorem parseSetSeg_r {args : List Byte} {q : SetSeg} (h : parseSetSeg args = some q) : q.r ≤ Config.maxRecord := by
  unfold parseSetSeg at h
  split at h
  · obtain ⟨n, -, rfl⟩ := Option.map_eq_some_iff.1 h
    exact be24_le _ _ _
  · cases h

theorem quiet_forgotten (s : State) :
    Quiet s { s with ptb := { s.ptb with
      peers := vmap (fun p => if p.presence = .silent then { p with presence := .absent } else p) s.ptb.peers } } := by
  refine ⟨rfl, rfl, rfl, id, .inl rfl, id, fun h i => ?_⟩
  simp only [Fin.getElem_fin, getElem_vmap]
  split
  · exact h i
  · exact h i

theorem quiet_setupAxis (es : List SetupEntry) (s : State) : Quiet s (setupAxis es s) := by
  unfold setupAxis
  split
  · exact .of_keeps (by simp) (by simp)
  · exact .refl s

theorem quiet_setupSelector (es : List SetupEntry) (s : State) : Quiet s (setupSelector es s) := by
  unfold setupSelector
  split
  · exact .of_keeps ⟨rfl, rfl, rfl⟩ rfl
  · exact .refl s

theorem quiet_acceptStop (s : State) : Quiet s (acceptStop s) := by
  unfold acceptStop
  dsimp only
  split
  · exact .of_keeps ⟨rfl, rfl, rfl⟩ rfl
  · exact .of_keeps ⟨rfl, rfl, rfl⟩ rfl

theorem fresh_restartValues (fromCut : Bool) (level : SupplyLevel) (s : State) : Fresh (restartValues fromCut level s) :=
  ⟨rfl, rfl, rfl, rfl, rfl, fun _ => rfl, fun _ => rfl, fun h => by cases h⟩

variable {P : State → Prop}

namespace LoadInvariant

theorem ownerRun (h : LoadInvariant P) (a : Unit) (s u : State) (ho : ownerRun a s = .ok u) (hs : P s) : P u := by
  simp only [Machine.ownerRun, require_ok, isStopped, beq_iff_eq, Except.ok.injEq] at ho
  obtain ⟨hstop, -, -, -, rfl⟩ := ho
  exact h.settle _ (h.quiet _ _ (quiet_startRun s hstop) hs)

theorem ownerTraverse (h : LoadInvariant P) (dir : TravDir) (k : Nat) (s u : State) (ho : ownerTraverse dir k s = .ok u)
    (hs : P s) : P u := by
  simp only [Machine.ownerTraverse, require_ok, isStopped, beq_iff_eq, Except.ok.injEq] at ho
  obtain ⟨hstop, -, -, -, rfl⟩ := ho
  exact h.settle _ (h.quiet _ _ ((quiet_startTraversal dir k s hstop).trans (quiet_fixUnlessWaiting _)) hs)

theorem ownerHome (h : LoadInvariant P) (closed : Bool) (a : Unit) (s u : State) (ho : ownerHome closed a s = .ok u)
    (hs : P s) : P u := by
  simp only [Machine.ownerHome, require_ok, Except.ok.injEq] at ho
  obtain ⟨-, -, rfl⟩ := ho
  refine h.quiet _ _ ?_ hs
  split
  · exact .of_keeps (by simp [startHoming]) (by simp [startHoming])
  · exact .of_keeps (by simp [startHoming]) (by simp [startHoming])

theorem ownerMoveto (h : LoadInvariant P) (x : Int) (s u : State) (ho : ownerMoveto x s = .ok u) (hs : P s) : P u := by
  simp only [Machine.ownerMoveto, require_ok, Except.ok.injEq] at ho
  obtain ⟨-, -, rfl⟩ := ho
  refine h.quiet _ _ ?_ hs
  unfold startMoveto
  dsimp only
  split
  · exact .of_keeps (by simp) (by simp)
  · exact .of_keeps (by simp) (by simp)

theorem ownerBobbin (h : LoadInvariant P) (b : Nat) (s u : State) (ho : ownerBobbin b s = .ok u) (hs : P s) : P u := by
  simp only [Machine.ownerBobbin, require_ok, Except.ok.injEq] at ho
  obtain ⟨-, rfl⟩ := ho
  refine h.quiet _ _ ?_ hs
  split
  · exact .of_keeps (by simp [loadBobbin]) (by simp [loadBobbin])
  · exact .of_keeps (by simp [loadBobbin]) (by simp [loadBobbin])

theorem ownerSetseg (h : LoadInvariant P) (q : SetSeg) (hq : q.r ≤ Config.maxRecord) (s u : State)
    (ho : ownerSetseg q s = .ok u) (hs : P s) : P u := by
  simp only [Machine.ownerSetseg, require_ok, isStopped, beq_iff_eq, bne_iff_ne, Bool.or_eq_true, decide_eq_true_eq,
    Except.ok.injEq] at ho
  obtain ⟨hstop, hlock, hbase, hr, rfl⟩ := ho
  exact h.seated q s hstop hlock hbase hq hr hs

theorem clearFaults (h : LoadInvariant P) (cs : List FaultCode) (s : State) (hs : P s) : P (clearFaults cs s) := by
  have hl : P (clearList cs s) := h.quiet _ _ (.of_keeps (by simp) (by simp)) hs
  unfold Machine.clearFaults
  dsimp only
  split
  · unfold forgetSilent
    dsimp only
    split
    · exact h.testAgreement _ (h.quiet _ _ ((quiet_forgotten _).trans (quiet_rosterCheck _)) hl)
    · exact h.quiet _ _ (quiet_forgotten _) hl
  · exact hl

theorem unjam (h : LoadInvariant P) (lines : CodeLines) (s u : State) (hu : unjam lines s = some u) (hs : P s) : P u := by
  unfold Machine.unjam at hu
  split at hu
  · obtain ⟨q, -, rfl⟩ := Option.map_eq_some_iff.1 hu
    exact h.quiet _ _ (.of_keeps (by simp) (by simp)) hs
  · cases hu

theorem ownerClear (h : LoadInvariant P) (lines : CodeLines) (c : ClearSet) (s u : State) (ho : ownerClear lines c s = .ok u)
    (hs : P s) : P u := by
  unfold Machine.ownerClear at ho
  split at ho
  · split at ho
    · split at ho
      · rename_i t ht
        exact Except.ok.inj ho ▸ h.clearFaults _ _ (h.unjam _ _ _ ht hs)
      · cases ho
    · exact Except.ok.inj ho ▸ h.clearFaults _ _ hs
  · split at ho
    · rename_i t ht
      exact Except.ok.inj ho ▸ h.clearFaults _ _ (h.unjam _ _ _ ht hs)
    · exact Except.ok.inj ho ▸ h.clearFaults _ _ hs

theorem ownerSetup (h : LoadInvariant P) (es : List SetupEntry) (s u : State) (ho : ownerSetup es s = .ok u) (hs : P s) :
    P u := by
  simp only [Machine.ownerSetup, require_ok, Except.ok.injEq] at ho
  obtain ⟨-, -, -, -, rfl⟩ := ho
  have hp : P { s with params := applySetup s.params es } := h.quiet s _ (.of_keeps ⟨rfl, rfl, rfl⟩ rfl) hs
  exact h.quiet _ _ ((quiet_setupAxis _ _).trans (quiet_setupSelector _ _)) hp

theorem restartByOrder (h : LoadInvariant P) (mv : Nat) (s : State) : P (restartByOrder mv s) := by
  have hj : P (raiseStartingLevel (beginJoining (restartValues false (startingLevel mv) s))) :=
    h.quiet _ _ ((quiet_beginJoining _).trans (quiet_raiseStartingLevel _)) (h.fresh _ (fresh_restartValues _ _ s))
  unfold Machine.restartByOrder
  dsimp only
  split
  · exact h.quiet _ _ (quiet_enterCut _) hj
  · exact hj

/-- Every order keeps the property. -/
theorem ownerArgs (h : LoadInvariant P) {α : Type} {kind : Byte} {fit : RoleFit} {f : OrderFrame} {args : Option α}
    {owner : α → State → Verdict} {s t : State} (ho : ∀ a s u, args = some a → owner a s = .ok u → P s → P u)
    (ht : Machine.takeOrder kind fit f (withArgs args owner) s = .next t) (hs : P s) : P t :=
  h.takeOrder (fun s u hu hs => by
    obtain ⟨a, ha, hu⟩ := withArgs_ok.1 hu
    exact ho a s u ha hu hs) ht hs

end LoadInvariant
end Sys2Proof.Machine

namespace Sys2Proof.Machine

/-! ### Quiet updates of the events -/

theorem quiet_startTx (tx : Transmission) (s : State) : Quiet s (startTx tx s) := .of_keeps (by simp) (by simp)

theorem quiet_clearFresh (cs : List FaultCode) (s : State) : Quiet s (clearFresh cs s) := by
  induction cs generalizing s with
  | nil => exact .refl s
  | cons c cs ih => exact (quiet_setFault _ _ s).trans (ih _)

theorem quiet_deliverFaults (cs : List FaultCode) (s : State) : Quiet s (deliverFaults cs s) := by
  induction cs generalizing s with
  | nil => exact .refl s
  | cons c cs ih =>
    refine Quiet.trans ?_ (ih _)
    split
    · exact .refl s
    · exact quiet_setFault _ _ s

theorem quiet_beaconFallsDue (s : State) : Quiet s (beaconFallsDue s) := .of_keeps (by simp) (by simp)

theorem quiet_setPeer (n : Station) (p : Peer) (s : State)
    (hp : PeersNumbered s.ptb → p.cursor.n ≤ Config.maxRecord ∧ ∀ c ∈ p.stopCursor, c.n ≤ Config.maxRecord) :
    Quiet s (setPeer n p s) := by
  refine ⟨rfl, rfl, rfl, id, .inl rfl, id, fun h i => ?_⟩
  by_cases hi : i = n
  · subst hi
    simpa [setPeer] using hp h
  · simpa [setPeer, Fin.val_inj, Ne.symm hi] using h i

theorem classifyBeacon_numbered (body : List Byte) (v : BeaconView) (h : classifyBeacon body = .pacing v) :
    v.cursor.n ≤ Config.maxRecord := by
  unfold classifyBeacon at h
  (repeat' split at h) <;> cases h
  exact be24_le _ _ _

theorem quiet_recordedPeer (src : Station) (waiting : Bool) (v : BeaconView) (s : State) (hv : v.cursor.n ≤ Config.maxRecord) :
    Quiet s (setPeer src (recordedPeer waiting v s.ptb.peers[src]) s) := by
  refine quiet_setPeer _ _ _ fun h => ⟨hv, ?_⟩
  unfold recordedPeer
  dsimp only
  split
  · simpa using hv
  · exact (h src).2

theorem quiet_raisePeerLost (n : Station) (role : Role) (s : State) : Quiet s (raisePeerLost n role s) :=
  .of_keeps (by simp) (by simp)

theorem quiet_rosterIfChanged (b : Bool) (s : State) : Quiet s (rosterIfChanged b s) := .of_keeps (by simp) (by simp)

theorem quiet_haltMoving (s : State) (hm : isMoving s.pcu.run = true) : Quiet s (haltMoving s) := by
  have hrun : s.pcu.run ≠ .joining := by rintro h; simp [h, isMoving] at hm
  unfold haltMoving
  dsimp only
  split
  · rename_i hwin
    exact ⟨rfl, rfl, rfl, by simp, .inl rfl, fun ⟨_, hnext, hagr⟩ => ⟨by simp, fun _ => hnext (by simp [hwin]), fun ha => by
      have := (hagr ha).1; simp [hwin] at this⟩, id⟩
  · exact (quiet_pendHalted s).trans (quiet_enterStopped _ _)
  · exact .of_keeps ⟨rfl, rfl, rfl⟩ rfl

theorem quiet_endSelfTest (role : Role) (ring bad : Bool) (mv : Nat) (s : State) : Quiet s (endSelfTest role ring bad mv s) := by
  have hr : Quiet s (recordSelfTest role ring bad s) := by
    unfold recordSelfTest
    dsimp only
    split
    · exact .of_keeps ⟨rfl, rfl, rfl⟩ rfl
    · exact .of_keeps (by simp) (by simp)
  have ht : Quiet (recordSelfTest role ring bad s) (takeSupply mv (recordSelfTest role ring bad s)) :=
    .of_keeps (by simp [takeSupply]) (by simp [takeSupply])
  have hj := (hr.trans ht).trans (quiet_beginJoining _)
  unfold endSelfTest
  dsimp only
  split
  · exact hj.trans (quiet_enterCut _)
  · exact hj

variable {P : State → Prop}

namespace LoadInvariant

theorem takeBeacon (h : LoadInvariant P) (src : Station) (body : List Byte) (s : State) (hs : P s) :
    P (takeBeacon src body s) := by
  unfold Machine.takeBeacon
  split
  · exact hs
  · have hd : Quiet s (setPeer src { s.ptb.peers[src] with presence := .absent } s) := quiet_setPeer _ _ _ fun hp => hp src
    unfold dropPeer
    dsimp only
    split
    · exact h.testAgreement _ (h.quiet _ _ (quiet_rosterCheck _) (h.quiet _ _ hd hs))
    · exact hs
  · rename_i v hv
    have hr := quiet_recordedPeer src (agreementWaiting s) v s (classifyBeacon_numbered _ _ hv)
    exact h.testAgreement _ (h.quiet _ _ (quiet_rosterIfChanged _ _) (h.quiet _ _ hr hs))

theorem silencePeer (h : LoadInvariant P) (n : Station) (s : State) (hs : P s) : P (silencePeer n s) := by
  have hq : Quiet s (setPeer n { s.ptb.peers[n] with presence := .silent, age := Config.silentAgeMs } s) :=
    quiet_setPeer _ _ _ fun hp => hp n
  exact h.testAgreement _ (h.quiet _ _ (quiet_rosterCheck _) (h.quiet _ _ (quiet_raisePeerLost _ _ _) (h.quiet _ _ hq hs)))

theorem judgeDesign (h : LoadInvariant P) (body : List Byte) (s : State) (hs : P s) : P (judgeDesign body s) := by
  unfold Machine.judgeDesign
  split
  · exact hs
  · split
    · exact h.judged _ _ hs
    · exact hs

theorem restartFromCut (h : LoadInvariant P) (s : State) : P (restartFromCut s) :=
  h.quiet _ _ (quiet_beginJoining _) (h.fresh _ (fresh_restartValues _ _ s))

/-- What a quiet update that READY's test follows leads to. -/
theorem settleQuiet (h : LoadInvariant P) {s u : State} (hq : Quiet s u) (hs : P s) : P (Machine.settle u) :=
  h.settle u (h.quiet s u hq hs)

end LoadInvariant
end Sys2Proof.Machine

namespace Sys2Proof.Machine

variable {P : State → Prop}

namespace LoadInvariant

theorem ownerStop (h : LoadInvariant P) (a : Unit) (s u : State) (ho : ownerStop a s = .ok u) (hs : P s) : P u := by
  simp only [Machine.ownerStop, require_ok, Except.ok.injEq] at ho
  exact ho.2 ▸ h.quiet _ _ (quiet_acceptStop s) hs

theorem ownerRate (h : LoadInvariant P) (r : Nat) (s u : State) (ho : ownerRate r s = .ok u) (hs : P s) : P u := by
  obtain rfl := Except.ok.inj ho
  exact h.quiet s _ (.of_keeps ⟨rfl, rfl, rfl⟩ rfl) hs

theorem ownerOrigin (h : LoadInvariant P) (a : Unit) (s u : State) (ho : ownerOrigin a s = .ok u) (hs : P s) : P u := by
  simp only [Machine.ownerOrigin, require_ok, Except.ok.injEq] at ho
  exact ho.2.2 ▸ h.quiet _ _ (.of_keeps (by simp [setOrigin]) (by simp [setOrigin])) hs

theorem ownerSetmap (h : LoadInvariant P) (ps : List (Nat × Nat)) (s u : State) (ho : ownerSetmap ps s = .ok u) (hs : P s) :
    P u := by
  simp only [Machine.ownerSetmap, require_ok, Except.ok.injEq] at ho
  exact ho.2.2 ▸ h.quiet s _ (.of_keeps ⟨rfl, rfl, rfl⟩ rfl) hs

theorem ownerSetneedle (h : LoadInvariant P) (q : SetNeedle) (s u : State) (ho : ownerSetneedle q s = .ok u) (hs : P s) :
    P u := by
  simp only [Machine.ownerSetneedle, require_ok, Except.ok.injEq] at ho
  exact ho.2 ▸ h.quiet s _ (.of_keeps ⟨rfl, rfl, rfl⟩ rfl) hs

theorem ownerHead (h : LoadInvariant P) (p : Participation) (a : Unit) (s u : State) (ho : ownerHead p a s = .ok u)
    (hs : P s) : P u := by
  obtain rfl := Except.ok.inj ho
  exact h.quiet s _ (.of_keeps ⟨rfl, rfl, rfl⟩ rfl) hs

theorem ownerResume (h : LoadInvariant P) (a : Unit) (s u : State) (ho : ownerResume a s = .ok u) (hs : P s) : P u := by
  simp only [Machine.ownerResume, require_ok, Except.ok.injEq] at ho
  exact ho.2 ▸ h.resumed s hs

theorem ownerSetaction (h : LoadInvariant P) (q : FaultCode × Action) (s u : State) (ho : ownerSetaction q s = .ok u)
    (hs : P s) : P u := by
  obtain rfl := Except.ok.inj ho
  exact h.quiet s _ (quiet_setFault _ _ s) hs

theorem execUnknownOrder (h : LoadInvariant P) {code : Byte} {f : OrderFrame} {s t : State}
    (ht : execUnknownOrder code f s = .next t) (hs : P s) : P t := by
  unfold Machine.execUnknownOrder at ht
  split at ht
  · cases ht
    exact hs
  · exact h.takeOrder (fun s u ho _ => by cases ho) ht hs

/-- A command of a station in service whose update is quiet. -/
theorem onQuiet (h : LoadInvariant P) {f : State → State} {s t : State} (hq : Quiet s (f s))
    (ht : Machine.onService f s = .next t) (hs : P s) : P t := onService (h.quiet _ _ hq) ht hs

/-! The line interface and the peers. -/

theorem execTransmitAttempt (h : LoadInvariant P) {s t : State} (ht : execTransmitAttempt s = .next t) (hs : P s) : P t := by
  refine h.onQuiet ?_ ht hs
  split
  · split
    · exact (quiet_clearFresh _ _).trans (quiet_startTx _ _)
    · split
      · split
        · exact quiet_startTx _ _
        · exact .refl s
      · exact .refl s
  · exact .refl s

theorem execArbitrationLost (h : LoadInvariant P) {s t : State} (ht : execArbitrationLost s = .next t) (hs : P s) : P t := by
  refine h.onQuiet ?_ ht hs
  dsimp only
  split
  · exact .of_keeps ⟨rfl, rfl, rfl⟩ rfl
  · exact .refl s

theorem execCollision (h : LoadInvariant P) {s t : State} (ht : execCollision s = .next t) (hs : P s) : P t := by
  refine h.onQuiet ?_ ht hs
  dsimp only
  split
  · split
    · exact .of_keeps (by simp) (by simp)
    · exact .of_keeps ⟨rfl, rfl, rfl⟩ rfl
  · exact .refl s

theorem execFrameSent (h : LoadInvariant P) {s t : State} (ht : execFrameSent s = .next t) (hs : P s) : P t := by
  refine h.onQuiet ?_ ht hs
  dsimp only
  split
  · have hq : Quiet s { s with liu := { s.liu with tx := none, framer := .waitIdle, collisions := 0 } } :=
      .of_keeps ⟨rfl, rfl, rfl⟩ rfl
    split
    · exact hq.trans (quiet_deliverFaults _ _)
    · exact .of_keeps ⟨rfl, rfl, rfl⟩ rfl
  · exact .refl s

theorem execFrameAbandoned (h : LoadInvariant P) {s t : State} (ht : execFrameAbandoned s = .next t) (hs : P s) : P t := by
  refine h.onQuiet ?_ ht hs
  dsimp only
  split
  · exact .refl s
  · exact .of_keeps ⟨rfl, rfl, rfl⟩ rfl

theorem execLineIdle (h : LoadInvariant P) {s t : State} (ht : execLineIdle s = .next t) (hs : P s) : P t := by
  refine h.onQuiet ?_ ht hs
  dsimp only
  split
  · exact .refl s
  · exact .of_keeps ⟨rfl, rfl, rfl⟩ rfl

theorem execBeaconReceived (h : LoadInvariant P) {src : Station} {body : List Byte} {s t : State}
    (ht : execBeaconReceived src body s = .next t) (hs : P s) : P t := by
  refine h.onFrame (fun s hs => ?_) ht hs
  split
  · exact hs
  · exact h.takeBeacon src body s hs

theorem execPeerAgeExpiry (h : LoadInvariant P) {n : Station} {s t : State} (ht : execPeerAgeExpiry n s = .next t)
    (hs : P s) : P t := by
  refine onService (fun hs => ?_) ht hs
  split
  · exact hs
  · split
    · exact h.silencePeer n s hs
    · exact h.quiet _ _ (quiet_setPeer _ _ _ fun hp => hp n) hs

/-! The pace unit. -/

theorem execSelfTestEnd (h : LoadInvariant P) {ring : Bool} {lines : CodeLines} {drive : Bool} {mv : Nat} {s t : State}
    (ht : execSelfTestEnd ring lines drive mv s = .next t) (hs : P s) : P t := by
  cases ht
  split
  · split
    · exact h.quiet _ _ (quiet_endSelfTest _ _ _ _ s) hs
    · exact hs
  · exact hs

theorem execJoiningListenEnd (h : LoadInvariant P) {lines : CodeLines} {s t : State}
    (ht : execJoiningListenEnd lines s = .next t) (hs : P s) : P t := by
  refine onService (fun hs => ?_) ht hs
  split
  · rename_i hj
    exact h.joined lines s hj.1 hs
  · exact hs

theorem execCrossing (h : LoadInvariant P) {lines : CodeLines} {s t : State} (ht : execCrossing lines s = .next t)
    (hs : P s) : P t := by
  refine onService (fun hs => ?_) ht hs
  split
  · rename_i hr
    split
    · rename_i w hw
      exact h.opened lines w s hr.1 hw hs
    · exact hs
  · exact hs

theorem execGuardEnd (h : LoadInvariant P) {s t : State} (ht : execGuardEnd s = .next t) (hs : P s) : P t := by
  refine h.onQuiet ?_ ht hs
  dsimp only
  split
  · exact .of_keeps ⟨rfl, rfl, rfl⟩ rfl
  · exact .refl s

theorem execMinAssertionEnd (h : LoadInvariant P) {s t : State} (ht : execMinAssertionEnd s = .next t) (hs : P s) : P t := by
  refine onService (fun hs => ?_) ht hs
  split
  · exact h.settleQuiet (s := s) (.of_keeps ⟨rfl, rfl, rfl⟩ rfl) hs
  · exact hs

theorem execHaltSeenAsserted (h : LoadInvariant P) {s t : State} (ht : execHaltSeenAsserted s = .next t) (hs : P s) : P t := by
  refine h.onQuiet ?_ ht hs
  have hq : Quiet s { s with pcu := { s.pcu with haltSeen := true } } := .of_keeps ⟨rfl, rfl, rfl⟩ rfl
  dsimp only
  split
  · rename_i hm
    exact hq.trans (quiet_haltMoving _ hm)
  · exact hq

theorem execHaltWaitExpiry (h : LoadInvariant P) {s t : State} (ht : execHaltWaitExpiry s = .next t) (hs : P s) : P t := by
  refine h.onQuiet ?_ ht hs
  split
  · exact quiet_enterStopped _ s
  · exact .refl s

theorem execStarveTimerExpiry (h : LoadInvariant P) {s t : State} (ht : execStarveTimerExpiry s = .next t) (hs : P s) :
    P t := by
  refine h.onQuiet ?_ ht hs
  dsimp only
  split
  · exact .of_keeps (by simp) (by simp [paceView])
  · exact .refl s

theorem execStallTimerExpiry (h : LoadInvariant P) {s t : State} (ht : execStallTimerExpiry s = .next t) (hs : P s) :
    P t := by
  refine h.onQuiet ?_ ht hs
  dsimp only
  split
  · exact .of_keeps (by simp) (by simp [paceView])
  · exact .refl s

theorem execAgreementTimerExpiry (h : LoadInvariant P) {s t : State} (ht : execAgreementTimerExpiry s = .next t) (hs : P s) :
    P t := by
  refine onService (fun hs => ?_) ht hs
  split
  · rename_i hw
    exact h.completeAgreement s hw hs
  · exact hs

/-! The axis unit. -/

theorem execWindowMoveStep (h : LoadInvariant P) {s t : State} (ht : execWindowMoveStep s = .next t) (hs : P s) : P t := by
  refine onService (fun hs => ?_) ht hs
  split
  · exact hs
  · split
    · exact h.quiet s _ (.of_keeps ⟨rfl, rfl, rfl⟩ rfl) hs
    · exact h.settleQuiet (.of_keeps (by simp) (by simp)) hs

theorem execHomingStep (h : LoadInvariant P) {s t : State} (ht : execHomingStep s = .next t) (hs : P s) : P t := by
  refine h.onQuiet ?_ ht hs
  dsimp only
  split
  · split
    · exact .of_keeps ⟨rfl, rfl, rfl⟩ rfl
    · exact .refl s
  · exact .refl s

theorem execHomeSwitchSeenClosed (h : LoadInvariant P) {s t : State} (ht : execHomeSwitchSeenClosed s = .next t) (hs : P s) :
    P t := by
  refine onService (fun hs => ?_) ht hs
  split
  · split
    · exact h.settleQuiet (s := s) (.of_keeps (by simp) (by simp)) hs
    · exact h.quiet s _ (.of_keeps ⟨rfl, rfl, rfl⟩ rfl) hs
  · exact hs

theorem execHomingFail (h : LoadInvariant P) {s t : State} (ht : execHomingFail s = .next t) (hs : P s) : P t := by
  refine onService (fun hs => ?_) ht hs
  split
  · split
    · exact h.settleQuiet (s := s) (.of_keeps (by simp) (by simp)) hs
    · exact hs
  · exact hs

theorem execMovetoStep (h : LoadInvariant P) {s t : State} (ht : execMovetoStep s = .next t) (hs : P s) : P t := by
  refine onService (fun hs => ?_) ht hs
  split
  · split
    · exact h.quiet s _ (.of_keeps ⟨rfl, rfl, rfl⟩ rfl) hs
    · exact h.settleQuiet (.of_keeps (by simp) (by simp)) hs
  · exact hs

theorem execDriveFaultAsserted (h : LoadInvariant P) {s t : State} (ht : execDriveFaultAsserted s = .next t) (hs : P s) :
    P t := by
  refine h.onQuiet ?_ ht hs
  dsimp only
  split
  · exact .of_keeps (by simp) (by simp)
  · exact .refl s

theorem execDriveFaultReleased (h : LoadInvariant P) {s t : State} (ht : execDriveFaultReleased s = .next t) (hs : P s) :
    P t := by
  refine h.onQuiet ?_ ht hs
  dsimp only
  split
  · exact .of_keeps ⟨rfl, rfl, rfl⟩ rfl
  · exact .refl s

/-! The selector unit. -/

theorem execTrimPulseEnd (h : LoadInvariant P) {lines : CodeLines} {s t : State} (ht : execTrimPulseEnd lines s = .next t)
    (hs : P s) : P t := by
  refine onService (fun hs => ?_) ht hs
  split
  · exact h.settleQuiet (s := s) (.of_keeps (by simp) (by simp)) hs
  · exact hs

theorem execDetentPulse (h : LoadInvariant P) {s t : State} (ht : execDetentPulse s = .next t) (hs : P s) : P t := by
  refine onService (fun hs => ?_) ht hs
  split
  · split
    · exact h.settleQuiet (s := s) (.of_keeps (by simp) (by simp)) hs
    · exact h.settleQuiet (s := s) (.of_keeps (by simp) (by simp)) hs
    · exact h.quiet s _ (.of_keeps ⟨rfl, rfl, rfl⟩ rfl) hs
  · exact hs

theorem execDetentReleased (h : LoadInvariant P) {s t : State} (ht : execDetentReleased s = .next t) (hs : P s) : P t := by
  refine onService (fun hs => ?_) ht hs
  split
  · split
    · exact h.settleQuiet (s := s) (.of_keeps ⟨rfl, rfl, rfl⟩ rfl) hs
    · exact h.quiet s _ (.of_keeps ⟨rfl, rfl, rfl⟩ rfl) hs
  · exact hs

theorem execSelMoveLimitExpiry (h : LoadInvariant P) {s t : State} (ht : execSelMoveLimitExpiry s = .next t) (hs : P s) :
    P t := by
  refine onService (fun hs => ?_) ht hs
  split
  · split
    · exact h.settleQuiet (.of_keeps (by simp) (by simp)) hs
    · exact hs
  · exact hs

theorem execSelSettleExpiry (h : LoadInvariant P) {lines : CodeLines} {s t : State}
    (ht : execSelSettleExpiry lines s = .next t) (hs : P s) : P t := by
  refine onService (fun hs => ?_) ht hs
  split
  · split
    · exact h.settleQuiet (.of_keeps (by simp) (by simp)) hs
    · exact hs
  · exact hs

end LoadInvariant
end Sys2Proof.Machine

namespace Sys2Proof.Machine

variable {P : State → Prop}

namespace LoadInvariant

/-! The stroke unit and the thread monitor. -/

theorem quiet_needleUpSeen (s : State) :
    Quiet s { s with stu := { s.stu with needleUp := true, needleHeld := false } } := .of_keeps ⟨rfl, rfl, rfl⟩ rfl

theorem quiet_needleReachesTop (s : State) : Quiet s (needleReachesTop s) := by
  unfold needleReachesTop
  dsimp only
  split
  · exact .of_keeps (by simp) (by simp)
  · exact .of_keeps ⟨rfl, rfl, rfl⟩ rfl

theorem execNeedleDownSeen (h : LoadInvariant P) {s t : State} (ht : execNeedleDownSeen s = .next t) (hs : P s) : P t := by
  refine h.onQuiet ?_ ht hs
  dsimp only
  split
  · split
    · exact .of_keeps ⟨rfl, rfl, rfl⟩ rfl
    · exact .of_keeps ⟨rfl, rfl, rfl⟩ rfl
  · exact .refl s

theorem execNeedleDownReleased (h : LoadInvariant P) {s t : State} (ht : execNeedleDownReleased s = .next t) (hs : P s) :
    P t := by
  refine h.onQuiet ?_ ht hs
  dsimp only
  split
  · exact .of_keeps ⟨rfl, rfl, rfl⟩ rfl
  · exact .refl s

theorem execNeedleUpSeen (h : LoadInvariant P) {s t : State} (ht : execNeedleUpSeen s = .next t) (hs : P s) : P t := by
  refine onService (fun hs => ?_) ht hs
  split
  · split
    · exact h.settleQuiet ((quiet_needleUpSeen s).trans (quiet_needleReachesTop _)) hs
    · exact h.settleQuiet (s := s) (.of_keeps (by simp [stuckReleased]) (by simp [stuckReleased])) hs
    · exact h.settleQuiet (quiet_needleUpSeen s) hs
  · exact hs

theorem execNeedleUpReleased (h : LoadInvariant P) {s t : State} (ht : execNeedleUpReleased s = .next t) (hs : P s) :
    P t := by
  refine h.onQuiet ?_ ht hs
  dsimp only
  split
  · exact .of_keeps ⟨rfl, rfl, rfl⟩ rfl
  · exact .refl s

theorem quiet_needleStuck (s : State) : Quiet s (needleStuck s) := .of_keeps (by simp [needleStuck]) (by simp [needleStuck])

theorem execStrokeLimitExpiry (h : LoadInvariant P) {s t : State} (ht : execStrokeLimitExpiry s = .next t) (hs : P s) :
    P t := by
  refine onService (fun hs => ?_) ht hs
  split
  · split
    · split
      · exact h.settleQuiet (.of_keeps (by simp [driveDidNotTurn]) (by simp [driveDidNotTurn])) hs
      · exact h.quiet _ _ (quiet_needleStuck s) hs
    · exact h.quiet _ _ (quiet_needleStuck s) hs
    · exact hs
  · exact hs

theorem execSampleOneShotEnd (h : LoadInvariant P) {s t : State} (ht : execSampleOneShotEnd s = .next t) (hs : P s) :
    P t := by
  refine h.onQuiet ?_ ht hs
  dsimp only
  split
  · exact .of_keeps ⟨rfl, rfl, rfl⟩ rfl
  · exact .refl s

theorem execConversionEnd (h : LoadInvariant P) {v : BitVec 10} {s t : State} (ht : execConversionEnd v s = .next t)
    (hs : P s) : P t := by
  refine onService (fun hs => ?_) ht hs
  split
  · exact hs
  · split
    · exact h.settleQuiet (s := s) (.of_keeps (by simp) (by simp)) hs
    · exact h.quiet s _ (.of_keeps ⟨rfl, rfl, rfl⟩ rfl) hs

theorem execDwellEnd (h : LoadInvariant P) {s t : State} (ht : execDwellEnd s = .next t) (hs : P s) : P t := by
  refine onService (fun hs => ?_) ht hs
  split
  · split
    · exact h.settleQuiet (.of_keeps (by simp) (by simp)) hs
    · exact h.quiet s _ (.of_keeps ⟨rfl, rfl, rfl⟩ rfl) hs
  · exact hs

theorem execFeedPulse (h : LoadInvariant P) {s t : State} (ht : execFeedPulse s = .next t) (hs : P s) : P t := by
  refine h.onQuiet ?_ ht hs
  dsimp only
  split
  · exact .of_keeps ⟨rfl, rfl, rfl⟩ rfl
  · exact .refl s

theorem execSurge (h : LoadInvariant P) {s t : State} (ht : execSurge s = .next t) (hs : P s) : P t := by
  refine h.onQuiet ?_ ht hs
  dsimp only
  split
  · exact .of_keeps ⟨rfl, rfl, rfl⟩ rfl
  · exact .refl s

/-! The supply. -/

theorem quiet_setSupply (level : SupplyLevel) (s : State) : Quiet s (setSupply level s) := .of_keeps ⟨rfl, rfl, rfl⟩ rfl

theorem execSupplyFallWarn (h : LoadInvariant P) {s t : State} (ht : execSupplyFallWarn s = .next t) (hs : P s) : P t := by
  refine h.onQuiet ?_ ht hs
  split
  · exact (quiet_setSupply _ s).trans (quiet_raise _ _ _ _)
  · exact .refl s

theorem execSupplyRiseNormal (h : LoadInvariant P) {s t : State} (ht : execSupplyRiseNormal s = .next t) (hs : P s) :
    P t := by
  refine h.onQuiet ?_ ht hs
  split
  · exact quiet_setSupply _ s
  · exact .refl s

theorem execSupplyFallLow (h : LoadInvariant P) {s t : State} (ht : execSupplyFallLow s = .next t) (hs : P s) : P t := by
  refine h.onQuiet ?_ ht hs
  split
  · exact (quiet_setSupply _ s).trans (quiet_raise _ _ _ _)
  · exact .refl s

theorem execSupplyRiseWarn (h : LoadInvariant P) {s t : State} (ht : execSupplyRiseWarn s = .next t) (hs : P s) : P t := by
  refine h.onQuiet ?_ ht hs
  split
  · exact quiet_setSupply _ s
  · exact .refl s

theorem execSupplyFallCut (h : LoadInvariant P) {s t : State} (ht : execSupplyFallCut s = .next t) (hs : P s) : P t := by
  refine h.onQuiet ?_ ht hs
  split
  · exact (quiet_setSupply _ s).trans (quiet_enterCut _)
  · exact .refl s

theorem execSupplyRecovery (h : LoadInvariant P) {s t : State} (ht : execSupplyRecovery s = .next t) (hs : P s) : P t := by
  refine onService (fun hs => ?_) ht hs
  split
  · exact h.restartFromCut s
  · exact hs

theorem execBeaconTimer (h : LoadInvariant P) {s t : State} (ht : execBeaconTimer s = .next t) (hs : P s) : P t := by
  refine h.onQuiet ?_ ht hs
  have hq : Quiet s { s with liu := { s.liu with beaconTimer := .running Config.beaconPeriodUs } } :=
    .of_keeps ⟨rfl, rfl, rfl⟩ rfl
  exact hq.trans (quiet_beaconFallsDue _)

theorem execHaltSeenReleased (h : LoadInvariant P) {s t : State} (ht : execHaltSeenReleased s = .next t) (hs : P s) :
    P t := by
  refine onService (fun hs => ?_) ht hs
  exact h.settleQuiet (s := s) (.of_keeps ⟨rfl, rfl, rfl⟩ rfl) hs

theorem execHaltPulseEnd (h : LoadInvariant P) {s t : State} (ht : execHaltPulseEnd s = .next t) (hs : P s) : P t := by
  refine h.onQuiet ?_ ht hs
  exact .of_keeps ⟨rfl, rfl, rfl⟩ rfl

theorem fresh_ofStraps (queue : List Instr) (number : Station) (role : Option Role) :
    Fresh (State.ofStraps queue number role) :=
  ⟨rfl, rfl, rfl, rfl, rfl, fun _ => rfl, fun _ => rfl, fun h => by cases h⟩

/-- Every command keeps a property that quiet updates and the loading operations keep. -/
theorem exec (h : LoadInvariant P) {c : Instr} {s t : State} (ht : exec c s = .next t) (hs : P s) : P t := by
  cases c with
  | reset number pins => cases ht; exact h.fresh _ (fresh_ofStraps _ _ _)
  | selfTestEnd ring lines drive mv => exact h.execSelfTestEnd ht hs
  | joiningListenEnd lines => exact h.execJoiningListenEnd ht hs
  | run f => exact h.ownerArgs (fun a s u _ => h.ownerRun a s u) ht hs
  | stop f => exact h.ownerArgs (fun a s u _ => h.ownerStop a s u) ht hs
  | rate f => exact h.ownerArgs (fun a s u _ => h.ownerRate a s u) ht hs
  | back f => exact h.ownerArgs (fun a s u _ => h.ownerTraverse _ a s u) ht hs
  | forward f => exact h.ownerArgs (fun a s u _ => h.ownerTraverse _ a s u) ht hs
  | home f b => exact h.ownerArgs (fun a s u _ => h.ownerHome b a s u) ht hs
  | moveto f => exact h.ownerArgs (fun a s u _ => h.ownerMoveto a s u) ht hs
  | origin f => exact h.ownerArgs (fun a s u _ => h.ownerOrigin a s u) ht hs
  | setmap f => exact h.ownerArgs (fun a s u _ => h.ownerSetmap a s u) ht hs
  | setneedle f => exact h.ownerArgs (fun a s u _ => h.ownerSetneedle a s u) ht hs
  | headOn f => exact h.ownerArgs (fun a s u _ => h.ownerHead _ a s u) ht hs
  | headOff f => exact h.ownerArgs (fun a s u _ => h.ownerHead _ a s u) ht hs
  | bobbin f => exact h.ownerArgs (fun a s u _ => h.ownerBobbin a s u) ht hs
  | setseg f => exact h.ownerArgs (fun a s u ha => h.ownerSetseg a (parseSetSeg_r ha) s u) ht hs
  | resumeLoad f => exact h.ownerArgs (fun a s u _ => h.ownerResume a s u) ht hs
  | clear f lines => exact h.ownerArgs (fun a s u _ => h.ownerClear lines a s u) ht hs
  | setaction f => exact h.ownerArgs (fun a s u _ => h.ownerSetaction a s u) ht hs
  | setup f => exact h.ownerArgs (fun a s u _ => h.ownerSetup a s u) ht hs
  | restart f mv => exact h.ownerArgs (fun a s u _ ho _ => Except.ok.inj ho ▸ h.restartByOrder mv s) ht hs
  | unknownOrder code f => exact h.execUnknownOrder ht hs
  | designSegment src body => exact h.onFrame (h.judgeDesign body) ht hs
  | beaconReceived src body => exact h.execBeaconReceived ht hs
  | urgentReceived src body => exact h.onFrame (fun _ hs => hs) ht hs
  | peerAgeExpiry n => exact h.execPeerAgeExpiry ht hs
  | beaconTimer => exact h.execBeaconTimer ht hs
  | transmitAttempt => exact h.execTransmitAttempt ht hs
  | arbitrationLost => exact h.execArbitrationLost ht hs
  | collision => exact h.execCollision ht hs
  | frameSent => exact h.execFrameSent ht hs
  | crossing lines => exact h.execCrossing ht hs
  | guardEnd => exact h.execGuardEnd ht hs
  | minAssertionEnd => exact h.execMinAssertionEnd ht hs
  | haltSeenAsserted => exact h.execHaltSeenAsserted ht hs
  | haltSeenReleased => exact h.execHaltSeenReleased ht hs
  | haltWaitExpiry => exact h.execHaltWaitExpiry ht hs
  | haltPulseEnd => exact h.execHaltPulseEnd ht hs
  | starveTimerExpiry => exact h.execStarveTimerExpiry ht hs
  | stallTimerExpiry => exact h.execStallTimerExpiry ht hs
  | agreementTimerExpiry => exact h.execAgreementTimerExpiry ht hs
  | windowMoveStep => exact h.execWindowMoveStep ht hs
  | homingStep => exact h.execHomingStep ht hs
  | homeSwitchSeenClosed => exact h.execHomeSwitchSeenClosed ht hs
  | homingFail => exact h.execHomingFail ht hs
  | movetoStep => exact h.execMovetoStep ht hs
  | driveFaultAsserted => exact h.execDriveFaultAsserted ht hs
  | driveFaultReleased => exact h.execDriveFaultReleased ht hs
  | trimPulseEnd lines => exact h.execTrimPulseEnd ht hs
  | detentPulse => exact h.execDetentPulse ht hs
  | detentReleased => exact h.execDetentReleased ht hs
  | selMoveLimitExpiry => exact h.execSelMoveLimitExpiry ht hs
  | selSettleExpiry lines => exact h.execSelSettleExpiry ht hs
  | needleDownSeen => exact h.execNeedleDownSeen ht hs
  | needleDownReleased => exact h.execNeedleDownReleased ht hs
  | needleUpSeen => exact h.execNeedleUpSeen ht hs
  | needleUpReleased => exact h.execNeedleUpReleased ht hs
  | strokeLimitExpiry => exact h.execStrokeLimitExpiry ht hs
  | sampleOneShotEnd => exact h.execSampleOneShotEnd ht hs
  | conversionEnd v => exact h.execConversionEnd ht hs
  | dwellEnd => exact h.execDwellEnd ht hs
  | feedPulse => exact h.execFeedPulse ht hs
  | surge => exact h.execSurge ht hs
  | supplyFallWarn => exact h.execSupplyFallWarn ht hs
  | supplyRiseNormal => exact h.execSupplyRiseNormal ht hs
  | supplyFallLow => exact h.execSupplyFallLow ht hs
  | supplyRiseWarn => exact h.execSupplyRiseWarn ht hs
  | supplyFallCut => exact h.execSupplyFallCut ht hs
  | supplyRecovery => exact h.execSupplyRecovery ht hs
  | frameAbandoned => exact h.execFrameAbandoned ht hs
  | lineIdle => exact h.execLineIdle ht hs

/-- Every step keeps such a property. -/
theorem step (h : LoadInvariant P) {s t : State} (ht : step s = .next t) (hs : P s) : P t := by
  unfold Machine.step at ht
  split at ht
  · cases ht
    exact hs
  · exact h.exec ht (h.quiet s _ (.of_keeps ⟨rfl, rfl, rfl⟩ rfl) hs)

end LoadInvariant
end Sys2Proof.Machine

namespace Sys2Proof.Machine

/-! ### Raising F: the records and colours that stay -/

theorem ringGet_raiseF (f : Nat) (r : Ring) (m : Nat) :
    ringGet (raiseF f r) m = if m < max r.F f then none else ringGet r m := by
  unfold raiseF
  split
  · rename_i hlt
    rw [Nat.max_eq_right (by omega)]
    unfold ringGet
    dsimp only
    by_cases hm : m < f
    · rw [if_pos hm, if_neg (by omega)]
    · rw [if_neg hm, if_pos (by omega), if_pos (by omega), List.getElem?_drop]
      congr 1
      omega
  · rename_i hle
    rw [Nat.max_eq_left (by omega)]
    split
    · rename_i hm
      unfold ringGet
      rw [if_neg (by omega)]
    · rfl

theorem lastColor_append (b : Nat) (xs ys : List (Nat × Nat)) :
    lastColor b (xs ++ ys) = lastColor (lastColor b xs) ys := by
  unfold lastColor
  cases h : ys.getLast? with
  | none =>
    rw [List.getLast?_eq_none_iff] at h
    simp [h]
  | some e => simp [List.getLast?_append, h]

/-- Trail entries stand in the order of their records: those below `m` are those below `f` and then those from `f` on. -/
theorem colorEntries_filter_lt (n f m : Nat) (rs : List Rec) (hn : n ≤ f) (hm : f ≤ m) :
    (colorEntries n rs).filter (fun e => decide (e.1 < m)) =
      (colorEntries n rs).filter (fun e => decide (e.1 < f)) ++
        ((colorEntries n rs).filter fun e => decide (f ≤ e.1)).filter fun e => decide (e.1 < m) := by
  have hsplit : colorEntries n rs = colorEntries n (rs.take (f - n)) ++ colorEntries f (rs.drop (f - n)) := by
    by_cases hk : f - n ≤ rs.length
    · rw [← List.take_append_drop (f - n) rs, colorEntries_append]
      simp [Nat.min_eq_left hk, Nat.add_sub_cancel' hn]
    · rw [List.take_of_length_le (by omega), List.drop_eq_nil_of_le (by omega)]
      simp [colorEntries]
  have hlow : ∀ e ∈ colorEntries n (rs.take (f - n)), e.1 < f := fun e he => by
    have := colorEntries_lt _ _ e he
    have := List.length_take_le (f - n) rs
    omega
  have hhigh : ∀ e ∈ colorEntries f (rs.drop (f - n)), f ≤ e.1 := fun e he => colorEntries_ge _ _ e he
  have hlowm := List.filter_eq_self.2 fun e he => decide_eq_true (Nat.lt_of_lt_of_le (hlow e he) hm)
  have hlowf := List.filter_eq_self.2 fun e he => decide_eq_true (hlow e he)
  have hlown := List.filter_eq_nil_iff.2 fun (e : Nat × Nat) he => (by simpa using hlow e he : ¬ decide (f ≤ e.1) = true)
  have hhighf := List.filter_eq_nil_iff.2 fun (e : Nat × Nat) he => (by simpa using hhigh e he : ¬ decide (e.1 < f) = true)
  have hhighn := List.filter_eq_self.2 fun e he => decide_eq_true (hhigh e he)
  rw [hsplit]
  simp only [List.filter_append, hlowm, hlowf, hlown, hhighf, hhighn, List.append_nil, List.nil_append]

/-- R11, R12: a release keeps the colour in force at every record from the new F on. -/
theorem colorInForce_raiseF (f m : Nat) (r : Ring) (htr : r.trail = colorEntries r.F r.recs) (hm : (raiseF f r).F ≤ m) :
    colorInForce (raiseF f r) m = colorInForce r m := by
  rw [raiseF_F] at hm
  unfold raiseF
  split
  · rename_i hlt
    unfold colorInForce
    dsimp only
    rw [htr, colorEntries_filter_lt r.F f m r.recs (by omega) (by omega), lastColor_append]
  · rfl

/-- Raised to L, the ring is empty. -/
theorem raiseF_ringL_empty (r : Ring) (h : ringForm r) :
    (raiseF (ringL r) r).recs = [] ∧ (raiseF (ringL r) r).trail = [] := by
  obtain ⟨-, htr, -, -, -, -⟩ := raiseF_form (ringL r) r (Nat.le_refl _) h
  have hrecs : (raiseF (ringL r) r).recs = [] := by
    unfold raiseF ringL
    split
    · simp
    · rename_i hle
      exact List.length_eq_zero_iff.1 (by omega)
  exact ⟨hrecs, by rw [htr, hrecs]; rfl⟩

/-! ### The ring and the loader follow the cursor (R8, R14, R67) -/

/-- The ring that a loader leaves when the cursor stands at record `n`: retention, and the release of a loader in WAIT. -/
theorem followCursor_drg (s : State) :
    (followCursor s).drg =
      if s.dld.state = .wait ∧ ringL s.drg ≤ s.pcu.cursor.n then
        raiseF (ringL s.drg) (retainAt s.pcu.cursor.n s.params.retain s.drg)
      else retainAt s.pcu.cursor.n s.params.retain s.drg := by
  simp only [followCursor, leaveWait_keeps, releaseRing, retainRing, retainAt_L]
  split <;> rfl

theorem followCursor_dld (s : State) :
    (followCursor s).dld =
      if s.dld.state = .wait ∧ 64 ≤ ringRoom (followCursor s).drg ∧ (followCursor s).drg.trail.length ≤ 48 then
        { s.dld with state := .opened, waitCause := .none }
      else s.dld := by
  simp only [followCursor, leaveWait, releaseRing_keeps, retainRing_keeps]
  split <;> simp

theorem followCursor_form (s : State) (h : ringForm s.drg) : ringForm (followCursor s).drg := by
  rw [followCursor_drg]
  split
  · exact raiseF_form _ _ (by simp) (retainAt_form _ _ _ h)
  · exact retainAt_form _ _ _ h

@[simp] theorem followCursor_L (s : State) : ringL (followCursor s).drg = ringL s.drg := by
  rw [followCursor_drg]
  split
  · rw [raiseF_L _ _ (by simp), retainAt_L]
  · exact retainAt_L _ _ _

theorem followCursor_F_le (s : State) (h : s.drg.F ≤ s.pcu.cursor.n) : (followCursor s).drg.F ≤ s.pcu.cursor.n := by
  have hr := retainAt_F_le s.pcu.cursor.n s.params.retain s.drg h
  rw [followCursor_drg]
  split
  · rename_i hw
    rw [raiseF_F]
    exact Nat.max_le.2 ⟨hr, hw.2⟩
  · exact hr

/-- R59, R66: the loader's law but for the place of the cursor. -/
def LoaderShape (d : Loader) : Prop :=
  (d.state = .wait → d.resend = true) ∧ (d.state = .wait ↔ d.waitCause ≠ .none) ∧ (d.state = .lockout ↔ d.lockReason ≠ .none)

theorem loaderShape_of_law (s : State) (h : loaderLaw s) : LoaderShape s.dld := ⟨fun hw => (h.1 hw).1, h.2⟩

/-- A loader that has left WAIT for OPEN keeps its shape. -/
theorem LoaderShape.opened {d : Loader} (h : LoaderShape d) (hw : d.state = .wait) :
    LoaderShape { d with state := .opened, waitCause := .none } := by
  have hlock := h.2.2
  simp only [hw, reduceCtorEq, false_iff, ne_eq, not_not] at hlock
  exact ⟨by simp, by simp, by simp [hlock]⟩

/-- R14, R67: wherever the cursor stands, a loader that is still in WAIT after its change has the cursor before L. -/
theorem followCursor_loadingLaw (s : State) (hf : ringForm s.drg) (hd : LoaderShape s.dld) : loadingLaw (followCursor s) := by
  refine ⟨followCursor_form s hf, ?_⟩
  have hleave := followCursor_dld s
  by_cases hopen : s.dld.state = .wait ∧ 64 ≤ ringRoom (followCursor s).drg ∧ (followCursor s).drg.trail.length ≤ 48
  · rw [if_pos hopen] at hleave
    have hshape := hd.opened hopen.1
    rw [← hleave] at hshape
    exact ⟨fun hw => by simp [hleave] at hw, hshape.2⟩
  · rw [if_neg hopen] at hleave
    refine ⟨fun hw => ?_, by rw [hleave]; exact hd.2⟩
    rw [hleave] at hw ⊢
    refine ⟨hd.1 hw, ?_⟩
    rw [followCursor_L]
    simp only [followCursor_keeps]
    by_contra hge
    obtain ⟨hrecs, htrail⟩ := raiseF_ringL_empty _ (retainAt_form s.pcu.cursor.n s.params.retain s.drg hf)
    rw [retainAt_L] at hrecs htrail
    have hdrg := followCursor_drg s
    rw [if_pos ⟨hw, by omega⟩] at hdrg
    exact hopen ⟨hw, by simp [hdrg, ringRoom, hrecs, Config.ringPlaces], by simp [hdrg, htrail]⟩

end Sys2Proof.Machine

namespace Sys2Proof.Machine

/-! ### What moves the cursor keeps the laws of ring and loader -/

theorem loadingLaw_congr {s u : State} (hdrg : u.drg = s.drg) (hdld : u.dld = s.dld) (hcur : u.pcu.cursor = s.pcu.cursor)
    (h : loadingLaw s) : loadingLaw u := by
  unfold loadingLaw loaderLaw at *
  rwa [hdrg, hdld, hcur]

theorem Quiet.loadingLaw {s u : State} (hq : Quiet s u) (h : loadingLaw s) : loadingLaw u :=
  loadingLaw_congr hq.drg hq.dld hq.cursor h

theorem setCursor_loadingLaw (c : Cursor) (s : State) (h : loadingLaw s) : loadingLaw (setCursor c s) := by
  unfold setCursor
  split
  · rename_i hn
    refine ⟨h.1, fun hw => ?_, h.2.2⟩
    have := h.2.1 hw
    exact ⟨this.1, by simpa [hn] using this.2⟩
  · exact followCursor_loadingLaw _ h.1 (loaderShape_of_law s h.2)

/-- R68: in LOCKOUT no wait cause stands. -/
theorem enterLockout_loadingLaw (reason : LockReason) (segNo : Byte) (s : State) (hr : reason ≠ .none) (h : ringForm s.drg) :
    loadingLaw (enterLockout reason segNo s) := by
  refine ⟨by simpa using h, ?_⟩
  simp [enterLockout, loaderLaw, hr]

theorem rebase_loadingLaw (c : Cursor) (s : State) (hc : c.n ≤ Config.maxRecord + 1) (h : ringForm s.drg) :
    loadingLaw (rebase c s) := by
  obtain ⟨-, -, -, hbase, -, -⟩ := h
  exact enterLockout_loadingLaw _ _ _ (by simp) (emptiedAt_form c.n _ hc hbase)

/-- A record number below F is one. -/
theorem le_maxRecord_of_lt_F {n : Nat} {r : Ring} (h : ringForm r) (hn : n < r.F) : n ≤ Config.maxRecord := by
  obtain ⟨-, -, -, -, -, hL⟩ := h
  unfold ringL at hL
  omega

theorem advanceCursor_loadingLaw (c : Cursor) (s : State) (h : loadingLaw s) : loadingLaw (advanceCursor c s) := by
  unfold advanceCursor
  split
  · rename_i hlt
    exact rebase_loadingLaw c s (Nat.le_succ_of_le (le_maxRecord_of_lt_F h.1 hlt)) h.1
  · exact setCursor_loadingLaw c s h

theorem adoptCursor_loadingLaw (c : Cursor) (s : State) (h : loadingLaw s) : loadingLaw (adoptCursor c s) := by
  unfold adoptCursor
  split
  · rename_i hlt
    exact rebase_loadingLaw c _ (Nat.le_succ_of_le (le_maxRecord_of_lt_F h.1 hlt)) (by simpa using h.1)
  · exact followCursor_loadingLaw _ (by simpa using h.1) (by simpa using loaderShape_of_law s h.2)

theorem programmedStop_loadingLaw (r : Rec) (s : State) (h : loadingLaw s) : loadingLaw (programmedStop r s) := by
  unfold programmedStop
  split
  · exact (quiet_enterStopped _ _).loadingLaw (setCursor_loadingLaw _ s h)
  · exact (quiet_enterStopped _ _).loadingLaw h
  · exact h

theorem becomeReady_loadingLaw (w : WindowRec) (s : State) (h : loadingLaw s) : loadingLaw (becomeReady w s) :=
  loadingLaw_congr rfl rfl rfl h

theorem tryReady_loadingLaw (s : State) (h : loadingLaw s) : loadingLaw (tryReady s) := by
  unfold tryReady
  split
  · split
    · split
      · exact h
      · split
        · exact becomeReady_loadingLaw _ s h
        · split
          · exact becomeReady_loadingLaw _ s h
          · exact programmedStop_loadingLaw _ s h
    · split
      · exact becomeReady_loadingLaw _ s h
      · exact h
  · exact h

/-- The station with its chosen cursor before it is taken up, OUT-OF-STEP raised (R53, R54). -/
def outOfStep (s : State) : State :=
  raise .outOfStep
    (octetSat (holders (s.pcu.cursor :: qualifiedCursors s) (chooseCursor s.pcu.cursor (qualifiedCursors s))))
    (octetSat ((qualifiedCursors s).length + 1))
    { s with pcu := { s.pcu with agreement := .stopped, joinAgreement := false } }

theorem takeChosen_own (s : State) (h : chooseCursor s.pcu.cursor (qualifiedCursors s) = s.pcu.cursor) :
    takeChosen s = { s with pcu := { s.pcu with agreement := .stopped, joinAgreement := false } } := by
  simp [takeChosen, h]

theorem takeChosen_other (c : Cursor) (s : State) (hc : chooseCursor s.pcu.cursor (qualifiedCursors s) = c)
    (h : c ≠ s.pcu.cursor) :
    takeChosen s =
      if s.pcu.joinAgreement && isHead s then
        { adoptCursor c (outOfStep s) with stu := { (adoptCursor c (outOfStep s)).stu with C := c.n } }
      else adoptCursor c (outOfStep s) := by
  subst hc
  simp only [takeChosen, outOfStep, if_neg h]

theorem outOfStep_keeps (s : State) :
    (outOfStep s).drg = s.drg ∧ (outOfStep s).dld = s.dld ∧ (outOfStep s).ptb = s.ptb ∧
      (outOfStep s).pcu = { s.pcu with agreement := .stopped, joinAgreement := false } := by
  simp [outOfStep]

theorem takeChosen_loadingLaw (s : State) (h : loadingLaw s) : loadingLaw (takeChosen s) := by
  by_cases hc : chooseCursor s.pcu.cursor (qualifiedCursors s) = s.pcu.cursor
  · rw [takeChosen_own s hc]
    exact loadingLaw_congr rfl rfl rfl h
  · obtain ⟨hdrg, hdld, -, hpcu⟩ := outOfStep_keeps s
    have ha := adoptCursor_loadingLaw (chooseCursor s.pcu.cursor (qualifiedCursors s)) (outOfStep s)
      (loadingLaw_congr hdrg hdld (by rw [hpcu]) h)
    rw [takeChosen_other _ s rfl hc]
    split
    · exact loadingLaw_congr rfl rfl rfl ha
    · exact ha

/-- Where the cursor leads ring and loader rests on ring, loader, RETAIN and the cursor alone. -/
theorem followCursor_congr {s u : State} (hdrg : u.drg = s.drg) (hdld : u.dld = s.dld) (hps : u.params = s.params)
    (hn : u.pcu.cursor = s.pcu.cursor) :
    (followCursor u).drg = (followCursor s).drg ∧ (followCursor u).dld = (followCursor s).dld := by
  have h : (followCursor u).drg = (followCursor s).drg := by simp only [followCursor_drg, hdrg, hdld, hps, hn]
  exact ⟨h, by rw [followCursor_dld, followCursor_dld, h, hdld]⟩

theorem setCursor_congr (c : Cursor) {s u : State} (hdrg : u.drg = s.drg) (hdld : u.dld = s.dld)
    (hps : u.params = s.params) (hn : u.pcu.cursor = s.pcu.cursor) :
    (setCursor c u).drg = (setCursor c s).drg ∧ (setCursor c u).dld = (setCursor c s).dld := by
  unfold setCursor
  rw [hn]
  split
  · exact ⟨hdrg, hdld⟩
  · exact followCursor_congr hdrg hdld hps rfl

@[simp] theorem coverAtJoining_keeps (s : State) :
    (coverAtJoining s).pending = s.pending ∧ (coverAtJoining s).number = s.number ∧ (coverAtJoining s).role = s.role ∧
    (coverAtJoining s).selfTesting = s.selfTesting ∧ (coverAtJoining s).resultCode = s.resultCode ∧
    (coverAtJoining s).params = s.params ∧ (coverAtJoining s).liu = s.liu ∧ (coverAtJoining s).ord = s.ord ∧
    (coverAtJoining s).ptb = s.ptb ∧ (coverAtJoining s).pcu = s.pcu ∧ (coverAtJoining s).dld = s.dld ∧
    (coverAtJoining s).drg = s.drg ∧ (coverAtJoining s).axu = s.axu ∧ (coverAtJoining s).slu = s.slu ∧
    (coverAtJoining s).thm = s.thm ∧ (coverAtJoining s).flt = s.flt ∧ (coverAtJoining s).free = s.free := by
  unfold coverAtJoining
  split <;> simp

@[simp] theorem raiseNotHomed_keeps (s : State) :
    (raiseNotHomed s).pending = s.pending ∧ (raiseNotHomed s).number = s.number ∧ (raiseNotHomed s).role = s.role ∧
    (raiseNotHomed s).selfTesting = s.selfTesting ∧ (raiseNotHomed s).resultCode = s.resultCode ∧
    (raiseNotHomed s).params = s.params ∧ (raiseNotHomed s).liu = s.liu ∧ (raiseNotHomed s).ord = s.ord ∧
    (raiseNotHomed s).ptb = s.ptb ∧ (raiseNotHomed s).pcu = s.pcu ∧ (raiseNotHomed s).dld = s.dld ∧
    (raiseNotHomed s).drg = s.drg ∧ (raiseNotHomed s).axu = s.axu ∧ (raiseNotHomed s).slu = s.slu ∧
    (raiseNotHomed s).stu = s.stu ∧ (raiseNotHomed s).thm = s.thm ∧ (raiseNotHomed s).free = s.free := by
  unfold raiseNotHomed
  split <;> simp

@[simp] theorem stopJoined_keeps (s : State) :
    (stopJoined s).pending = s.pending ∧ (stopJoined s).number = s.number ∧ (stopJoined s).role = s.role ∧
    (stopJoined s).selfTesting = s.selfTesting ∧ (stopJoined s).resultCode = s.resultCode ∧
    (stopJoined s).params = s.params ∧ (stopJoined s).ord = s.ord ∧ (stopJoined s).dld = s.dld ∧
    (stopJoined s).drg = s.drg ∧ (stopJoined s).axu = s.axu ∧ (stopJoined s).slu = s.slu ∧
    (stopJoined s).stu = s.stu ∧ (stopJoined s).thm = s.thm ∧ (stopJoined s).free = s.free := by
  simp [stopJoined]

/-- R51: what joining does to ring, loader and cursor, and where it leaves the pace unit. -/
theorem completeJoining_place (lines : CodeLines) (s : State) :
    (completeJoining lines s).drg = (setCursor (joiningCursor s) s).drg ∧
      (completeJoining lines s).dld = (setCursor (joiningCursor s) s).dld ∧
      (completeJoining lines s).pcu.cursor = joiningCursor s ∧ (completeJoining lines s).pcu.run = .stopped ∧
      (completeJoining lines s).pcu.win = .preparing ∧ (completeJoining lines s).pcu.next = none := by
  have hc := setCursor_congr (joiningCursor s) (s := s) (u := { s with pcu := { s.pcu with listen := .stopped } })
    rfl rfl rfl rfl
  simp [completeJoining, hc, stopJoined, enterStopped_pace]

theorem completeJoining_loadingLaw (lines : CodeLines) (s : State) (h : loadingLaw s) :
    loadingLaw (completeJoining lines s) := by
  obtain ⟨hdrg, hdld, hcur, -, -, -⟩ := completeJoining_place lines s
  exact loadingLaw_congr hdrg hdld (by rw [hcur, setCursor_cursor]) (setCursor_loadingLaw (joiningCursor s) s h)

/-- R23: what an opening does to ring, loader and cursor is what its cursor does. -/
theorem openWindow_place (lines : CodeLines) (w : WindowRec) (s : State) :
    (openWindow lines w s).drg = (advanceCursor (cursorAfter w s.pcu.cursor) (openPace w (applyPending s))).drg ∧
      (openWindow lines w s).dld = (advanceCursor (cursorAfter w s.pcu.cursor) (openPace w (applyPending s))).dld ∧
      (openWindow lines w s).pcu.cursor = cursorAfter w s.pcu.cursor := by
  have hr : ∀ t : State, (reachTarget t).pcu.cursor = t.pcu.cursor := fun t => by
    unfold reachTarget
    split <;> rfl
  simp [openWindow, hr]

theorem openWindow_loadingLaw (lines : CodeLines) (w : WindowRec) (s : State) (h : loadingLaw s) :
    loadingLaw (openWindow lines w s) := by
  obtain ⟨hdrg, hdld, hcur⟩ := openWindow_place lines w s
  have hp : loadingLaw (openPace w (applyPending s)) := loadingLaw_congr rfl rfl rfl h
  exact loadingLaw_congr hdrg hdld (by rw [hcur, advanceCursor_cursor]) (advanceCursor_loadingLaw _ _ hp)

end Sys2Proof.Machine

namespace Sys2Proof.Machine

/-! ### Segments keep the laws of ring and loader -/

/-- R66: with the cursor before L the loader stays in WAIT. -/
theorem enterWait_stays (cause : WaitCause) (s : State) (h : s.pcu.cursor.n < ringL s.drg) :
    enterWait cause s = { s with dld := { s.dld with state := .wait, resend := true, waitCause := cause } } := by
  simp [enterWait, Nat.not_le.2 h]

/-- R14, R67: with the cursor at or beyond L the loader is released at once, over an empty ring. -/
theorem enterWait_released (cause : WaitCause) (s : State) (hf : ringForm s.drg) (h : ringL s.drg ≤ s.pcu.cursor.n) :
    enterWait cause s =
      { s with
        drg := raiseF (ringL s.drg) s.drg
        dld := { s.dld with state := .opened, resend := true, waitCause := .none } } := by
  obtain ⟨hrecs, htrail⟩ := raiseF_ringL_empty s.drg hf
  simp [enterWait, h, leaveWait, releaseRing, ringRoom, hrecs, htrail, Config.ringPlaces]

/-- A segment is invalid for BAD-RECORD or for RANGE (R62). -/
theorem recordInvalid_reason {n : Nat} {r : Rec} {reason : LockReason} (h : recordInvalid n r = some reason) :
    reason = .badRecord ∨ reason = .range := by
  unfold recordInvalid at h
  (repeat' split at h) <;> cases h <;> simp

theorem recordsInvalid_reason {n : Nat} {rs : List Rec} {reason : LockReason} (h : recordsInvalid n rs = some reason) :
    reason = .badRecord ∨ reason = .range := by
  induction rs generalizing n with
  | nil => cases h
  | cons r rs ih =>
    unfold recordsInvalid at h
    split at h
    · cases h
      rename_i hr
      exact recordInvalid_reason hr
    · exact ih h

theorem segmentInvalid_reason {n : Nat} {rs : List Rec} {reason : LockReason} (h : segmentInvalid n rs = some reason) :
    reason = .badRecord ∨ reason = .range := by
  unfold segmentInvalid at h
  split at h
  · cases h
    exact .inr rfl
  · exact recordsInvalid_reason h

/-- What the loader's judgement of a segment comes to (R63, R64): nothing, RESEND, a lockout, or the ring test of a valid
segment that starts at L. -/
theorem judgeSegment_cases (seg : Segment) (s : State) :
    judgeSegment seg s = s ∨
    (s.dld.state = .opened ∧ judgeSegment seg s = { s with dld := { s.dld with resend := true } }) ∨
    (∃ reason, reason ≠ .none ∧ judgeSegment seg s = enterLockout reason seg.number s) ∨
    (s.dld.state = .opened ∧ segmentInvalid (ringL s.drg) seg.records = none ∧ judgeSegment seg s = ringTest seg s) := by
  unfold judgeSegment
  split
  · exact .inl rfl
  · split
    · split
      · exact .inr (.inr (.inl ⟨_, by simp, rfl⟩))
      · rename_i hr0
        rw [not_not] at hr0
        split
        · rename_i reason hreason
          exact .inr (.inr (.inl ⟨reason, by rcases segmentInvalid_reason hreason with rfl | rfl <;> simp, rfl⟩))
        · rename_i hvalid
          split
          · rename_i hopen
            exact .inr (.inr (.inr ⟨hopen, hr0 ▸ hvalid, rfl⟩))
          · exact .inl rfl
    · split
      · rename_i hopen
        exact .inr (.inl ⟨hopen, rfl⟩)
      · exact .inl rfl
    · exact .inl rfl
    · exact .inr (.inr (.inl ⟨_, by simp, rfl⟩))

/-- R64: what the ring test comes to, over the pruned ring: WAIT, or the segment appended where it fits. -/
theorem ringTest_cases (seg : Segment) (s : State) :
    (∃ cause, cause ≠ .none ∧
      ringTest seg s = enterWait cause { s with drg := prune s.pcu.cursor.n (colorCount seg.records) s.drg }) ∨
    ((prune s.pcu.cursor.n (colorCount seg.records) s.drg).trail.length + colorCount seg.records ≤ Config.trailPlaces ∧
      seg.records.length ≤ ringRoom (prune s.pcu.cursor.n (colorCount seg.records) s.drg) ∧
      ringTest seg s = appendSegment seg { s with drg := prune s.pcu.cursor.n (colorCount seg.records) s.drg }) := by
  unfold ringTest
  dsimp only
  split
  · exact .inl ⟨_, by simp, rfl⟩
  · split
    · exact .inl ⟨_, by simp, rfl⟩
    · exact .inr ⟨by omega, by omega, rfl⟩

/-- The station after a segment is appended, before the READY test (R7, R8, R64). -/
def appended (seg : Segment) (s : State) : State :=
  retainRing { s with drg := appendRecs seg.records s.drg, dld := { s.dld with v := s.dld.v + 1, resend := false } }

theorem appendSegment_eq (seg : Segment) (s : State) : appendSegment seg s = settle (appended seg s) := rfl

theorem settle_loadingLaw (s : State) (h : loadingLaw s) : loadingLaw (settle s) :=
  (quiet_starveWatch _).loadingLaw (tryReady_loadingLaw _ ((quiet_tryFinish s).loadingLaw h))

/-- An open loader with its cause and reason cleared is in its law. -/
theorem loaderLaw_of_open {s : State} (ho : s.dld.state = .opened) (hw : s.dld.waitCause = .none)
    (hl : s.dld.lockReason = .none) : loaderLaw s := by
  simp [loaderLaw, ho, hw, hl]

theorem LoaderShape.of_open {d : Loader} (h : LoaderShape d) (ho : d.state = .opened) :
    d.waitCause = .none ∧ d.lockReason = .none := by
  obtain ⟨-, hwait, hlock⟩ := h
  simp only [ho, reduceCtorEq, false_iff, ne_eq, not_not] at hwait hlock
  exact ⟨hwait, hlock⟩

theorem appended_form (seg : Segment) (s : State) (h : ringForm s.drg)
    (htrail : s.drg.trail.length + colorCount seg.records ≤ Config.trailPlaces)
    (hroom : seg.records.length ≤ ringRoom s.drg) (hv : segmentInvalid (ringL s.drg) seg.records = none) :
    ringForm (appended seg s).drg := retainAt_form _ _ _ (appendRecs_form _ _ h hroom htrail hv)

theorem enterWait_loadingLaw (cause : WaitCause) (s : State) (hc : cause ≠ .none) (ho : s.dld.state = .opened)
    (h : loadingLaw s) : loadingLaw (enterWait cause s) := by
  have hlock := ((loaderShape_of_law s h.2).of_open ho).2
  by_cases hN : ringL s.drg ≤ s.pcu.cursor.n
  · rw [enterWait_released cause s h.1 hN]
    exact ⟨raiseF_form _ _ (Nat.le_refl _) h.1, loaderLaw_of_open rfl rfl hlock⟩
  · rw [enterWait_stays cause s (by omega)]
    exact ⟨h.1, by simp [loaderLaw, hc, hlock]; omega⟩

theorem ringTest_loadingLaw (seg : Segment) (s : State) (ho : s.dld.state = .opened)
    (hv : segmentInvalid (ringL s.drg) seg.records = none) (h : loadingLaw s) : loadingLaw (ringTest seg s) := by
  obtain ⟨hwait, hlock⟩ := (loaderShape_of_law s h.2).of_open ho
  have hform := prune_form s.pcu.cursor.n (colorCount seg.records) s.drg h.1
  have hp : loadingLaw { s with drg := prune s.pcu.cursor.n (colorCount seg.records) s.drg } :=
    ⟨hform, loaderLaw_of_open ho hwait hlock⟩
  rcases ringTest_cases seg s with ⟨cause, hc, e⟩ | ⟨htrail, hroom, e⟩
  · rw [e]
    exact enterWait_loadingLaw cause _ hc ho hp
  · rw [e, appendSegment_eq]
    refine settle_loadingLaw _ ⟨appended_form seg _ hform htrail hroom ?_, ?_⟩
    · simpa using hv
    · exact loaderLaw_of_open (s := appended seg _) ho hwait hlock

theorem judgeSegment_loadingLaw (seg : Segment) (s : State) (h : loadingLaw s) : loadingLaw (judgeSegment seg s) := by
  rcases judgeSegment_cases seg s with e | ⟨ho, e⟩ | ⟨reason, hr, e⟩ | ⟨ho, hv, e⟩
  · rwa [e]
  · obtain ⟨hwait, hlock⟩ := (loaderShape_of_law s h.2).of_open ho
    rw [e]
    exact ⟨h.1, loaderLaw_of_open ho hwait hlock⟩
  · rw [e]
    exact enterLockout_loadingLaw reason _ s hr h.1
  · rw [e]
    exact ringTest_loadingLaw seg s ho hv h

/-! ### SETSEG, RESUME-LOAD and a fresh station -/

theorem reseat_loadingLaw (q : SetSeg) (s : State) (hlock : s.dld.state ≠ .lockout) (hbase : q.base ≤ 31)
    (hr : q.r ≤ Config.maxRecord) (h : loadingLaw s) : loadingLaw (reseat q s) := by
  have hreason : s.dld.lockReason = .none := by simpa [hlock] using h.2.2.2
  exact ⟨emptiedAt_form _ _ (Nat.le_succ_of_le hr) hbase, loaderLaw_of_open rfl rfl hreason⟩

theorem newDesignRole_keeps (r : Nat) (s : State) :
    (newDesignRole r s).drg = s.drg ∧ (newDesignRole r s).dld = s.dld ∧ (newDesignRole r s).ptb = s.ptb ∧
      (newDesignRole r s).pcu = s.pcu := by
  unfold newDesignRole
  (repeat' split) <;> simp

theorem newDesign_loadingLaw (r : Nat) (s : State) (h : loadingLaw s) : loadingLaw (newDesign r s) := by
  obtain ⟨hdrg, hdld, -, hpcu⟩ := newDesignRole_keeps r (setCursor (Cursor.at r) s)
  have hn := loadingLaw_congr hdrg hdld (by rw [hpcu]) (setCursor_loadingLaw (Cursor.at r) s h)
  exact loadingLaw_congr rfl rfl rfl hn

theorem resumeLoader_keeps (s : State) :
    (resumeLoader s).drg = s.drg ∧ (resumeLoader s).ptb = s.ptb ∧ (resumeLoader s).pcu = s.pcu ∧
      (resumeLoader s).dld = { s.dld with state := .opened, lockReason := .none, waitCause := .none, resend := false } := by
  unfold resumeLoader
  dsimp only
  split <;> simp

theorem resumeLoader_loadingLaw (s : State) (h : loadingLaw s) : loadingLaw (resumeLoader s) := by
  obtain ⟨hdrg, -, -, hdld⟩ := resumeLoader_keeps s
  exact ⟨hdrg ▸ h.1, loaderLaw_of_open (by simp [hdld]) (by simp [hdld]) (by simp [hdld])⟩

theorem Fresh.loadingLaw {s : State} (h : Fresh s) : loadingLaw s :=
  ⟨h.drg ▸ initial_form, loaderLaw_of_open (by simp [h.dld, Loader.initial]) (by simp [h.dld, Loader.initial])
    (by simp [h.dld, Loader.initial])⟩

/-- The laws of ring and loader are kept by all that touches ring, loader and cursor. -/
theorem loadInvariant_loadingLaw : LoadInvariant loadingLaw where
  quiet _ _ hq h := hq.loadingLaw h
  ready := tryReady_loadingLaw
  chosen s _ h := takeChosen_loadingLaw s h
  joined lines s _ h := completeJoining_loadingLaw lines s h
  opened lines w s _ _ h := openWindow_loadingLaw lines w s h
  judged := judgeSegment_loadingLaw
  seated q s _ hlock hbase hr _ h := by
    have hseat := reseat_loadingLaw q s hlock hbase hr h
    split
    · exact newDesign_loadingLaw _ _ hseat
    · exact hseat
  resumed := resumeLoader_loadingLaw
  fresh _ h := h.loadingLaw

/-- Settles O55: the law is an invariant of all that touches ring, loader and cursor. -/
theorem ringAndLoaderLawsAreKept : Obligations.RingAndLoaderLawsAreKept :=
  fun _ _ ht h => loadInvariant_loadingLaw.step ht h

end Sys2Proof.Machine

namespace Sys2Proof.Machine

/-! ### The pace unit under a change of the cursor and at an opening -/

theorem setCursor_pcu (c : Cursor) (s : State) : (setCursor c s).pcu = { s.pcu with cursor := c } := by
  unfold setCursor
  split
  · rfl
  · simp [writeCursor]

theorem rebase_pcu (c : Cursor) (s : State) : (rebase c s).pcu = { s.pcu with cursor := c } := by
  simp [rebase, writeCursor]

theorem advanceCursor_pcu (c : Cursor) (s : State) : (advanceCursor c s).pcu = { s.pcu with cursor := c } := by
  unfold advanceCursor
  split
  · exact rebase_pcu c s
  · exact setCursor_pcu c s

theorem adoptCursor_pcu (c : Cursor) (s : State) : (adoptCursor c s).pcu = { s.pcu with cursor := c } := by
  unfold adoptCursor
  split
  · simp [rebase_pcu]
  · simp [writeCursor]

theorem traversalDone_eq (s : State) :
    traversalDone s = decide (s.pcu.traversal.map Traversal.target = some (some s.pcu.cursor)) := by
  unfold traversalDone
  cases s.pcu.traversal with
  | none => simp
  | some t => simp [beq_eq_decide]

/-- R20, R23, R34, R38, R153: the pace unit after the opening of a window. -/
theorem openWindow_pcu (lines : CodeLines) (w : WindowRec) (s : State) :
    (openWindow lines w s).pcu = { s.pcu with
      win := .opened, openW := some w, next := none, cursor := cursorAfter w s.pcu.cursor, edge := .inGuard, armed := false,
      stall := .stopped, haltWait := .stopped,
      workRate := if takesRate w.kind then s.pcu.setRate else s.pcu.workRate
      run := if isRunning s.pcu.haltWait = true ∨
          s.pcu.traversal.map Traversal.target = some (some (cursorAfter w s.pcu.cursor)) then .stopping else s.pcu.run
      preparePending := if w.kind = .prepare then false else s.pcu.preparePending
      pendingStop :=
        if s.pcu.traversal.map Traversal.target = some (some (cursorAfter w s.pcu.cursor)) then
          some (s.pcu.pendingStop.getD
            (if s.pcu.traversal.map Traversal.endLimited = some true then .designEnd else .traverseDone))
        else s.pcu.pendingStop } := by
  have hend : (s.pcu.traversal.map Traversal.endLimited).getD false = true ↔
      s.pcu.traversal.map Traversal.endLimited = some true := by
    cases s.pcu.traversal <;> simp
  simp only [openWindow, startWork_keeps, reachTarget, traversalDone_eq, advanceCursor_pcu, openPace, applyPending_keeps,
    decide_eq_true_eq, hend]
  by_cases ht : s.pcu.traversal.map Traversal.target = some (some (cursorAfter w s.pcu.cursor))
  · simp [ht]
  · simp [ht, advanceCursor_pcu]

theorem openWindow_calm (lines : CodeLines) (w : WindowRec) (s : State) (hr : s.pcu.win = .ready) (h : Calm s.pcu) :
    Calm (openWindow lines w s).pcu ∧ (openWindow lines w s).pcu.run ≠ .joining := by
  obtain ⟨hrest, -, hagr⟩ := h
  have hrun : s.pcu.run ≠ .joining ∧ s.pcu.run ≠ .stopped :=
    ⟨fun hj => by simp [hrest (.inl hj)] at hr, fun hs => by simp [hrest (.inr hs)] at hr⟩
  have hrun' : (openWindow lines w s).pcu.run ≠ .joining ∧ (openWindow lines w s).pcu.run ≠ .stopped := by
    rw [openWindow_pcu]
    dsimp only
    split
    · simp
    · exact hrun
  refine ⟨⟨fun hj => absurd hj (by simp [hrun']), fun _ => by rw [openWindow_pcu], fun ha => ?_⟩, hrun'.1⟩
  rw [openWindow_pcu] at ha
  simp [(hagr ha).1] at hr

/-! ### The READY test -/

/-- R24, R150, R151: the window for which a station may become READY. -/
def windowDue (s : State) : Option WindowRec :=
  if s.pcu.run = .running then
    (recAtN s).bind fun r => if s.pcu.preparePending then some ⟨.prepare, r⟩ else (windowFor r s.pcu.cursor).map fun k => ⟨k, r⟩
  else traversalWindow s

/-- R26, R27: the READY test leaves the station, makes it READY for the window due, or stops it at STOP or END. -/
theorem tryReady_cases (s : State) :
    tryReady s = s ∨
    (mayBecomeReady s = true ∧ ∃ w, windowDue s = some w ∧ tryReady s = becomeReady w s) ∨
    (mayBecomeReady s = true ∧ ∃ r, recAtN s = some r ∧ recKind r = some .stop ∧
      tryReady s = enterStopped .programmedStop (setCursor (Cursor.at (s.pcu.cursor.n + 1)) s)) ∨
    (mayBecomeReady s = true ∧ ∃ r, recAtN s = some r ∧ recKind r = some .designEnd ∧
      tryReady s = enterStopped .designEnd s) := by
  unfold tryReady windowDue
  split
  · rename_i hmay
    simp only [hmay, true_and]
    split
    · split
      · exact .inl rfl
      · rename_i r hr
        simp only [hr, Option.bind_some]
        split
        · exact .inr (.inl ⟨_, rfl, rfl⟩)
        · split
          · rename_i k hk
            exact .inr (.inl ⟨_, by simp [hk], rfl⟩)
          · unfold programmedStop
            split
            · rename_i hstop
              exact .inr (.inr (.inl ⟨r, rfl, hstop, rfl⟩))
            · rename_i hend
              exact .inr (.inr (.inr ⟨r, rfl, hend, rfl⟩))
            · exact .inl rfl
    · split
      · rename_i w hw
        exact .inr (.inl ⟨w, hw, rfl⟩)
      · exact .inl rfl
  · exact .inl rfl

theorem mayBecomeReady_iff (s : State) :
    mayBecomeReady s = true ↔ s.pcu.win = .preparing ∧ isMoving s.pcu.run = true ∧ s.pcu.pendingStop = none ∧
      s.pcu.haltSeen = false ∧ agreementWaiting s = false ∧ s.pcu.edge = .settled ∧ roleReady s = true := by
  simp [mayBecomeReady, and_assoc]

theorem isMoving_ne {r : RunState} (h : isMoving r = true) : r ≠ .joining ∧ r ≠ .stopped := by
  cases r <;> simp_all [isMoving]

theorem becomeReady_calm (w : WindowRec) (s : State) (hm : mayBecomeReady s = true) : Calm (becomeReady w s).pcu := by
  obtain ⟨-, hrun, -, -, hagr, -, -⟩ := (mayBecomeReady_iff s).1 hm
  obtain ⟨hj, hs⟩ := isMoving_ne hrun
  refine ⟨fun h => absurd h (by simp [becomeReady, hj, hs]), fun h => absurd rfl h, fun h => ?_⟩
  rw [agreementWaiting] at hagr
  simp [becomeReady, hagr] at h

theorem enterStopped_calm (reason : StopReason) (s : State) : Calm (enterStopped reason s).pcu := by
  obtain ⟨-, hwin, hrun, hnext⟩ := enterStopped_pace reason s
  exact ⟨fun _ => hwin, fun _ => hnext, fun _ => ⟨hwin, by simp [hrun]⟩⟩

theorem tryReady_calm (s : State) (h : Calm s.pcu) : Calm (tryReady s).pcu := by
  rcases tryReady_cases s with e | ⟨hm, w, -, e⟩ | ⟨-, r, -, -, e⟩ | ⟨-, r, -, -, e⟩
  · rwa [e]
  · exact e ▸ becomeReady_calm w s hm
  · exact e ▸ enterStopped_calm _ _
  · exact e ▸ enterStopped_calm _ _

theorem chooseFrom_mem (cs l : List Cursor) (best : Cursor) : chooseFrom cs l best ∈ best :: l := by
  induction l generalizing best with
  | nil => simp [chooseFrom]
  | cons c l ih =>
    unfold chooseFrom
    split
    · exact List.mem_cons_of_mem _ (ih c)
    · have := ih best
      simp only [List.mem_cons] at this ⊢
      tauto

/-- R53: the chosen cursor is one of the group's. -/
theorem chooseCursor_mem (c : Cursor) (cs : List Cursor) : chooseCursor c cs ∈ c :: cs := by
  simpa [chooseCursor] using chooseFrom_mem (c :: cs) cs c

/-- R54: what taking up the chosen cursor does to the pace unit. -/
theorem takeChosen_pcu (s : State) :
    (takeChosen s).pcu = { s.pcu with
      agreement := .stopped, joinAgreement := false, cursor := chooseCursor s.pcu.cursor (qualifiedCursors s) } := by
  by_cases hc : chooseCursor s.pcu.cursor (qualifiedCursors s) = s.pcu.cursor
  · rw [takeChosen_own s hc, hc]
  · rw [takeChosen_other _ s rfl hc]
    split <;> simp [adoptCursor_pcu, outOfStep_keeps]

theorem takeChosen_calm (s : State) (h : Calm s.pcu) : Calm (takeChosen s).pcu := by
  rw [takeChosen_pcu]
  exact ⟨h.1, h.2.1, fun ha => by simp [isRunning] at ha⟩

end Sys2Proof.Machine

namespace Sys2Proof.Machine

/-! ### F stays at or below N -/

theorem cursorLaw_congr {s u : State} (hdrg : u.drg = s.drg) (hcur : u.pcu.cursor = s.pcu.cursor)
    (hrun : u.pcu.run = .joining → s.pcu.run = .joining) (h : cursorLaw s) : cursorLaw u := by
  unfold cursorLaw at *
  rw [hdrg, hcur]
  exact ⟨h.1, fun hj => h.2 (hrun hj)⟩

theorem setCursor_F_le (c : Cursor) (s : State) (h : s.drg.F ≤ c.n) : (setCursor c s).drg.F ≤ c.n := by
  unfold setCursor
  split
  · exact h
  · exact followCursor_F_le (writeCursor c s) h

theorem advanceCursor_F_le (c : Cursor) (s : State) : (advanceCursor c s).drg.F ≤ c.n := by
  unfold advanceCursor
  split
  · exact (rebase_place c s).2.1.le
  · exact setCursor_F_le c s (by omega)

theorem adoptCursor_F_le (c : Cursor) (s : State) : (adoptCursor c s).drg.F ≤ c.n := by
  unfold adoptCursor
  split
  · exact (rebase_place c _).2.1.le
  · exact followCursor_F_le _ (by simp; omega)

theorem enterWait_F_le (cause : WaitCause) (s : State) (h : s.drg.F ≤ s.pcu.cursor.n) :
    (enterWait cause s).drg.F ≤ s.pcu.cursor.n := by
  unfold enterWait
  dsimp only
  split
  · rename_i hN
    simp only [leaveWait_keeps, releaseRing]
    split
    · rw [raiseF_F]
      exact Nat.max_le.2 ⟨h, hN⟩
    · exact h
  · exact h

/-- At rest or moving, F is at or below N where the station is not joining. -/
theorem cursorLaw_of_le {s : State} (h : s.drg.F ≤ s.pcu.cursor.n) (hj : s.pcu.run ≠ .joining) : cursorLaw s :=
  ⟨h, fun h => absurd h hj⟩

theorem tryReady_cursorLaw (s : State) (h : cursorLaw s) : cursorLaw (tryReady s) := by
  rcases tryReady_cases s with e | ⟨-, w, -, e⟩ | ⟨-, r, -, -, e⟩ | ⟨-, r, -, -, e⟩
  · rwa [e]
  · exact e ▸ cursorLaw_congr rfl rfl id h
  · obtain ⟨hcur, -, hrun, -⟩ := enterStopped_pace .programmedStop (setCursor (Cursor.at (s.pcu.cursor.n + 1)) s)
    rw [e]
    refine cursorLaw_of_le ?_ (by simp [hrun])
    have := setCursor_F_le (Cursor.at (s.pcu.cursor.n + 1)) s (Nat.le_succ_of_le h.1)
    simpa [hcur] using this
  · have hq := quiet_enterStopped .designEnd s
    exact e ▸ cursorLaw_congr hq.drg hq.cursor hq.joining h

theorem takeChosen_cursorLaw (s : State) (hj : s.pcu.run ≠ .joining) (h : cursorLaw s) : cursorLaw (takeChosen s) := by
  refine cursorLaw_of_le ?_ (by simpa [takeChosen_pcu] using hj)
  by_cases hc : chooseCursor s.pcu.cursor (qualifiedCursors s) = s.pcu.cursor
  · rw [takeChosen_own s hc]
    exact h.1
  · have ha := adoptCursor_F_le (chooseCursor s.pcu.cursor (qualifiedCursors s)) (outOfStep s)
    rw [takeChosen_pcu, takeChosen_other _ s rfl hc]
    split
    · exact ha
    · exact ha

theorem settle_cursorLaw (s : State) (h : cursorLaw s) : cursorLaw (settle s) := by
  have hq := quiet_tryFinish s
  have hw := quiet_starveWatch (tryReady (tryFinish s))
  exact cursorLaw_congr hw.drg hw.cursor hw.joining
    (tryReady_cursorLaw _ (cursorLaw_congr hq.drg hq.cursor hq.joining h))

theorem ringTest_cursorLaw (seg : Segment) (s : State) (h : cursorLaw s) : cursorLaw (ringTest seg s) := by
  have hp := prune_F_le s.pcu.cursor.n (colorCount seg.records) s.drg h.1
  rcases ringTest_cases seg s with ⟨cause, -, e⟩ | ⟨-, -, e⟩
  · rw [e]
    exact ⟨by simpa using enterWait_F_le cause { s with drg := prune s.pcu.cursor.n (colorCount seg.records) s.drg } hp,
      by simpa using h.2⟩
  · rw [e, appendSegment_eq]
    exact settle_cursorLaw _ ⟨retainAt_F_le _ _ _ hp, h.2⟩

theorem judgeSegment_cursorLaw (seg : Segment) (s : State) (h : cursorLaw s) : cursorLaw (judgeSegment seg s) := by
  rcases judgeSegment_cases seg s with e | ⟨-, e⟩ | ⟨reason, -, e⟩ | ⟨-, -, e⟩
  · rwa [e]
  · exact e ▸ cursorLaw_congr rfl rfl id h
  · exact e ▸ cursorLaw_congr (by simp) (by simp) (by simp) h
  · exact e ▸ ringTest_cursorLaw seg s h

theorem judgeSegment_calm (seg : Segment) (s : State) (h : Calm s.pcu) : Calm (judgeSegment seg s).pcu := by
  rcases judgeSegment_cases seg s with e | ⟨-, e⟩ | ⟨reason, -, e⟩ | ⟨-, -, e⟩
  · rwa [e]
  · exact e ▸ h
  · simpa [e] using h
  · rw [e]
    rcases ringTest_cases seg s with ⟨cause, -, e⟩ | ⟨-, -, e⟩
    · simpa [e] using h
    · rw [e, appendSegment_eq]
      exact (quiet_starveWatch _).calm (tryReady_calm _ ((quiet_tryFinish _).calm h))

/-- R57, R73: what SETSEG with NEW does to the ring, the cursor and the pace unit. -/
theorem newDesign_place (r : Nat) (s : State) :
    (newDesign r s).drg = (setCursor (Cursor.at r) s).drg ∧ (newDesign r s).dld = (setCursor (Cursor.at r) s).dld ∧
      (newDesign r s).pcu.cursor = Cursor.at r ∧
      (newDesign r s).pcu.run = s.pcu.run ∧ (newDesign r s).pcu.win = s.pcu.win ∧ (newDesign r s).pcu.next = s.pcu.next := by
  obtain ⟨hdrg, hdld, -, hpcu⟩ := newDesignRole_keeps r (setCursor (Cursor.at r) s)
  refine ⟨hdrg, hdld, ?_⟩
  simp [newDesign, beginAgreement, hpcu, setCursor_pcu]

theorem newDesign_cursorLaw (r : Nat) (s : State) (hs : s.pcu.run = .stopped) (hF : s.drg.F ≤ r) : cursorLaw (newDesign r s) := by
  obtain ⟨hdrg, -, hcur, hrun, -, -⟩ := newDesign_place r s
  refine cursorLaw_of_le ?_ (by simp [hrun, hs])
  rw [hdrg, hcur]
  exact setCursor_F_le (Cursor.at r) s hF

theorem newDesign_calm (r : Nat) (s : State) (hs : s.pcu.run = .stopped) (h : Calm s.pcu) : Calm (newDesign r s).pcu := by
  obtain ⟨-, -, -, hrun, hwin, hnext⟩ := newDesign_place r s
  have hw := h.1 (.inr hs)
  exact ⟨fun _ => hwin.trans hw, fun _ => hnext.trans (h.2.1 (by simp [hw])),
    fun _ => ⟨hwin.trans hw, by simp [hrun, hs]⟩⟩

/-- R5: with the pace unit calm, F stays at or below N, and the cursor at record 0 while joining. -/
theorem loadInvariant_cursorLaw : LoadInvariant fun s => Calm s.pcu ∧ cursorLaw s where
  quiet _ _ hq h := ⟨hq.calm h.1, cursorLaw_congr hq.drg hq.cursor hq.joining h.2⟩
  ready s h := ⟨tryReady_calm s h.1, tryReady_cursorLaw s h.2⟩
  chosen s hw h := ⟨takeChosen_calm s h.1, takeChosen_cursorLaw s (h.1.2.2 hw).2 h.2⟩
  joined lines s hj h := by
    obtain ⟨hdrg, -, hcur, hrun, hwin, hnext⟩ := completeJoining_place lines s
    have h0 := h.2.2 hj
    have hF : s.drg.F ≤ (joiningCursor s).n := by have := h.2.1; omega
    exact ⟨⟨fun _ => hwin, fun _ => hnext, fun _ => ⟨hwin, by simp [hrun]⟩⟩,
      cursorLaw_of_le (by rw [hdrg, hcur]; exact setCursor_F_le _ s hF) (by simp [hrun])⟩
  opened lines w s hr _ h := by
    obtain ⟨hcalm, hj⟩ := openWindow_calm lines w s hr h.1
    obtain ⟨hdrg, -, hcur⟩ := openWindow_place lines w s
    exact ⟨hcalm, cursorLaw_of_le (by rw [hdrg, hcur]; exact advanceCursor_F_le _ _) hj⟩
  judged seg s h := ⟨judgeSegment_calm seg s h.1, judgeSegment_cursorLaw seg s h.2⟩
  seated q s hstop _ _ _ hr h := by
    split
    · exact ⟨newDesign_calm _ _ hstop h.1, newDesign_cursorLaw q.r (reseat q s) hstop (Nat.le_refl _)⟩
    · rename_i hnew
      exact ⟨h.1, by simpa [reseat, emptiedAt, hnew] using hr, h.2.2⟩
  resumed s h := by
    obtain ⟨hdrg, -, hpcu, -⟩ := resumeLoader_keeps s
    exact ⟨hpcu ▸ h.1, cursorLaw_congr hdrg (by rw [hpcu]) (by rw [hpcu]; exact id) h.2⟩
  fresh s h := ⟨h.calm, by simp [h.drg, Ring.initial], fun _ => by simp [h.cursor, Cursor.at]⟩

end Sys2Proof.Machine

namespace Sys2Proof.Machine

/-! ### The ring keeps its form, whatever the loader holds -/

theorem setCursor_form (c : Cursor) (s : State) (h : ringForm s.drg) : ringForm (setCursor c s).drg := by
  unfold setCursor
  split
  · exact h
  · exact followCursor_form _ h

theorem rebase_form (c : Cursor) (s : State) (hc : c.n < s.drg.F) (h : ringForm s.drg) : ringForm (rebase c s).drg := by
  have hn := le_maxRecord_of_lt_F h hc
  obtain ⟨-, -, -, hbase, -, -⟩ := h
  simpa [rebase] using emptiedAt_form c.n _ (Nat.le_succ_of_le hn) hbase

theorem advanceCursor_form (c : Cursor) (s : State) (h : ringForm s.drg) : ringForm (advanceCursor c s).drg := by
  unfold advanceCursor
  split
  · rename_i hc
    exact rebase_form c s hc h
  · exact setCursor_form c s h

theorem adoptCursor_form (c : Cursor) (s : State) (h : ringForm s.drg) : ringForm (adoptCursor c s).drg := by
  unfold adoptCursor
  split
  · rename_i hc
    exact rebase_form c _ (by simpa using hc) (by simpa using h)
  · exact followCursor_form _ (by simpa using h)

theorem takeChosen_form (s : State) (h : ringForm s.drg) : ringForm (takeChosen s).drg := by
  by_cases hc : chooseCursor s.pcu.cursor (qualifiedCursors s) = s.pcu.cursor
  · rwa [takeChosen_own s hc]
  · have ha := adoptCursor_form (chooseCursor s.pcu.cursor (qualifiedCursors s)) (outOfStep s)
      ((outOfStep_keeps s).1 ▸ h)
    rw [takeChosen_other _ s rfl hc]
    split <;> exact ha

theorem tryReady_form (s : State) (h : ringForm s.drg) : ringForm (tryReady s).drg := by
  rcases tryReady_cases s with e | ⟨-, w, -, e⟩ | ⟨-, r, -, -, e⟩ | ⟨-, r, -, -, e⟩
  · rwa [e]
  · exact e ▸ h
  · simpa [e] using setCursor_form _ s h
  · simpa [e] using h

theorem settle_form (s : State) (h : ringForm s.drg) : ringForm (settle s).drg := by
  simpa [settle] using tryReady_form (tryFinish s) (by simpa using h)

theorem enterWait_form (cause : WaitCause) (s : State) (h : ringForm s.drg) : ringForm (enterWait cause s).drg := by
  by_cases hN : ringL s.drg ≤ s.pcu.cursor.n
  · rw [enterWait_released cause s h hN]
    exact raiseF_form _ _ (Nat.le_refl _) h
  · rwa [enterWait_stays cause s (by omega)]

theorem judgeSegment_form (seg : Segment) (s : State) (h : ringForm s.drg) : ringForm (judgeSegment seg s).drg := by
  rcases judgeSegment_cases seg s with e | ⟨-, e⟩ | ⟨reason, -, e⟩ | ⟨-, hv, e⟩
  · rwa [e]
  · exact e ▸ h
  · simpa [e] using h
  · have hp := prune_form s.pcu.cursor.n (colorCount seg.records) s.drg h
    rw [e]
    rcases ringTest_cases seg s with ⟨cause, -, e⟩ | ⟨htrail, hroom, e⟩
    · exact e ▸ enterWait_form cause _ hp
    · rw [e, appendSegment_eq]
      exact settle_form _ (appended_form seg _ hp htrail hroom (by simpa using hv))

/-! ### The records of a ring in its form -/

theorem recordsInvalid_none_iff (n : Nat) (rs : List Rec) :
    recordsInvalid n rs = none ↔ ∀ i r, rs[i]? = some r → recordInvalid (n + i) r = none := by
  induction rs generalizing n with
  | nil => simp [recordsInvalid]
  | cons x xs ih =>
    unfold recordsInvalid
    constructor
    · intro h i r hr
      split at h
      · cases h
      · rename_i hx
        cases i with
        | zero =>
          cases hr
          exact hx
        | succ i => simpa [Nat.add_assoc, Nat.add_comm 1 i] using (ih (n + 1)).1 h i r (by simpa using hr)
    · intro h
      rw [show recordInvalid n x = none from h 0 x rfl]
      exact (ih (n + 1)).2 fun i r hr => by
        simpa [Nat.add_assoc, Nat.add_comm 1 i] using h (i + 1) r (by simpa using hr)

theorem ringGet_some_iff (r : Ring) (m : Nat) (x : Rec) :
    ringGet r m = some x ↔ r.F ≤ m ∧ r.recs[m - r.F]? = some x := by
  unfold ringGet
  split <;> simp_all

theorem ringGet_isSome_iff (r : Ring) (m : Nat) : (ringGet r m).isSome = true ↔ r.F ≤ m ∧ m < ringL r := by
  unfold ringGet ringL
  split
  · simp
    omega
  · simp
    omega

/-- R3: a record held is valid at its number. -/
theorem ringGet_valid {r : Ring} (h : ringForm r) {m : Nat} {x : Rec} (hx : ringGet r m = some x) :
    recordInvalid m x = none ∧ m ≤ Config.maxRecord := by
  obtain ⟨-, -, -, -, hv, hL⟩ := h
  have hm := (ringGet_isSome_iff r m).1 (by simp [hx])
  obtain ⟨hF, hx⟩ := (ringGet_some_iff r m x).1 hx
  refine ⟨?_, by omega⟩
  simpa [Nat.add_sub_cancel' hF] using (recordsInvalid_none_iff r.F r.recs).1 hv _ _ hx

/-- R3: only an END record stands at 16,777,215. -/
theorem ringGet_lt_maxRecord {r : Ring} (h : ringForm r) {m : Nat} {x : Rec} (hx : ringGet r m = some x)
    (hk : recKind x ≠ some .designEnd) : m < Config.maxRecord := by
  obtain ⟨hv, hm⟩ := ringGet_valid h hx
  refine Nat.lt_of_le_of_ne hm fun e => ?_
  unfold recordInvalid at hv
  split at hv
  · cases hv
  · rename_i k hk'
    split at hv
    · cases hv
    · have : k ≠ .designEnd := by rintro rfl; exact hk hk'
      simp [e, this] at hv

/-! ### The records a traversal goes over (R150, R151) -/

theorem firstBack_some {m k : Nat} {xs : List Rec} {x : Rec} (h : firstBack m xs = some (k, x)) :
    ∃ i, xs[i]? = some x ∧ k = m - i ∧ isDisplacement x = true := by
  induction xs generalizing m with
  | nil => cases h
  | cons y ys ih =>
    unfold firstBack at h
    split at h
    · rename_i hy
      cases h
      exact ⟨0, rfl, rfl, hy⟩
    · obtain ⟨i, hi, rfl, hd⟩ := ih h
      exact ⟨i + 1, hi, by omega, hd⟩

theorem firstForward_some {m k : Nat} {xs : List Rec} {x : Rec} (h : firstForward m xs = some (k, x)) :
    ∃ i, xs[i]? = some x ∧ k = m + i ∧ isDisplacement x = true := by
  induction xs generalizing m with
  | nil => cases h
  | cons y ys ih =>
    unfold firstForward at h
    split at h
    · rename_i hy
      cases h
      exact ⟨0, rfl, rfl, hy⟩
    · obtain ⟨i, hi, rfl, hd⟩ := ih h
      exact ⟨i + 1, hi, by omega, hd⟩

theorem nextForward_some {r : Ring} {c : Cursor} {m : Nat} {x : Rec} (h : nextForward r c = some (m, x)) :
    ringGet r m = some x ∧ isDisplacement x = true := by
  obtain ⟨i, hi, rfl, hd⟩ := firstForward_some h
  unfold aheadAsc at hi
  split at hi
  · rename_i hF
    rw [List.getElem?_drop] at hi
    refine ⟨(ringGet_some_iff _ _ _).2 ⟨by omega, ?_⟩, hd⟩
    rwa [show frontier r c + i - r.F = frontier r c - r.F + i by omega]
  · simp at hi

theorem nextBack_some {r : Ring} {c : Cursor} {m : Nat} {x : Rec} (h : nextBack r c = some (m, x)) :
    ringGet r m = some x ∧ isDisplacement x = true := by
  obtain ⟨i, hi, rfl, hd⟩ := firstBack_some h
  unfold behindDesc at hi
  split at hi
  · rename_i hL
    unfold ringL at hL
    have hlt : i < (r.recs.take (frontier r c - r.F)).length := by
      have := (List.getElem?_eq_some_iff.1 hi).1
      simpa using this
    rw [List.getElem?_reverse hlt] at hi
    have hlt' := hlt
    rw [List.length_take] at hlt'
    rw [List.getElem?_take_of_lt (by rw [List.length_take]; omega), List.length_take] at hi
    refine ⟨(ringGet_some_iff _ _ _).2 ⟨by omega, ?_⟩, hd⟩
    rwa [show frontier r c - 1 - i - r.F = min (frontier r c - r.F) r.recs.length - 1 - i by omega]
  · simp at hi

theorem recKind_ne_end_of_displacement {x : Rec} (h : isDisplacement x = true) : recKind x ≠ some .designEnd := by
  intro e
  simp [isDisplacement, e] at h

end Sys2Proof.Machine

namespace Sys2Proof.Machine

/-! ### Record numbers stay within 16,777,215 -/

theorem windowFor_due {r : Rec} {c : Cursor} {k : Window} (h : windowFor r c = some k) :
    recKind r ≠ some .designEnd ∧
      (cursorAfter ⟨k, r⟩ c = { c with step := .stroke } ∨ cursorAfter ⟨k, r⟩ c = Cursor.at (c.n + 1)) := by
  unfold windowFor at h
  split at h
  · rename_i hk
    refine ⟨by simp [hk], ?_⟩
    split at h
    · cases h
      simp [cursorAfter, isStitch, hk]
    · cases h
      exact .inr rfl
  · rename_i hk
    cases h
    exact ⟨by simp [hk], .inr (by simp [cursorAfter, isStitch, hk])⟩
  · rename_i hk
    cases h
    exact ⟨by simp [hk], .inr rfl⟩
  · rename_i hk
    cases h
    exact ⟨by simp [hk], .inr rfl⟩
  · cases h

theorem traversalWindow_some {s : State} {w : WindowRec} (h : traversalWindow s = some w) :
    ∃ m x, ringGet s.drg m = some x ∧ isDisplacement x = true ∧ (w = ⟨.retreat (m + 1), x⟩ ∨ w = ⟨.advance m, x⟩) := by
  unfold traversalWindow at h
  split at h
  · split at h
    · split at h
      · obtain ⟨m, hm, rfl⟩ := Option.map_eq_some_iff.1 h
        obtain ⟨hg, hd⟩ := nextBack_some (m := m.1) (x := m.2) hm
        exact ⟨_, _, hg, hd, .inl rfl⟩
      · obtain ⟨m, hm, rfl⟩ := Option.map_eq_some_iff.1 h
        obtain ⟨hg, hd⟩ := nextForward_some (m := m.1) (x := m.2) hm
        exact ⟨_, _, hg, hd, .inr rfl⟩
    · cases h
  · cases h

theorem afterMove_n_le (m : Nat) (x : Rec) : (afterMove m x).n ≤ m + 1 := by
  unfold afterMove
  split <;> simp [Cursor.at]

/-- The cursor that the opening of the window due leaves is a record number. -/
theorem windowDue_numbered {s : State} {w : WindowRec} (hf : ringForm s.drg) (hc : s.pcu.cursor.n ≤ Config.maxRecord)
    (h : windowDue s = some w) : (cursorAfter w s.pcu.cursor).n ≤ Config.maxRecord := by
  unfold windowDue at h
  split at h
  · obtain ⟨r, hr, h⟩ := Option.bind_eq_some_iff.1 h
    split at h
    · cases h
      exact hc
    · obtain ⟨k, hk, rfl⟩ := Option.map_eq_some_iff.1 h
      obtain ⟨hend, e | e⟩ := windowFor_due hk
      · rw [e]
        exact hc
      · rw [e]
        exact ringGet_lt_maxRecord hf hr hend
  · obtain ⟨m, x, hg, hd, rfl | rfl⟩ := traversalWindow_some h
    · exact (ringGet_valid hf hg).2
    · exact Nat.le_trans (afterMove_n_le m x) (ringGet_lt_maxRecord hf hg (recKind_ne_end_of_displacement hd))

theorem numberLaw_iff (s : State) :
    numberLaw s ↔ s.pcu.cursor.n ≤ Config.maxRecord ∧
      (∀ w ∈ s.pcu.next, (cursorAfter w s.pcu.cursor).n ≤ Config.maxRecord) ∧ PeersNumbered s.ptb := Iff.rfl

theorem numberLaw_of_noNext {s : State} (hc : s.pcu.cursor.n ≤ Config.maxRecord) (hn : s.pcu.next = none)
    (hp : PeersNumbered s.ptb) : numberLaw s := ⟨hc, by simp [hn], hp⟩

theorem Quiet.numberLaw {s u : State} (hq : Quiet s u) (h : numberLaw s) : numberLaw u := by
  obtain ⟨hc, hw, hp⟩ := (numberLaw_iff s).1 h
  refine ⟨hq.cursor ▸ hc, fun w hm => ?_, hq.peers hp⟩
  rcases hq.next with e | e
  · rw [hq.cursor]
    exact hw w (e ▸ hm)
  · simp [e] at hm

theorem tryReady_numberLaw (s : State) (hf : ringForm s.drg) (h : numberLaw s) : numberLaw (tryReady s) := by
  obtain ⟨hc, hw, hp⟩ := (numberLaw_iff s).1 h
  rcases tryReady_cases s with e | ⟨-, w, hdue, e⟩ | ⟨-, r, hr, hstop, e⟩ | ⟨-, r, -, -, e⟩
  · rwa [e]
  · rw [e]
    refine ⟨hc, fun w' hm => ?_, hp⟩
    cases hm
    exact windowDue_numbered hf hc hdue
  · have hq := quiet_enterStopped .programmedStop (setCursor (Cursor.at (s.pcu.cursor.n + 1)) s)
    obtain ⟨hcur, -, -, hnext⟩ := enterStopped_pace .programmedStop (setCursor (Cursor.at (s.pcu.cursor.n + 1)) s)
    rw [e]
    refine numberLaw_of_noNext ?_ hnext (hq.peers (by simpa using hp))
    rw [hcur, setCursor_cursor]
    exact ringGet_lt_maxRecord hf hr (by simp [hstop])
  · exact e ▸ (quiet_enterStopped _ s).numberLaw h

theorem settle_numberLaw (s : State) (hf : ringForm s.drg) (h : numberLaw s) : numberLaw (settle s) :=
  (quiet_starveWatch _).numberLaw (tryReady_numberLaw _ (by simpa using hf) ((quiet_tryFinish s).numberLaw h))

theorem mem_pacingPeers {s : State} {p : Station × Peer} (h : p ∈ pacingPeers s) : ∃ i : Station, p.2 = s.ptb.peers[i] := by
  obtain ⟨i, -, hi⟩ := List.mem_filterMap.1 h
  split at hi
  · cases hi
    exact ⟨i, rfl⟩
  · cases hi

theorem qualifiedCursors_numbered {s : State} (h : PeersNumbered s.ptb) {c : Cursor} (hc : c ∈ qualifiedCursors s) :
    c.n ≤ Config.maxRecord := by
  obtain ⟨p, hp, hc⟩ := List.mem_filterMap.1 hc
  obtain ⟨i, hi⟩ := mem_pacingPeers hp
  split at hc
  · exact (h i).2 c (hi ▸ hc)
  · cases hc

theorem stoppedCursors_numbered {s : State} (h : PeersNumbered s.ptb) {c : Cursor} (hc : c ∈ stoppedCursors s) :
    c.n ≤ Config.maxRecord := by
  obtain ⟨p, hp, hc⟩ := List.mem_filterMap.1 hc
  obtain ⟨i, hi⟩ := mem_pacingPeers hp
  split at hc
  · cases hc
    exact hi ▸ (h i).1
  · cases hc

theorem takeChosen_numberLaw (s : State) (hn : s.pcu.next = none) (h : numberLaw s) : numberLaw (takeChosen s) := by
  obtain ⟨hc, -, hp⟩ := (numberLaw_iff s).1 h
  refine numberLaw_of_noNext ?_ (by simpa [takeChosen_pcu] using hn) (by simpa using hp)
  rw [takeChosen_pcu]
  rcases List.mem_cons.1 (chooseCursor_mem s.pcu.cursor (qualifiedCursors s)) with e | hm
  · dsimp only
    rwa [e]
  · exact qualifiedCursors_numbered hp hm

theorem joiningCursor_numbered {s : State} (h : PeersNumbered s.ptb) : (joiningCursor s).n ≤ Config.maxRecord := by
  unfold joiningCursor
  split
  · exact Nat.zero_le _
  · rename_i c cs hcs
    exact stoppedCursors_numbered h (hcs ▸ chooseCursor_mem c cs)

/-- R51, R52: joining clears the qualified marks, and leaves every peer's cursors. -/
theorem completeJoining_peers (lines : CodeLines) (s : State) :
    (completeJoining lines s).ptb =
      { peers := vmap (fun p => { p with qualified := false }) s.ptb.peers, joined := true } := by
  simp [completeJoining, stopJoined, enterStopped, beginAgreement]

theorem completeJoining_numberLaw (lines : CodeLines) (s : State) (h : numberLaw s) : numberLaw (completeJoining lines s) := by
  obtain ⟨-, -, hcur, -, -, hnext⟩ := completeJoining_place lines s
  have hp := h.2.2
  refine numberLaw_of_noNext (hcur ▸ joiningCursor_numbered hp) hnext fun i => ?_
  simpa [completeJoining_peers] using hp i

theorem judgeSegment_numberLaw (seg : Segment) (s : State) (hf : ringForm s.drg) (h : numberLaw s) :
    numberLaw (judgeSegment seg s) := by
  rcases judgeSegment_cases seg s with e | ⟨-, e⟩ | ⟨reason, -, e⟩ | ⟨-, hv, e⟩
  · rwa [e]
  · exact e ▸ h
  · rw [e]
    simpa [numberLaw] using h
  · have hp := prune_form s.pcu.cursor.n (colorCount seg.records) s.drg hf
    rw [e]
    rcases ringTest_cases seg s with ⟨cause, -, e⟩ | ⟨htrail, hroom, e⟩
    · rw [e]
      simpa [numberLaw] using h
    · rw [e, appendSegment_eq]
      exact settle_numberLaw _ (appended_form seg _ hp htrail hroom (by simpa using hv)) h

theorem newDesign_numberLaw (r : Nat) (s : State) (hr : r ≤ Config.maxRecord) (hn : s.pcu.next = none) (h : numberLaw s) :
    numberLaw (newDesign r s) := by
  obtain ⟨-, -, hcur, -, -, hnext⟩ := newDesign_place r s
  refine numberLaw_of_noNext (by rw [hcur]; exact hr) (hnext.trans hn) (peersNumbered_beginAgreement _ ?_)
  have hp : PeersNumbered s.ptb := h.2.2
  simpa [newDesignRole_keeps] using hp

theorem Fresh.numberLaw {s : State} (h : Fresh s) : numberLaw s := by
  refine numberLaw_of_noNext (by simp [h.cursor, Cursor.at]) h.next fun i => ?_
  simp [h.ptb, PeerTable.initial, Peer.initial, Cursor.at]

/-- R3, R4: with the pace unit calm and the ring in its form, no record number passes 16,777,215. -/
theorem loadInvariant_numberLaw : LoadInvariant fun s => Calm s.pcu ∧ ringForm s.drg ∧ numberLaw s where
  quiet _ _ hq h := ⟨hq.calm h.1, hq.drg ▸ h.2.1, hq.numberLaw h.2.2⟩
  ready s h := ⟨tryReady_calm s h.1, tryReady_form s h.2.1, tryReady_numberLaw s h.2.1 h.2.2⟩
  chosen s hw h := ⟨takeChosen_calm s h.1, takeChosen_form s h.2.1,
    takeChosen_numberLaw s (h.1.2.1 (by simp [(h.1.2.2 hw).1])) h.2.2⟩
  joined lines s _ h := by
    obtain ⟨hdrg, -, -, hrun, hwin, hnext⟩ := completeJoining_place lines s
    exact ⟨⟨fun _ => hwin, fun _ => hnext, fun _ => ⟨hwin, by simp [hrun]⟩⟩, hdrg ▸ setCursor_form _ s h.2.1,
      completeJoining_numberLaw lines s h.2.2⟩
  opened lines w s hr hw h := by
    obtain ⟨hcalm, -⟩ := openWindow_calm lines w s hr h.1
    obtain ⟨hdrg, -, hcur⟩ := openWindow_place lines w s
    have hp : PeersNumbered s.ptb := h.2.2.2.2
    refine ⟨hcalm, hdrg ▸ advanceCursor_form _ _ h.2.1, numberLaw_of_noNext ?_ (by rw [openWindow_pcu]) ?_⟩
    · exact hcur ▸ h.2.2.2.1 w hw
    · simpa using hp
  judged seg s h := ⟨judgeSegment_calm seg s h.1, judgeSegment_form seg s h.2.1, judgeSegment_numberLaw seg s h.2.1 h.2.2⟩
  seated q s hstop _ hbase hr _ h := by
    have hform : ringForm (reseat q s).drg := emptiedAt_form _ _ (Nat.le_succ_of_le hr) hbase
    have hnone : (reseat q s).pcu.next = none := h.1.2.1 (by simp [h.1.1 (.inr hstop)])
    split
    · obtain ⟨hdrg, -, -, -, -, -⟩ := newDesign_place q.r (reseat q s)
      exact ⟨newDesign_calm _ _ hstop h.1, hdrg ▸ setCursor_form _ _ hform, newDesign_numberLaw _ _ hr hnone h.2.2⟩
    · exact ⟨h.1, hform, h.2.2⟩
  resumed s h := by
    obtain ⟨hdrg, hptb, hpcu, -⟩ := resumeLoader_keeps s
    refine ⟨hpcu ▸ h.1, hdrg ▸ h.2.1, ?_⟩
    rw [numberLaw_iff, hpcu, hptb]
    exact h.2.2
  fresh s h := ⟨h.calm, h.drg ▸ initial_form, h.numberLaw⟩

/-- Settles O56: each law, beside a calm pace unit, is an invariant of all that touches ring, loader and cursor. -/
theorem cursorStaysInTheRing : Obligations.CursorStaysInTheRing := fun s _ ht =>
  ⟨fun hp hc => (loadInvariant_cursorLaw.step ht ⟨calm_of_paceLaw s hp, hc⟩).2,
    fun hp hf hn => (loadInvariant_numberLaw.step ht ⟨calm_of_paceLaw s hp, hf, hn⟩).2.2⟩

end Sys2Proof.Machine

namespace Sys2Proof.Machine

/-! ### States field by field -/

/-- Two states with the same blocks are the same. -/
@[ext] theorem State.ext {a b : State} (pending : a.pending = b.pending) (number : a.number = b.number)
    (role : a.role = b.role) (selfTesting : a.selfTesting = b.selfTesting) (resultCode : a.resultCode = b.resultCode)
    (params : a.params = b.params) (liu : a.liu = b.liu) (ord : a.ord = b.ord) (ptb : a.ptb = b.ptb) (pcu : a.pcu = b.pcu)
    (dld : a.dld = b.dld) (drg : a.drg = b.drg) (axu : a.axu = b.axu) (slu : a.slu = b.slu) (stu : a.stu = b.stu)
    (thm : a.thm = b.thm) (flt : a.flt = b.flt) (free : a.free = b.free) : a = b := by
  cases a
  cases b
  simp_all

theorem faultRec_congr {a b : State} (h : a.flt = b.flt) (c : FaultCode) : faultRec c a = faultRec c b := by
  simp [faultRec, h]

/-! ### Reset -/

/-- Settles O2: RESET answers the fresh station of its straps, by computation from every state. -/
theorem resetCommandRestoresEverything : Obligations.ResetCommandRestoresEverything :=
  ⟨fun _ _ _ => rfl, rfl, rfl, rfl, rfl⟩

/-- Settles O3: the station right after reset is one closed state. -/
theorem resetValues : Obligations.ResetValues := by
  refine ⟨by decide, by decide, by decide, fun i => ?_, by decide, ⟨rfl, rfl, fun colour => ?_, fun n => ?_⟩, by decide,
    by decide, by decide, by decide⟩
  · simp [State.reset, State.ofStraps, PeerTable.initial, Peer.initial]
  · simp [State.reset, State.ofStraps, SelectorUnit.initial]
  · simp [State.reset, State.ofStraps, SelectorUnit.initial]

/-- R170, R160: at reset every record is clear, with the default action of its code. -/
theorem faultRec_initial (c : FaultCode) {s : State} (h : s.flt = FaultUnit.initial) :
    faultRec c s = FaultRec.clearedWith defaultActions[faultIdx c] := by
  simp [faultRec, h, FaultUnit.initial]

theorem faultLaw_initial {s : State} (h : s.flt = FaultUnit.initial) : faultLaw s := by
  refine ⟨fun c => ?_, fun hm => by rw [h] at hm; cases hm⟩
  rw [faultRec_initial c h]
  refine ⟨by simp [FaultRec.clearedWith], ?_, by simp [FaultRec.clearedWith]⟩
  cases c <;> decide

/-- R175: the defaults lie in their ranges and agree. -/
theorem paramsLaw_defaults : paramsLaw Params.defaults := ⟨fun q => by cases q <;> decide, by decide⟩

/-- Settles O53: ring and record laws from the fresh state of O55 and O56, the others from the reset values. -/
theorem lawsHoldAtReset : Obligations.LawsHoldAtReset := by
  refine ⟨fun waiting number role => ?_, rfl⟩
  have hfresh := LoadInvariant.fresh_ofStraps waiting number role
  refine ⟨⟨?_, ?_⟩, ?_, hfresh.loadingLaw, ?_, hfresh.numberLaw, fun _ => ?_, faultLaw_initial rfl, ?_, ?_⟩
  · simp [windowLaw, State.ofStraps, PaceUnit.initial, workInFlight, AxisUnit.initial, trimming, SelectorUnit.initial,
      selectorBusy, strokeInFlight, StrokeUnit.initial, isRunning]
  · simp [runLaw, State.ofStraps, PaceUnit.initial, agreementWaiting, isRunning]
  · simp [cutLaw, State.ofStraps, PaceUnit.initial, FaultUnit.initial]
  · simp [cursorLaw, State.ofStraps, PaceUnit.initial, Ring.initial, Cursor.at]
  · exact ⟨paramsLaw_defaults.2, by simp [State.ofStraps, AxisUnit.initial]⟩
  · intro b hb
    cases hb
  · exact paramsLaw_defaults

/-! ### Restarts (R167, R169, R170, R178) -/

/-- R169, R170: the records through a restart. -/
theorem faultRec_restartValues (fromCut : Bool) (level : SupplyLevel) (c : FaultCode) (s : State) :
    faultRec c (restartValues fromCut level s) = restartRec fromCut c (faultRec c s) :=
  restartFaults_rec fromCut level s.flt c

/-- R167: what a starting level makes of the record of a fault. -/
theorem faultRec_raiseStartingLevel (c : FaultCode) (s : State) :
    faultRec c (raiseStartingLevel s) =
      if (c = .supplyWarn ∧ s.flt.supply ≠ .normal) ∨ (c = .supplyLow ∧ s.flt.supply ≠ .normal ∧ s.flt.supply ≠ .warn) then
        raisedRec (faultRec c s).action 0 0 (faultRec c s)
      else faultRec c s := by
  have hne : FaultCode.supplyLow ≠ .supplyWarn := by decide
  have hlow : ∀ t : State, faultRec c (raise .supplyLow 0 0 (raise .supplyWarn 0 0 t)) =
      if c = .supplyWarn ∨ c = .supplyLow then raisedRec (faultRec c t).action 0 0 (faultRec c t) else faultRec c t := fun t => by
    by_cases hl : c = .supplyLow
    · subst hl
      rw [faultRec_raise_self, faultRec_raise_ne _ _ _ _ _ hne, if_pos (.inr rfl)]
    · rw [faultRec_raise_ne _ _ _ _ _ hl]
      by_cases hw : c = .supplyWarn
      · subst hw
        simp
      · rw [faultRec_raise_ne _ _ _ _ _ hw, if_neg (by simp [hl, hw])]
  unfold raiseStartingLevel
  cases hs : s.flt.supply with
  | normal => simp
  | warn =>
    by_cases hw : c = .supplyWarn
    · subst hw
      simp
    · simp [faultRec_raise_ne _ _ _ _ _ hw, hw]
  | low => simpa using hlow s
  | cut => simpa using hlow s

@[simp] theorem raiseStartingLevel_marks (s : State) :
    (raiseStartingLevel s).flt.supply = s.flt.supply ∧ (raiseStartingLevel s).flt.axisMark = s.flt.axisMark := by
  unfold raiseStartingLevel
  split <;> simp

/-- R49: an accepted frame leaves every record but DUPLICATE-NUMBER's, and that one's action. -/
theorem faultRec_frameTaken_ne (src : Station) (c : FaultCode) (s : State) (h : c ≠ .duplicateNumber) :
    faultRec c (frameTaken src s) = faultRec c s := by
  unfold frameTaken
  dsimp only
  split
  · exact faultRec_raise_ne _ _ _ _ _ h
  · rfl

theorem faultRec_frameTaken_action (src : Station) (c : FaultCode) (s : State) :
    (faultRec c (frameTaken src s)).action = (faultRec c s).action := by
  by_cases h : c = .duplicateNumber
  · subst h
    unfold frameTaken
    dsimp only
    split
    · rw [faultRec_raise_self]
      obtain ⟨-, -, -, ha, -⟩ := raisedRec_spec (faultRec .duplicateNumber s).action 1 0 (faultRec .duplicateNumber s)
      exact ha
    · rfl
  · rw [faultRec_frameTaken_ne src c s h]

@[simp] theorem frameTaken_marks (src : Station) (s : State) :
    (frameTaken src s).flt.supply = s.flt.supply ∧ (frameTaken src s).flt.axisMark = s.flt.axisMark := by
  unfold frameTaken
  dsimp only
  split <;> simp

/-- A restart never changes an action. -/
theorem restartRec_action (fromCut : Bool) (c : FaultCode) (r : FaultRec) : (restartRec fromCut c r).action = r.action := by
  cases c <;> cases fromCut <;> rfl

theorem raisedRec_action (a : Action) (d1 d2 : Byte) (r : FaultRec) : (raisedRec a d1 d2 r).action = r.action :=
  (raisedRec_spec a d1 d2 r).2.2.2.1

end Sys2Proof.Machine

namespace Sys2Proof.Machine

/-! ### RESTART and the supply crossings -/

/-- R178: the fault records after a restart by order. -/
theorem faultRec_restartByOrder (mv : Nat) (c : FaultCode) (s : State) :
    faultRec c (restartByOrder mv s) =
      faultRec c (raiseStartingLevel (beginJoining (restartValues false (startingLevel mv) s))) := by
  unfold restartByOrder
  dsimp only
  split
  · exact faultRec_congr (by simp) c
  · rfl

/-- R167, R178: the record of a supply fault after a restart by order, and of every other. -/
theorem faultRec_restartByOrder_eq (mv : Nat) (c : FaultCode) (s : State) :
    faultRec c (restartByOrder mv s) =
      if (c = .supplyWarn ∧ startingLevel mv ≠ .normal) ∨
          (c = .supplyLow ∧ startingLevel mv ≠ .normal ∧ startingLevel mv ≠ .warn) then
        raisedRec (faultRec c s).action 0 0 (restartRec false c (faultRec c s))
      else restartRec false c (faultRec c s) := by
  have hrec : faultRec c (beginJoining (restartValues false (startingLevel mv) s)) = restartRec false c (faultRec c s) :=
    faultRec_restartValues false (startingLevel mv) c s
  rw [faultRec_restartByOrder, faultRec_raiseStartingLevel, hrec, restartRec_action]
  rfl

theorem restartRec_ordinary (fromCut : Bool) (c : FaultCode) (r : FaultRec)
    (h : c ≠ .selfTest ∧ c ≠ .duplicateNumber ∧ c ≠ .supplyLow ∧ c ≠ .supplyWarn) :
    restartRec fromCut c r = FaultRec.clearedWith r.action := by
  cases c <;> simp_all [restartRec]

theorem restartByOrder_marks (mv : Nat) (s : State) :
    (restartByOrder mv s).flt.supply = startingLevel mv ∧ (restartByOrder mv s).flt.axisMark = false := by
  unfold restartByOrder
  dsimp only
  split <;> simp [restartValues, restartFaults]

/-- R178, R168: the pace unit and the line after a restart by order. -/
theorem restartByOrder_pace (mv : Nat) (s : State) :
    (startingLevel mv = .cut → (restartByOrder mv s).pcu.run = .cut ∧ (restartByOrder mv s).pcu.pace = true ∧
      (restartByOrder mv s).pcu.listen = .stopped) ∧
    (startingLevel mv ≠ .cut → (restartByOrder mv s).pcu = { PaceUnit.initial with listen := .running Config.listenUs } ∧
      (restartByOrder mv s).liu =
        { LineInterface.initial with beaconTimer := .running (Config.beaconOffsetUs s.number) }) := by
  constructor
  · intro h
    simp [restartByOrder, h, enterCut, cutPace]
  · intro h
    simp [restartByOrder, h, beginJoining, restartValues, State.ofStraps]

/-- R178: everything but pace unit, line and fault unit takes its restart value, at once in CUT too. -/
theorem restartByOrder_eq (mv : Nat) (s : State) :
    restartByOrder mv s = { State.ofStraps s.pending s.number s.role with
      selfTesting := s.selfTesting, resultCode := s.resultCode, params := s.params, free := s.free,
      pcu := (restartByOrder mv s).pcu, liu := (restartByOrder mv s).liu, flt := (restartByOrder mv s).flt,
      ord := { s.ord with setupOpen := true }
      slu := { SelectorUnit.initial with map := s.slu.map, needles := s.slu.needles }
      thm := { ThreadMonitor.initial with bobbin := s.thm.bobbin, lastLoaded := s.thm.lastLoaded } } := by
  unfold restartByOrder
  dsimp only
  split
  · ext1 <;> simp <;> simp [enterCut, restartValues, State.ofStraps, cutAxis, AxisUnit.initial, cutSelector,
      SelectorUnit.initial, cutStroke, StrokeUnit.initial, cutThread, ThreadMonitor.initial]
  · ext1 <;> simp <;> rfl

/-- Settles O25: an accepted RESTART is the restart of the station with the frame taken in. -/
theorem restartOrder : Obligations.RestartOrder := by
  intro f s mv hj hargs
  have ho : withArgs (parseNone f.args) (ownerRestart mv) (frameTaken f.src s) = .ok (restartByOrder mv (frameTaken f.src s)) := by
    rw [hargs]
    rfl
  have hrec := fun c => faultRec_restartByOrder_eq mv c (frameTaken f.src s)
  obtain ⟨hcut, hrun⟩ := restartByOrder_pace mv (frameTaken f.src s)
  refine ⟨_, takeOrder_accepted _ _ _ _ _ _ hj ho, fun c => ?_, fun c hc => ?_, fun c hc => ?_, ?_, ?_,
    (restartByOrder_marks mv _).1, (restartByOrder_marks mv _).2, hcut, ?_, ?_⟩
  · have hact : ∀ r : FaultRec, (restartRec false c r).action = r.action := restartRec_action false c
    refine (congrArg FaultRec.action (hrec c)).trans ?_
    split <;> simp [raisedRec_action, hact, faultRec_frameTaken_action]
  · refine (hrec c).trans ?_
    rcases hc with rfl | rfl <;> simp [restartRec, keptRec]
  · refine (hrec c).trans ?_
    rw [if_neg (by simp [hc]), restartRec_ordinary _ _ _ hc, faultRec_frameTaken_action]
  · refine (hrec .supplyWarn).trans ?_
    rw [faultRec_frameTaken_ne _ _ _ (by decide)]
    by_cases hn : startingLevel mv = .normal <;> simp [hn, restartRec]
  · refine (hrec .supplyLow).trans ?_
    rw [faultRec_frameTaken_ne _ _ _ (by decide)]
    by_cases hn : startingLevel mv = .normal ∨ startingLevel mv = .warn
    · rcases hn with hn | hn <;> simp [hn, restartRec]
    · simp only [not_or] at hn
      simp [hn, restartRec]
  · simpa [Config.listenUs, Config.beaconOffsetUs] using hrun
  · conv_lhs => rw [restartByOrder_eq]
    simp [countAccepted]

/-- R169: the fault records after the recovery from CUT. -/
theorem restartRec_fromCut (c : FaultCode) (r : FaultRec) :
    restartRec true c r =
      if c = .selfTest ∨ c = .duplicateNumber then { r with pending := r.pending || r.latched }
      else if c = .supplyLow ∨ c = .supplyWarn then { r with pending := true }
      else FaultRec.clearedWith r.action := by
  cases c <;> simp [restartRec, keptRec]

/-- Settles O49, crossing by crossing: at its own level, then at any other. -/
theorem supplyCrossings : Obligations.SupplyCrossings := by
  refine ⟨fun s hi h => ?_, fun s hi h => ?_, fun s hi h => ?_, fun s hi h => ?_, fun s hi h => ?_, fun s hi h => ?_,
    fun s hi h => ?_, fun s hi h => ?_, fun s hi h => ?_, fun s hi h => ?_, fun s hi h => ?_, fun s hi h => ?_⟩
  · refine ⟨raise .supplyWarn 0 0 (setSupply .warn s), by simp [exec, execSupplyFallWarn, onService, hi, h],
      faultRec_raise_self _ _ _ _, fun c hc => faultRec_raise_ne _ _ _ _ _ hc, rfl, rfl, rfl⟩
  · simp [exec, execSupplyFallWarn, onService, h]
  · simp [exec, execSupplyRiseNormal, onService, hi, h, setSupply]
  · simp [exec, execSupplyRiseNormal, onService, h]
  · refine ⟨raise .supplyLow 0 0 (setSupply .low s), by simp [exec, execSupplyFallLow, onService, hi, h],
      faultRec_raise_self _ _ _ _, fun c hc => faultRec_raise_ne _ _ _ _ _ hc, rfl, rfl, rfl⟩
  · simp [exec, execSupplyFallLow, onService, h]
  · simp [exec, execSupplyRiseWarn, onService, hi, h, setSupply]
  · simp [exec, execSupplyRiseWarn, onService, h]
  · simp [exec, execSupplyFallCut, onService, hi, h, setSupply, enterCut, cutPace, cutAxis, cutSelector, cutStroke, cutThread,
      cutLine]
  · simp [exec, execSupplyFallCut, onService, h]
  · refine ⟨restartFromCut s, by simp [exec, execSupplyRecovery, onService, hi, h], fun c => ?_, rfl, rfl, rfl⟩
    exact (faultRec_restartValues true .low c s).trans (restartRec_fromCut c _)
  · simp [exec, execSupplyRecovery, onService, h]

end Sys2Proof.Machine

namespace Sys2Proof.Machine

/-! ### Entering STOPPED, block by block (R35, R52) -/

/-- R43: the pacing peers are those of the peer table, seen from the station's own number. -/
theorem pacingPeers_congr {a b : State} (hn : a.number = b.number) (hp : a.ptb = b.ptb) : pacingPeers a = pacingPeers b := by
  simp [pacingPeers, hn, hp]

/-- R47, R186: the line once a beacon falls due. -/
theorem beaconFallsDue_liu (s : State) (h : s.pcu.run ≠ .cut) :
    (beaconFallsDue s).liu =
      if s.liu.tx.any (fun t => t.slot == .beacon) then
        { s.liu with tx := s.liu.tx.map fun t => { t with again := true } }
      else { s.liu with beaconDue := true } := by
  unfold beaconFallsDue
  rw [if_neg h]
  cases htx : s.liu.tx with
  | none => simp
  | some t => by_cases ht : t.slot = .beacon <;> simp [ht]

theorem enterStopped_pcu (reason : StopReason) (s : State) :
    (enterStopped reason s).pcu = { s.pcu with
      run := .stopped, win := .preparing, openW := none, next := none, preparePending := false, pendingStop := none
      stopReason := s.pcu.pendingStop.getD reason, starve := .stopped, stall := .stopped, haltWait := .stopped, pace := true
      armed := true, traversal := none, joinAgreement := false
      haltPulse :=
        if s.pcu.traversal.map Traversal.target = some (some s.pcu.cursor) then .running 50 else s.pcu.haltPulse
      agreement := if (pacingPeers s).isEmpty then .stopped else .running 100000 } := by
  have hp : pacingPeers (beaconFallsDue (stopPace reason s)) = pacingPeers s := pacingPeers_congr (by simp) (by simp)
  simp only [enterStopped, beginAgreement, hp, beaconFallsDue_pcu]
  simp [stopPace, traversalDone_eq, Config.haltPulseUs, Config.agreementUs]

theorem enterStopped_ptb (reason : StopReason) (s : State) :
    (enterStopped reason s).ptb = { s.ptb with peers := vmap (fun p => { p with qualified := false }) s.ptb.peers } := by
  simp [enterStopped, beginAgreement]

theorem enterStopped_liu (reason : StopReason) (s : State) :
    (enterStopped reason s).liu =
      if s.liu.tx.any (fun t => t.slot == .beacon) then
        { s.liu with tx := s.liu.tx.map fun t => { t with again := true } }
      else { s.liu with beaconDue := true } := by
  have h : (enterStopped reason s).liu = (beaconFallsDue (stopPace reason s)).liu := rfl
  rw [h, beaconFallsDue_liu _ (by simp [stopPace])]
  simp

/-- R35: entering STOPPED changes pace unit, peer marks and the beacon slot alone. -/
theorem enterStopped_frame (reason : StopReason) (s : State) :
    enterStopped reason s = { s with
      pcu := (enterStopped reason s).pcu, ptb := (enterStopped reason s).ptb, liu := (enterStopped reason s).liu } := by
  ext1 <;> simp

/-! ### The roster check (R48) -/

/-- R48: the roster rests on the station's number, role and the presence and role of its peers. -/
theorem rosterCount_congr (r : Role) {a b : State} (hn : a.number = b.number) (hr : a.role = b.role)
    (hp : ∀ i : Station, a.ptb.peers[i].presence = b.ptb.peers[i].presence ∧ a.ptb.peers[i].role = b.ptb.peers[i].role) :
    rosterCount r a = rosterCount r b := by
  unfold rosterCount
  refine congrFun (congrArg _ (funext fun i => ?_)) _
  rw [hn, hr, (hp i).1, (hp i).2]

theorem rosterCheck_joined (s : State) (h : s.ptb.joined = true) :
    rosterCheck s =
      if rosterRight s then unlatch .frameRoster s
      else raise .frameRoster (octetSat (rosterCount .axisX s)) (octetSat (rosterCount .axisY s)) s := by
  simp [rosterCheck, h]

theorem unlatch_axisMark (c : FaultCode) (s : State) (h : c ≠ .peerLost) :
    (unlatch c s).flt.axisMark = s.flt.axisMark := by
  simp [unlatch, h]

@[simp] theorem rosterCheck_marks (s : State) :
    (rosterCheck s).flt.supply = s.flt.supply ∧ (rosterCheck s).flt.axisMark = s.flt.axisMark := by
  unfold rosterCheck
  (repeat' split) <;> simp [unlatch_axisMark]

theorem faultRec_rosterCheck_ne (c : FaultCode) (s : State) (h : c ≠ .frameRoster) :
    faultRec c (rosterCheck s) = faultRec c s := by
  unfold rosterCheck
  split
  · split
    · exact faultRec_unlatch_ne _ _ s h
    · exact faultRec_raise_ne _ _ _ _ s h
  · rfl

/-! ### The end of the joining listen (R51) -/

/-- The station that joining leaves before it enters STOPPED: the cursor taken, the covered mark set, the selector read. -/
def joiningSeated (lines : CodeLines) (s : State) : State :=
  readAtJoining lines (coverAtJoining (setCursor (joiningCursor s) { s with pcu := { s.pcu with listen := .stopped } }))

theorem completeJoining_eq (lines : CodeLines) (s : State) :
    completeJoining lines s = raiseNotHomed (stopJoined (joiningSeated lines s)) := rfl

@[simp] theorem joiningSeated_keeps (lines : CodeLines) (s : State) :
    (joiningSeated lines s).pending = s.pending ∧ (joiningSeated lines s).number = s.number ∧
    (joiningSeated lines s).role = s.role ∧ (joiningSeated lines s).selfTesting = s.selfTesting ∧
    (joiningSeated lines s).resultCode = s.resultCode ∧ (joiningSeated lines s).params = s.params ∧
    (joiningSeated lines s).liu = s.liu ∧ (joiningSeated lines s).ord = s.ord ∧ (joiningSeated lines s).ptb = s.ptb ∧
    (joiningSeated lines s).axu = s.axu ∧ (joiningSeated lines s).thm = s.thm ∧ (joiningSeated lines s).flt = s.flt ∧
    (joiningSeated lines s).free = s.free ∧
    (joiningSeated lines s).pcu = { s.pcu with listen := .stopped, cursor := joiningCursor s } := by
  simp [joiningSeated, setCursor_pcu]

theorem joiningSeated_stu (lines : CodeLines) (s : State) :
    (joiningSeated lines s).stu = if isHead s then { s.stu with C := (joiningCursor s).n } else s.stu := by
  simp only [joiningSeated, readAtJoining_keeps, coverAtJoining, isHead, setCursor_keeps]
  by_cases hh : s.role = some .head <;> simp [hh]

theorem joiningSeated_slu (lines : CodeLines) (s : State) :
    (joiningSeated lines s).slu =
      if isHead s then ((readCode s.params.needles s.slu.detent lines).map fun q =>
        { s.slu with sel := .settled q, counter := q }).getD s.slu
      else s.slu := by
  simp only [joiningSeated, readAtJoining, isHead, coverAtJoining_keeps, setCursor_keeps]
  by_cases hh : s.role = some .head
  · cases readCode s.params.needles s.slu.detent lines <;> simp [hh, settleAt]
  · simp [hh]

/-- The station that joining leaves in STOPPED, its joining complete, before the roster check. -/
def joinedStopped (s : State) : State :=
  { enterStopped .joined s with
    pcu := { (enterStopped .joined s).pcu with joinAgreement := agreementWaiting (enterStopped .joined s) }
    ptb := { (enterStopped .joined s).ptb with joined := true } }

theorem stopJoined_eq (s : State) : stopJoined s = rosterCheck (joinedStopped s) := rfl

theorem stopJoined_pcu (s : State) :
    (stopJoined s).pcu = { (enterStopped .joined s).pcu with joinAgreement := !(pacingPeers s).isEmpty } := by
  have h : agreementWaiting (enterStopped .joined s) = !(pacingPeers s).isEmpty := by
    rw [agreementWaiting, enterStopped_pcu]
    cases (pacingPeers s).isEmpty <;> rfl
  simp [stopJoined_eq, joinedStopped, h]

/-- R48: the roster check of joining is one of the roster as the listen left it. -/
theorem rosterCount_joinedStopped (r : Role) (s : State) : rosterCount r (joinedStopped s) = rosterCount r s :=
  rosterCount_congr r (by simp [joinedStopped]) (by simp [joinedStopped]) fun i => by
    simp [joinedStopped, enterStopped_ptb]

theorem rosterRight_joinedStopped (s : State) : rosterRight (joinedStopped s) = rosterRight s := by
  simp only [rosterRight, rosterCount_joinedStopped]

theorem faultRec_stopJoined (c : FaultCode) (s : State) :
    faultRec c (stopJoined s) =
      if c = .frameRoster then
        if rosterRight s then { faultRec c s with latched := false }
        else raisedRec (faultRec c s).action (octetSat (rosterCount .axisX s)) (octetSat (rosterCount .axisY s)) (faultRec c s)
      else faultRec c s := by
  have hflt : ∀ d, faultRec d (joinedStopped s) = faultRec d s := faultRec_congr (by simp [joinedStopped])
  rw [stopJoined_eq]
  by_cases hc : c = .frameRoster
  · subst hc
    simp only [rosterCheck_joined (joinedStopped s) rfl, rosterRight_joinedStopped, rosterCount_joinedStopped, if_true]
    by_cases hr : rosterRight s = true
    · rw [if_pos hr, if_pos hr, faultRec_unlatch_self, hflt]
    · rw [if_neg hr, if_neg hr, faultRec_raise_self, hflt]
  · rw [faultRec_rosterCheck_ne c _ hc, hflt, if_neg hc]

theorem faultRec_raiseNotHomed (c : FaultCode) (s : State) :
    faultRec c (raiseNotHomed s) =
      if c = .notHomed ∧ isAxis s = true ∧ s.axu.homing ≠ .homed then raisedRec (faultRec c s).action 0 0 (faultRec c s)
      else faultRec c s := by
  have heq : raiseNotHomed s = if isAxis s = true ∧ s.axu.homing ≠ .homed then raise .notHomed 0 0 s else s := by
    simp [raiseNotHomed]
  rw [heq]
  by_cases hh : isAxis s = true ∧ s.axu.homing ≠ .homed
  · rw [if_pos hh]
    by_cases hc : c = .notHomed
    · subst hc
      simp [hh, faultRec_raise_self]
    · rw [if_neg (by simp [hc]), faultRec_raise_ne _ _ _ _ s hc]
  · rw [if_neg hh, if_neg (fun h => hh h.2)]

@[simp] theorem raiseNotHomed_marks (s : State) :
    (raiseNotHomed s).flt.supply = s.flt.supply ∧ (raiseNotHomed s).flt.axisMark = s.flt.axisMark := by
  unfold raiseNotHomed
  split <;> simp

/-- Settles O6: the blocks of the completed joining, from the frames and rules of its four parts. -/
theorem joiningListenEnds : Obligations.JoiningListenEnds := by
  intro lines s hi hrun hlisten
  obtain ⟨hdrg, hdld, hcur, -, -, -⟩ := completeJoining_place lines s
  have hpeers : pacingPeers (joiningSeated lines s) = pacingPeers s := pacingPeers_congr (by simp) (by simp)
  have hpcu : (completeJoining lines s).pcu =
      { (enterStopped .joined (joiningSeated lines s)).pcu with joinAgreement := !(pacingPeers s).isEmpty } := by
    simp only [completeJoining_eq, raiseNotHomed_keeps, stopJoined_pcu, hpeers]
  have hwait : agreementWaiting (completeJoining lines s) = !(pacingPeers s).isEmpty := by
    rw [agreementWaiting, hpcu, enterStopped_pcu, hpeers]
    cases (pacingPeers s).isEmpty <;> rfl
  have hroster : ∀ r, rosterCount r (joiningSeated lines s) = rosterCount r s := fun r =>
    rosterCount_congr r (by simp) (by simp) fun i => by simp
  have hrec : ∀ c, faultRec c (joiningSeated lines s) = faultRec c s := faultRec_congr (by simp)
  have hfault : ∀ c, faultRec c (completeJoining lines s) =
      faultRec c (raiseNotHomed (stopJoined (joiningSeated lines s))) := fun c => rfl
  have haxis : isAxis (stopJoined (joiningSeated lines s)) = isAxis s := by simp [isAxis]
  have hliu : (completeJoining lines s).liu = (beaconFallsDue { s with pcu := (completeJoining lines s).pcu }).liu := by
    rw [beaconFallsDue_liu _ (by simp [hpcu, enterStopped_pcu])]
    simp [completeJoining_eq, stopJoined, enterStopped_liu]
  refine ⟨completeJoining lines s, by simp [exec, execJoiningListenEnd, onService, hi, hrun, hlisten], ?_, ?_, ?_, hcur, hdrg,
    hdld, by rw [completeJoining_peers], hwait, ?_, fun i => ?_, ?_, ?_, ?_, ?_, fun c hc => ?_, ?_⟩
  · simp [completeJoining_eq, stopJoined]
  · simp [completeJoining_eq, stopJoined]
  · simp [hpcu, enterStopped_pcu]
  · rw [hwait, hpcu]
  · simp [completeJoining_peers]
  · simpa [completeJoining_eq] using joiningSeated_stu lines s
  · simpa [completeJoining_eq] using joiningSeated_slu lines s
  · rw [raisedIn, hfault, faultRec_raiseNotHomed, faultRec_stopJoined, haxis, hrec]
    by_cases hh : isAxis s = true ∧ s.axu.homing ≠ .homed <;> simp [hh]
  · have hright : rosterRight (joiningSeated lines s) = rosterRight s := by simp only [rosterRight, hroster]
    simp only [raisedIn, hfault, faultRec_raiseNotHomed, faultRec_stopJoined, hrec, hright, hroster]
    by_cases hh : rosterRight s = true <;> simp [hh]
  · rw [hfault, faultRec_raiseNotHomed, faultRec_stopJoined, hrec]
    simp [hc]
  · ext1 <;> simp [completeJoining_eq]
    simpa [completeJoining_eq] using hliu

end Sys2Proof.Machine

namespace Sys2Proof.Machine

/-! ### SETSEG (R71 to R73) -/

/-- R43: whether there is a pacing peer rests on the peers' presence alone. -/
theorem pacingPeers_isEmpty_congr {a b : State} (hn : a.number = b.number)
    (hp : ∀ i : Station, a.ptb.peers[i].presence = b.ptb.peers[i].presence) :
    (pacingPeers a).isEmpty = (pacingPeers b).isEmpty := by
  simp only [Fin.getElem_fin] at hp
  rw [Bool.eq_iff_iff]
  simp [pacingPeers, List.isEmpty_iff, List.filterMap_eq_nil_iff, hn, hp]

theorem frameTaken_presence (src i : Station) (s : State) : (frameTaken src s).ptb.peers[i].presence = s.ptb.peers[i].presence := by
  unfold frameTaken
  split
  · simp
  · by_cases hi : i = src
    · subst hi
      simp [setPeer]
    · simp [setPeer, Ne.symm hi, Fin.val_inj]

theorem frameTaken_joined (src : Station) (s : State) : (frameTaken src s).ptb.joined = s.ptb.joined := by
  unfold frameTaken
  split <;> simp [setPeer]

/-- A cursor at record r changes no ring that is seated at r, and no loader but one in WAIT. -/
theorem setCursor_seated (q : SetSeg) (s : State) :
    setCursor (Cursor.at q.r) (reseat q s) = writeCursor (Cursor.at q.r) (reseat q s) := by
  have hring : (retainRing (writeCursor (Cursor.at q.r) (reseat q s))).drg = emptiedAt q.r q.base := by
    simp [retainRing, retainAt, raiseF, reseat, writeCursor, emptiedAt, ringL]
  have hkeep : retainRing (writeCursor (Cursor.at q.r) (reseat q s)) = writeCursor (Cursor.at q.r) (reseat q s) := by
    ext1
    case drg => exact hring
    all_goals rfl
  unfold setCursor
  split
  · rfl
  · rw [followCursor, hkeep]
    simp [releaseRing, leaveWait, writeCursor, reseat]

theorem newDesign_seated (q : SetSeg) (s : State) :
    newDesign q.r (reseat q s) = beginAgreement (newDesignRole q.r (writeCursor (Cursor.at q.r) (reseat q s))) := by
  rw [newDesign, setCursor_seated]

/-- R174: no station is both a head and an axis. -/
theorem isHead_eq_false_of_isAxis {s : State} (h : isAxis s = true) : isHead s = false := by
  have h' : s.role = some .axisX ∨ s.role = some .axisY := by simpa [isAxis] using h
  rcases h' with h' | h' <;> simp [isHead, h']

theorem isAxis_eq_false_of_isHead {s : State} (h : isHead s = true) : isAxis s = false :=
  Bool.eq_false_iff.2 fun hx => by simp [isHead_eq_false_of_isAxis hx] at h

theorem faultRec_newDesignRole (c : FaultCode) (r : Nat) (s : State) :
    faultRec c (newDesignRole r s) =
      if c = .originLost ∧ isAxis s = true then raisedRec (faultRec c s).action 0 0 (faultRec c s) else faultRec c s := by
  by_cases hh : isHead s = true
  · rw [if_neg (by simp [isAxis_eq_false_of_isHead hh]), newDesignRole, if_pos hh]
    rfl
  · rw [newDesignRole, if_neg hh]
    by_cases hx : isAxis s = true
    · rw [if_pos hx]
      by_cases hc : c = .originLost
      · subst hc
        rw [if_pos ⟨rfl, hx⟩, faultRec_raise_self]
        rfl
      · rw [if_neg (by simp [hc]), faultRec_raise_ne _ _ _ _ _ hc]
        rfl
    · rw [if_neg hx, if_neg (by simp [hx])]

@[simp] theorem newDesignRole_marks (r : Nat) (s : State) :
    (newDesignRole r s).flt.supply = s.flt.supply ∧ (newDesignRole r s).flt.axisMark = s.flt.axisMark := by
  unfold newDesignRole
  (repeat' split) <;> simp

theorem newDesignRole_stu (r : Nat) (s : State) :
    (newDesignRole r s).stu = if isHead s then { s.stu with C := r } else s.stu := by
  unfold newDesignRole
  (repeat' split) <;> simp_all

theorem newDesignRole_axu (r : Nat) (s : State) :
    (newDesignRole r s).axu = if isAxis s then { s.axu with originValid := false } else s.axu := by
  unfold newDesignRole
  by_cases hh : isHead s = true
  · simp [hh, isAxis_eq_false_of_isHead hh]
  · (repeat' split) <;> simp_all

/-- R73: a new design leaves every other block alone. -/
theorem newDesignRole_rest (r : Nat) (s : State) :
    (newDesignRole r s).pending = s.pending ∧ (newDesignRole r s).number = s.number ∧ (newDesignRole r s).role = s.role ∧
    (newDesignRole r s).selfTesting = s.selfTesting ∧ (newDesignRole r s).resultCode = s.resultCode ∧
    (newDesignRole r s).params = s.params ∧ (newDesignRole r s).liu = s.liu ∧ (newDesignRole r s).ord = s.ord ∧
    (newDesignRole r s).slu = s.slu ∧ (newDesignRole r s).thm = s.thm ∧ (newDesignRole r s).free = s.free := by
  unfold newDesignRole
  (repeat' split) <;> simp

theorem ownerSetseg_notStopped (q : SetSeg) (s : State) (h : s.pcu.run ≠ .stopped) :
    ownerSetseg q s = .error .notStopped := by
  simp [ownerSetseg, isStopped, beq_false_of_ne h]

theorem ownerSetseg_lockout (q : SetSeg) (s : State) (h : s.pcu.run = .stopped) (hl : s.dld.state = .lockout) :
    ownerSetseg q s = .error .lockout := by
  simp [ownerSetseg, isStopped, h, hl]

theorem ownerSetseg_badArg (q : SetSeg) (s : State) (h : s.pcu.run = .stopped) (hl : s.dld.state ≠ .lockout)
    (hb : 31 < q.base) : ownerSetseg q s = .error .badArg := by
  simp [ownerSetseg, isStopped, h, bne_iff_ne.mpr hl, Nat.not_le.mpr hb]

theorem ownerSetseg_range (q : SetSeg) (s : State) (h : s.pcu.run = .stopped) (hl : s.dld.state ≠ .lockout)
    (hb : q.base ≤ 31) (hn : q.new = false) (hr : s.pcu.cursor.n < q.r) : ownerSetseg q s = .error .range := by
  simp [ownerSetseg, isStopped, h, bne_iff_ne.mpr hl, hb, hn, Nat.not_le.mpr hr]

theorem ownerSetseg_accepts (q : SetSeg) (s : State) (h : s.pcu.run = .stopped) (hl : s.dld.state ≠ .lockout)
    (hb : q.base ≤ 31) (hr : q.new = true ∨ q.r ≤ s.pcu.cursor.n) :
    ownerSetseg q s = .ok (if q.new then newDesign q.r (reseat q s) else reseat q s) := by
  have hrange : (q.new || decide (q.r ≤ s.pcu.cursor.n)) = true := by simpa using hr
  simp [ownerSetseg, isStopped, h, bne_iff_ne.mpr hl, hb, hrange]

/-- Settles O21: the checks are those of the loader's owner, and with NEW the cursor follows the ring seated at r. -/
theorem setsegOrder : Obligations.SetsegOrder := by
  refine ⟨fun f q s hj hq hrun => ?_, fun f q s hj hq hrun hl => ?_, fun f q s hj hq hrun hl hb => ?_,
    fun f q s hj hq hrun hl hb hn hr => ?_, fun f q s hj hq hrun hl hb hn hr => ?_, fun f q s hj hq hrun hl hb hn => ?_⟩
  · exact takeOrder_refused _ _ _ _ _ _ hj (by simp [hq, withArgs, ownerSetseg_notStopped, hrun])
  · exact takeOrder_refused _ _ _ _ _ _ hj (by simp [hq, withArgs, ownerSetseg_lockout, hrun, hl])
  · exact takeOrder_refused _ _ _ _ _ _ hj (by simp [hq, withArgs, ownerSetseg_badArg, hrun, hl, hb])
  · exact takeOrder_refused _ _ _ _ _ _ hj (by simp [hq, withArgs, ownerSetseg_range, hrun, hl, hb, hn, hr])
  · refine takeOrder_accepted _ _ _ _ _ _ hj ?_
    simp only [hq, withArgs]
    rw [ownerSetseg_accepts q _ (by simpa using hrun) (by simpa using hl) hb (.inr (by simpa using hr)), hn]
    simp [reseat, emptiedAt]
  · have hok : withArgs (parseSetSeg f.args) ownerSetseg (frameTaken f.src s) =
        .ok (newDesign q.r (reseat q (frameTaken f.src s))) := by
      simp only [hq, withArgs]
      rw [ownerSetseg_accepts q _ (by simpa using hrun) (by simpa using hl) hb (.inl hn), if_pos hn]
    rw [newDesign_seated] at hok
    have hrec : ∀ c, faultRec c (countAccepted (beginAgreement
        (newDesignRole q.r (writeCursor (Cursor.at q.r) (reseat q (frameTaken f.src s)))))) =
        if c = .originLost ∧ isAxis s = true then
          raisedRec (faultRec c (frameTaken f.src s)).action 0 0 (faultRec c (frameTaken f.src s))
        else faultRec c (frameTaken f.src s) := fun c => by
      rw [← isAxis_frameTaken f.src s]
      exact faultRec_newDesignRole c q.r _
    have hpeers : ∀ w : State, w.number = s.number → w.ptb = (frameTaken f.src s).ptb →
        (pacingPeers w = [] ↔ pacingPeers s = []) := fun w hn hp => by
      rw [← List.isEmpty_iff, ← List.isEmpty_iff, pacingPeers_isEmpty_congr hn fun i => by rw [hp, frameTaken_presence]]
    refine ⟨_, takeOrder_accepted _ _ _ _ _ _ hj hok, ?_, fun c hc => ?_, ?_, ?_, fun i => ?_, ?_, ?_⟩
    · rw [raisedIn, hrec]
      by_cases hx : isAxis s = true <;> simp [hx]
    · rw [hrec, if_neg (by simp [hc])]
    · simp [countAccepted, beginAgreement]
    · simp [countAccepted, beginAgreement]
    · simp [countAccepted, beginAgreement, newDesignRole_keeps, reseat, writeCursor]
    · simp [countAccepted, beginAgreement, newDesignRole_keeps, reseat, writeCursor, frameTaken_joined]
    · ext1 <;> simp [countAccepted, beginAgreement, newDesignRole_keeps, newDesignRole_rest, newDesignRole_stu, newDesignRole_axu, reseat,
        writeCursor, emptiedAt]
      case pcu => exact ⟨rfl, if_congr (hpeers _ (by simp [newDesignRole_rest]) (by simp [newDesignRole_keeps])) rfl rfl⟩
      case axu => rfl
      case stu => rfl

end Sys2Proof.Machine

namespace Sys2Proof.Machine

/-! ### What a change of N does to ring and loader (R8, R11, R14, R67) -/

theorem followCursor_F (s : State) :
    (followCursor s).drg.F =
      if s.dld.state = .wait ∧ ringL s.drg ≤ s.pcu.cursor.n then ringL s.drg
      else max s.drg.F (min (s.pcu.cursor.n - s.params.retain) (ringL s.drg)) := by
  have hle : s.drg.F ≤ ringL s.drg := Nat.le_add_right _ _
  rw [followCursor_drg]
  split
  · rw [raiseF_F, retainAt, raiseF_F]
    omega
  · rw [retainAt, raiseF_F]

/-- R8: every record from the new F on stays. -/
theorem ringGet_followCursor (s : State) (m : Nat) :
    ringGet (followCursor s).drg m = if m < (followCursor s).drg.F then none else ringGet s.drg m := by
  rw [followCursor_drg]
  split
  · simp only [ringGet_raiseF, retainAt, raiseF_F]
    by_cases hlow : m < max s.drg.F (min (s.pcu.cursor.n - s.params.retain) (ringL s.drg))
    · rw [if_pos hlow, ite_self, if_pos (Nat.lt_of_lt_of_le hlow (Nat.le_max_left _ _))]
    · rw [if_neg hlow]
  · rw [retainAt, ringGet_raiseF, raiseF_F]

/-- R11, R12: and the colour in force there. -/
theorem colorInForce_followCursor (s : State) (m : Nat) (hf : ringForm s.drg) (hm : (followCursor s).drg.F ≤ m) :
    colorInForce (followCursor s).drg m = colorInForce s.drg m := by
  obtain ⟨-, htrail', -⟩ := retainAt_form s.pcu.cursor.n s.params.retain s.drg hf
  obtain ⟨-, htrail, -⟩ := hf
  rw [followCursor_drg] at hm ⊢
  split at hm
  · rename_i hw
    have hm' := hm
    rw [raiseF_F] at hm'
    rw [if_pos hw, colorInForce_raiseF _ _ _ htrail' hm, retainAt, colorInForce_raiseF _ _ _ htrail]
    exact Nat.le_trans (Nat.le_max_left _ _) hm'
  · rename_i hw
    rw [if_neg hw, retainAt, colorInForce_raiseF _ _ _ htrail hm]

/-- Settles O32: each part is what retention and release do to the ring. -/
theorem retentionFollowsCursor : Obligations.RetentionFollowsCursor := by
  intro c s hform u
  refine ⟨fun hn => by rw [setCursor, if_neg hn]; rfl, fun hn => by rw [setCursor, if_pos hn]; rfl, followCursor_F _,
    followCursor_L _, followCursor_form _ hform, ringGet_followCursor _, fun m hm _ => ?_, followCursor_dld _, ?_⟩
  · exact colorInForce_followCursor { s with pcu := { s.pcu with cursor := c } } m hform hm
  · ext1 <;> simp [u]

end Sys2Proof.Machine

namespace Sys2Proof.Machine

/-! ### The change of Pc is a difference of sums (R55) -/

/-- Whether a record lies behind a cursor, as a number. -/
def behindMark (r : Ring) (c : Cursor) (m : Nat) : Int :=
  if m < c.n ∨ (m = c.n ∧ c.step = .stroke ∧ (ringGet r m).any isStitch = true) then 1 else 0

/-- The displacement of the axis at a record number; 0 where the record is absent. -/
def moveAt (role : Option Role) (r : Ring) (m : Nat) : Int := ((ringGet r m).map (displacement role)).getD 0

/-- The displacement of the axis over all held records numbered below `n`. -/
def moveBelow (role : Option Role) (r : Ring) (n : Nat) : Int := ((List.range n).map (moveAt role r)).sum

theorem placeKnown_eq_false_iff (r : Ring) (c : Cursor) :
    placeKnown r c = false ↔ c.step = .stroke ∧ ringGet r c.n = none := by
  cases h : c.step <;> simp [placeKnown, h]

/-- Where a cursor's place is known, the records behind it are those below its frontier. -/
theorem behindMark_of_placeKnown (r : Ring) (c : Cursor) (m : Nat) (h : placeKnown r c = true) :
    behindMark r c m = if m < frontier r c then 1 else 0 := by
  refine if_congr ?_ rfl rfl
  unfold frontier
  cases hs : c.step with
  | first => simp
  | stroke =>
    have hsome : (ringGet r c.n).isSome = true := by simpa [placeKnown, hs] using h
    obtain ⟨x, hx⟩ := Option.isSome_iff_exists.1 hsome
    simp only [hx, true_and]
    by_cases hst : isStitch x = true
    · rw [if_pos hst]
      constructor
      · omega
      · intro hm
        rcases Nat.lt_or_ge m c.n with hlt | hge
        · exact .inl hlt
        · have hmn : m = c.n := by omega
          exact .inr ⟨hmn, by simp [hmn, hx, hst]⟩
    · rw [if_neg hst]
      refine ⟨?_, .inl⟩
      rintro (hlt | ⟨rfl, hany⟩)
      · exact hlt
      · simp [hx, hst] at hany

theorem frontier_le (r : Ring) (c : Cursor) : frontier r c ≤ c.n + 1 := by
  unfold frontier
  (repeat' split) <;> omega

theorem moveBelow_succ (role : Option Role) (r : Ring) (n : Nat) :
    moveBelow role r (n + 1) = moveBelow role r n + moveAt role r n := by
  simp [moveBelow, List.range_succ]

/-- A run of held records displaces the axis by the difference of the sums at its ends. -/
theorem displacementSum_run (role : Option Role) (r : Ring) (a : Nat) (rs : List Rec)
    (h : ∀ i, i < rs.length → ringGet r (a + i) = rs[i]?) :
    displacementSum role rs = moveBelow role r (a + rs.length) - moveBelow role r a := by
  induction rs generalizing a with
  | nil => simp [displacementSum]
  | cons x xs ih =>
    have hx : moveAt role r a = displacement role x := by simp [moveAt, show ringGet r a = some x from h 0 (by simp)]
    have htail : displacementSum role xs = moveBelow role r (a + 1 + xs.length) - moveBelow role r (a + 1) :=
      ih (a + 1) fun i hi => by
        have := h (i + 1) (by simpa using hi)
        rwa [Nat.add_comm i 1, ← Nat.add_assoc, Nat.add_comm 1 i, List.getElem?_cons_succ] at this
    have hcons : displacementSum role (x :: xs) = displacement role x + displacementSum role xs := by simp [displacementSum]
    have hlen : a + (x :: xs).length = a + 1 + xs.length := by simp; omega
    rw [hcons, htail, hlen, moveBelow_succ, hx]
    omega

theorem ringSlice_some (r : Ring) (a b : Nat) (rs : List Rec) (hab : a ≤ b) (h : ringSlice r a b = some rs) (role : Option Role) :
    displacementSum role rs = moveBelow role r b - moveBelow role r a := by
  unfold ringSlice at h
  split at h
  · obtain rfl := Option.some.inj h
    have : a = b := by omega
    simp [displacementSum, this]
  · split at h
    · rename_i hin
      obtain rfl := Option.some.inj h
      have hlen : ((r.recs.drop (a - r.F)).take (b - a)).length = b - a := by
        have := hin.2
        unfold ringL at this
        simp
        omega
      rw [displacementSum_run role r a _ fun i hi => ?_, hlen, Nat.add_sub_cancel' hab]
      rw [hlen] at hi
      rw [List.getElem?_take_of_lt hi, List.getElem?_drop, ringGet, if_pos (by omega)]
      congr 1
      omega
    · cases h

/-- A run of records is not all held exactly where one of them is absent. -/
theorem ringSlice_none_iff (r : Ring) (a b : Nat) : ringSlice r a b = none ↔ ∃ m, a ≤ m ∧ m < b ∧ ringGet r m = none := by
  have hget : ∀ m, ringGet r m = none ↔ ¬ (r.F ≤ m ∧ m < ringL r) := fun m => by
    rw [← ringGet_isSome_iff]
    simp
  simp only [hget]
  unfold ringSlice
  split
  · simp
    omega
  · split
    · simp
      omega
    · rename_i hab hin
      simp only [true_iff]
      by_cases hF : r.F ≤ a
      · exact ⟨b - 1, by omega, by omega, by omega⟩
      · exact ⟨a, by omega, by omega, by omega⟩

/-- R55: a change that is given is the difference of the sums at the two frontiers. -/
theorem pcChange_some (role : Option Role) (r : Ring) (old new : Cursor) (d : Int) (h : pcChange role r old new = some d) :
    placeKnown r old = true ∧ placeKnown r new = true ∧
      d = moveBelow role r (frontier r new) - moveBelow role r (frontier r old) := by
  unfold pcChange at h
  split at h
  · rename_i hk
    obtain ⟨-, -, hold, hnew⟩ := hk
    refine ⟨hold, hnew, ?_⟩
    dsimp only at h
    split at h
    · obtain ⟨rs, hrs, rfl⟩ := Option.map_eq_some_iff.1 h
      exact ringSlice_some r _ _ rs ‹_› hrs role
    · obtain ⟨rs, hrs, rfl⟩ := Option.map_eq_some_iff.1 h
      rw [ringSlice_some r _ _ rs (by omega) hrs role]
      omega
  · cases h

/-- R56: a change is not given where a place is not known or a record between the frontiers is absent. -/
theorem pcChange_none_iff (role : Option Role) (r : Ring) (old new : Cursor) :
    pcChange role r old new = none ↔ new.n < r.F ∨ ringL r < new.n ∨ placeKnown r old = false ∨ placeKnown r new = false ∨
      ∃ m, (m < frontier r new ↔ ¬ m < frontier r old) ∧ ringGet r m = none := by
  unfold pcChange
  split
  · rename_i hk
    obtain ⟨hF, hL, hold, hnew⟩ := hk
    have hbetween : ∀ m, (m < frontier r new ↔ ¬ m < frontier r old) ↔
        (frontier r old ≤ m ∧ m < frontier r new) ∨ (frontier r new ≤ m ∧ m < frontier r old) := fun m => by omega
    simp only [hbetween, hold, hnew, Nat.not_lt.2 hF, Nat.not_lt.2 hL, false_or, Bool.true_eq_false]
    split
    · rw [Option.map_eq_none_iff, ringSlice_none_iff]
      exact exists_congr fun m => by rw [← and_assoc]; exact and_congr_left' (by omega)
    · rw [Option.map_eq_none_iff, ringSlice_none_iff]
      exact exists_congr fun m => by rw [← and_assoc]; exact and_congr_left' (by omega)
  · rename_i hk
    simp only [true_iff]
    by_cases hold : placeKnown r old = true
    · by_cases hnew : placeKnown r new = true
      · simp only [hold, hnew, and_true] at hk
        omega
      · simp [hnew]
    · simp [hold]

theorem behindMark_ne_iff (r : Ring) (old new : Cursor) (m : Nat) (hold : placeKnown r old = true)
    (hnew : placeKnown r new = true) :
    behindMark r new m ≠ behindMark r old m ↔ (m < frontier r new ↔ ¬ m < frontier r old) := by
  rw [behindMark_of_placeKnown r old m hold, behindMark_of_placeKnown r new m hnew]
  by_cases h1 : m < frontier r new <;> by_cases h2 : m < frontier r old <;> simp [h1, h2]

/-- Weighted by what lies behind a cursor, the displacements sum up to its frontier. -/
theorem sum_behindMark (role : Option Role) (r : Ring) (c : Cursor) (n : Nat) (h : placeKnown r c = true) :
    ((List.range n).map fun m => behindMark r c m * moveAt role r m).sum = moveBelow role r (min n (frontier r c)) := by
  induction n with
  | zero => simp [moveBelow]
  | succ n ih =>
    rw [List.range_succ, List.map_append, List.sum_append, ih]
    by_cases hn : n < frontier r c
    · rw [Nat.min_eq_left (by omega), Nat.min_eq_left (by omega), moveBelow_succ]
      simp [behindMark_of_placeKnown r c _ h, hn]
    · rw [Nat.min_eq_right (by omega), Nat.min_eq_right (by omega)]
      simp [behindMark_of_placeKnown r c _ h, hn]

/-- Settles O31: what lies behind a cursor whose place is known is what is numbered below its frontier. -/
theorem commandedPositionFollowsCursor : Obligations.CommandedPositionFollowsCursor := by
  intro role r old new
  refine ⟨fun d hd => ?_, ?_⟩
  · obtain ⟨hold, hnew, rfl⟩ := pcChange_some role r old new d hd
    change _ = ((List.range (max old.n new.n + 1)).map fun m =>
      (behindMark r new m - behindMark r old m) * moveAt role r m).sum
    have hle := frontier_le r old
    have hle' := frontier_le r new
    have hsub : ∀ f g : Nat → Int, ∀ ns : List Nat, (ns.map fun m => f m - g m).sum = (ns.map f).sum - (ns.map g).sum :=
      fun f g ns => by simpa using Multiset.sum_map_sub (m := (ns : Multiset Nat)) (f := f) (g := g)
    simp only [Int.sub_mul]
    rw [hsub, sum_behindMark role r new _ hnew, sum_behindMark role r old _ hold, Nat.min_eq_right (by omega),
      Nat.min_eq_right (by omega)]
  · change _ ↔ new.n < r.F ∨ ringL r < new.n ∨ (old.step = .stroke ∧ ringGet r old.n = none) ∨
      (new.step = .stroke ∧ ringGet r new.n = none) ∨ ∃ m, behindMark r new m ≠ behindMark r old m ∧ ringGet r m = none
    rw [pcChange_none_iff, ← placeKnown_eq_false_iff, ← placeKnown_eq_false_iff]
    by_cases hold : placeKnown r old = true
    · by_cases hnew : placeKnown r new = true
      · simp only [behindMark_ne_iff r old new _ hold hnew]
      · simp [hnew]
    · simp [hold]

end Sys2Proof.Machine

namespace Sys2Proof.Machine

/-! ### Invalid records and segments (R3, R62) -/

theorem kindOf_none_iff (b : Byte) : kindOf b = none ↔ b = 0 ∨ 7 ≤ b.toNat := by
  unfold kindOf
  (repeat' split) <;> simp only [reduceCtorEq, false_iff, true_iff] <;> bv_omega

theorem kindOf_color_iff (b : Byte) : kindOf b = some .color ↔ b = 4 := by
  unfold kindOf
  (repeat' split) <;> simp_all

theorem kindOf_end_iff (b : Byte) : kindOf b = some .designEnd ↔ b = 6 := by
  unfold kindOf
  (repeat' split) <;> simp_all

/-- R62: the two reasons, in terms of the record's kind. -/
theorem recordInvalid_iff (n : Nat) (r : Rec) :
    (recordInvalid n r = some .badRecord ↔ recKind r = none ∨ (recKind r = some .color ∧ 32 ≤ r.o1.toNat)) ∧
    (recordInvalid n r = some .range ↔ n = Config.maxRecord ∧ recKind r ≠ none ∧ recKind r ≠ some .designEnd ∧
      ¬ (recKind r = some .color ∧ 32 ≤ r.o1.toNat)) := by
  unfold recordInvalid
  cases recKind r with
  | none => simp
  | some k =>
    by_cases hc : k = .color ∧ 32 ≤ r.o1.toNat
    · simp [hc]
    · by_cases hn : n = Config.maxRecord ∧ k ≠ .designEnd
      · simp [hc, hn]
      · simp [hc, hn]

theorem recordInvalid_table (n : Nat) (r : Rec) :
    (recordInvalid n r = some .badRecord ↔ r.kind = 0 ∨ 7 ≤ r.kind.toNat ∨ (r.kind = 4 ∧ 32 ≤ r.o1.toNat)) ∧
    (recordInvalid n r = some .range ↔ n = 16777215 ∧ 1 ≤ r.kind.toNat ∧ r.kind.toNat ≤ 5 ∧ (r.kind = 4 → r.o1.toNat ≤ 31)) := by
  obtain ⟨hbad, hrange⟩ := recordInvalid_iff n r
  rw [hbad, hrange]
  simp only [recKind, ne_eq, kindOf_none_iff, kindOf_color_iff, kindOf_end_iff, Config.maxRecord]
  constructor
  · exact or_assoc
  · have h0 : r.kind = 0 ↔ r.kind.toNat = 0 := by bv_omega
    have h6 : r.kind = 6 ↔ r.kind.toNat = 6 := by bv_omega
    refine and_congr_right fun _ => ?_
    by_cases h4 : r.kind = 4
    · simp [h4, Nat.lt_succ_iff]
    · simp only [h0, h6, h4, false_and, false_imp_iff, not_false_iff, and_true]
      omega

/-- R62: the reason of a run is that of its first invalid record. -/
theorem recordsInvalid_some_iff (n : Nat) (rs : List Rec) (reason : LockReason) :
    recordsInvalid n rs = some reason ↔ ∃ i r, rs[i]? = some r ∧ recordInvalid (n + i) r = some reason ∧
      ∀ j q, j < i → rs[j]? = some q → recordInvalid (n + j) q = none := by
  induction rs generalizing n with
  | nil => simp [recordsInvalid]
  | cons x xs ih =>
    unfold recordsInvalid
    cases hx : recordInvalid n x with
    | some reason' =>
      constructor
      · intro h
        obtain rfl := Option.some.inj h
        exact ⟨0, x, rfl, hx, fun j q hj => absurd hj (Nat.not_lt_zero _)⟩
      · rintro ⟨i, r, hr, hinv, hfirst⟩
        cases i with
        | zero =>
          obtain rfl := Option.some.inj hr
          exact hx.symm.trans hinv
        | succ i =>
          have := hfirst 0 x (Nat.succ_pos _) rfl
          simp [hx] at this
    | none =>
      have hshift : ∀ i, n + 1 + i = n + (i + 1) := fun i => by omega
      simp only [ih, hshift]
      constructor
      · rintro ⟨i, r, hr, hinv, hfirst⟩
        refine ⟨i + 1, r, by simpa using hr, hinv, fun j q hj hq => ?_⟩
        cases j with
        | zero =>
          obtain rfl := Option.some.inj hq
          exact hx
        | succ j => exact hfirst j q (by omega) (by simpa using hq)
      · rintro ⟨i, r, hr, hinv, hfirst⟩
        cases i with
        | zero =>
          obtain rfl := Option.some.inj hr
          simp [hx] at hinv
        | succ i => exact ⟨i, r, by simpa using hr, hinv, fun j q hj hq => hfirst (j + 1) q (by omega) (by simpa using hq)⟩

/-! ### The loader's judgement of a segment (R60 to R63) -/

theorem bandOf_expected_iff (pw nw : Nat) (v n : Byte) : bandOf pw nw v n = .expected ↔ n = v := by
  have hz : (n - v).toNat = 0 ↔ n = v := by bv_omega
  unfold bandOf
  dsimp only
  simp only [hz]
  (repeat' split) <;> simp_all

/-- R60, R63: a segment that the loader does not take. -/
theorem judgeDesign_ignored (body : List Byte) (s : State)
    (h : s.pcu.run = .cut ∨ parseSegment body = none ∨ s.dld.state = .lockout) : judgeDesign body s = s := by
  unfold judgeDesign
  split
  · rfl
  · rename_i hrun
    cases hp : parseSegment body with
    | none => rfl
    | some seg => simp_all [judgeSegment]

theorem judgeDesign_of_parse (body : List Byte) (seg : Segment) (s : State) (hrun : s.pcu.run ≠ .cut)
    (hp : parseSegment body = some seg) : judgeDesign body s = judgeSegment seg s := by
  simp [judgeDesign, hrun, hp]

theorem execDesignSegment_eq (src : Station) (body : List Byte) (s : State) (h : hearsFrames s) :
    exec (.designSegment src body) s = .next (judgeDesign body (frameTaken src s)) :=
  onFrame_heard _ _ _ h

/-- R63: why a segment of the current design locks the loader out, if it does. -/
def lockoutOf (seg : Segment) (s : State) : Option LockReason :=
  if bandOf s.params.pw s.params.nw s.dld.v seg.number = .outside then some LockReason.window
  else if seg.number ≠ s.dld.v then none
  else if seg.r0 ≠ ringL s.drg then some .gap else segmentInvalid seg.r0 seg.records

theorem judgeSegment_lockout (seg : Segment) (s : State) (reason : LockReason) (hid : seg.designId = s.dld.designId)
    (hl : s.dld.state ≠ .lockout) (h : lockoutOf seg s = some reason) :
    judgeSegment seg s = enterLockout reason seg.number s := by
  unfold judgeSegment
  rw [if_neg (by simp [hid, hl])]
  unfold lockoutOf at h
  have hexp := bandOf_expected_iff s.params.pw s.params.nw s.dld.v seg.number
  split
  · rename_i hb
    rw [if_neg (by simp [hb]), if_neg (by simpa using hexp.1 hb)] at h
    split at h
    · obtain rfl := Option.some.inj h
      rw [if_pos ‹_›]
    · rw [if_neg ‹_›, h]
  · rename_i hb
    have hne : seg.number ≠ s.dld.v := fun hv => by simp [hexp.2 hv] at hb
    simp [hb, hne] at h
  · rename_i hb
    have hne : seg.number ≠ s.dld.v := fun hv => by simp [hexp.2 hv] at hb
    simp [hb, hne] at h
  · rename_i hb
    rw [if_pos hb] at h
    obtain rfl := Option.some.inj h
    rfl

/-- R63, R65: the other segments that change nothing. -/
theorem judgeSegment_discarded (seg : Segment) (s : State)
    (h : seg.designId ≠ s.dld.designId ∨ bandOf s.params.pw s.params.nw s.dld.v seg.number = .negative ∨
      (bandOf s.params.pw s.params.nw s.dld.v seg.number = .positive ∧ s.dld.state = .wait) ∨
      (seg.number = s.dld.v ∧ seg.r0 = ringL s.drg ∧ segmentInvalid seg.r0 seg.records = none ∧ s.dld.state = .wait)) :
    judgeSegment seg s = s := by
  unfold judgeSegment
  rcases h with hid | hb | ⟨hb, hw⟩ | ⟨hv, hr0, hval, hw⟩
  · simp [hid]
  · simp [hb]
  · simp [hb, hw]
  · rw [(bandOf_expected_iff _ _ _ _).2 hv]
    simp [hr0 ▸ hval, hr0, hw]

theorem judgeSegment_early (seg : Segment) (s : State) (hid : seg.designId = s.dld.designId)
    (hb : bandOf s.params.pw s.params.nw s.dld.v seg.number = .positive) (ho : s.dld.state = .opened) :
    judgeSegment seg s = { s with dld := { s.dld with resend := true } } := by
  simp [judgeSegment, hid, hb, ho]

theorem faultRec_enterLockout_self (reason : LockReason) (n : Byte) (s : State) :
    raisedIn .loadLockout (lockCode reason) n s (enterLockout reason n s) := by
  exact faultRec_raise_self _ _ _ _

theorem faultRec_enterLockout_ne (reason : LockReason) (n : Byte) (s : State) (c : FaultCode) (h : c ≠ .loadLockout) :
    faultRec c (enterLockout reason n s) = faultRec c s := faultRec_raise_ne _ _ _ _ _ h

/-- Settles O35: the rows of R63 one by one, and R62 by induction over the records. -/
theorem segmentsDiscardedOrLockedOut : Obligations.SegmentsDiscardedOrLockedOut := by
  refine ⟨fun src body s hh h => ?_, fun src body seg s hh hp h => ?_, fun src body seg s hh hrun hp hid hb ho => ?_,
    fun src body seg s reason hh hrun hp hid hl h => ?_, fun n r => ?_, fun r0 rs => ?_⟩
  · rw [execDesignSegment_eq _ _ _ hh, judgeDesign_ignored _ _ (by simpa using h)]
  · rw [execDesignSegment_eq _ _ _ hh]
    by_cases hrun : s.pcu.run = .cut
    · rw [judgeDesign_ignored _ _ (.inl (by simpa using hrun))]
    · rw [judgeDesign_of_parse body seg _ (by simpa using hrun) hp, judgeSegment_discarded seg _ (by simpa using h)]
  · rw [execDesignSegment_eq _ _ _ hh, judgeDesign_of_parse body seg _ (by simpa using hrun) hp,
      judgeSegment_early seg _ (by simpa using hid) (by simpa using hb) (by simpa using ho)]
    simp
  · have hlock : lockoutOf seg (frameTaken src s) = some reason := by
      simpa only [lockoutOf, frameTaken_keeps] using h
    refine ⟨enterLockout reason seg.number (frameTaken src s), ?_, faultRec_enterLockout_self _ _ _,
      fun c hc => faultRec_enterLockout_ne _ _ _ _ hc, ?_, ?_, ?_⟩
    · rw [execDesignSegment_eq _ _ _ hh, judgeDesign_of_parse body seg _ (by simpa using hrun) hp,
        judgeSegment_lockout seg _ reason (by simpa using hid) (by simpa using hl) hlock]
    · simp [enterLockout]
    · simp [enterLockout]
    · ext1 <;> simp [enterLockout]
  · refine ⟨(recordInvalid_table n r).1, (recordInvalid_table n r).2, ?_⟩
    cases h : recordInvalid n r with
    | none => exact .inl rfl
    | some reason => rcases recordInvalid_reason h with rfl | rfl <;> simp
  · refine ⟨fun h => if_pos h, fun h => ?_⟩
    have heq : segmentInvalid r0 rs = recordsInvalid r0 rs := if_neg (Nat.not_lt.2 h)
    exact ⟨heq ▸ recordsInvalid_none_iff r0 rs, fun reason => heq ▸ recordsInvalid_some_iff r0 rs reason⟩

end Sys2Proof.Machine

namespace Sys2Proof.Machine

/-! ### The end of a window's work and the READY test, case by case (R24 to R27, R36) -/

/-- R36: where the starve timer stands after an event. -/
def starveAfter (s : State) : Timer :=
  if s.pcu.run ≠ .running ∨ (recAtN s).isSome = true then .stopped
  else if s.pcu.win = .preparing ∧ s.pcu.pendingStop = none ∧ s.pcu.starve = .stopped then
    .running (s.params.starveLimit * 100000)
  else s.pcu.starve

theorem starveWatch_eq (s : State) : starveWatch s = { s with pcu := { s.pcu with starve := starveAfter s } } := by
  unfold starveWatch starveAfter
  by_cases hrest : s.pcu.run ≠ .running ∨ (recAtN s).isSome = true
  · rw [if_pos hrest, if_pos hrest]
  · rw [if_neg hrest, if_neg hrest]
    have hrun : s.pcu.run = .running := by tauto
    have hrec : recAtN s = none := by simpa using fun h => hrest (.inr h)
    have hstarve : (starving s = true ∧ s.pcu.starve = .stopped) ↔
        (s.pcu.win = .preparing ∧ s.pcu.pendingStop = none ∧ s.pcu.starve = .stopped) := by
      simp [starving, hrun, hrec, and_assoc]
    by_cases hh : starving s = true ∧ s.pcu.starve = .stopped
    · rw [if_pos hh, if_pos (hstarve.1 hh)]
      rfl
    · rw [if_neg hh, if_neg (fun h => hh (hstarve.2 h))]

/-- A station that has left RUNNING, or has its record, does not starve. -/
theorem starveAfter_stopped (s : State) (h : s.pcu.run ≠ .running ∨ (recAtN s).isSome = true) : starveAfter s = .stopped :=
  if_pos h

/-- R25: the work of the open window has ended. -/
abbrev windowEnds (s : State) : Prop := s.pcu.win = .opened ∧ s.pcu.edge = .settled ∧ workInFlight s = false

theorem mayBecomeReady_eq_false_iff (s : State) :
    mayBecomeReady s = false ↔ s.pcu.win ≠ .preparing ∨ isMoving s.pcu.run = false ∨ s.pcu.pendingStop ≠ none ∨
      s.pcu.haltSeen = true ∨ agreementWaiting s = true ∨ s.pcu.edge ≠ .settled ∨ roleReady s = false := by
  rw [← Bool.not_eq_true, mayBecomeReady_iff]
  simp only [not_and_or, Bool.not_eq_true, Bool.not_eq_false, ne_eq]

/-- R25: where no work ends and no test for READY is due, the starve timer alone may move. -/
theorem settle_rest (s : State) (hw : ¬ windowEnds s) (hm : mayBecomeReady s = false) :
    settle s = { s with pcu := { s.pcu with starve := starveAfter s } } := by
  rw [settle, tryFinish, if_neg hw, tryReady, if_neg (by simp [hm]), starveWatch_eq]

/-- R25: the station once the work of its window has ended, with no stop pending. -/
def windowLeft (s : State) : State :=
  { s with pcu := { s.pcu with win := .preparing, openW := if s.pcu.win = .opened then none else s.pcu.openW } }

theorem windowLeft_of_preparing {s : State} (hw : s.pcu.win = .preparing) : windowLeft s = s := by
  rw [windowLeft, if_neg (by simp [hw]), ← hw]

theorem settle_windowLeft (s : State) (he : s.pcu.edge = .settled) (hp : s.pcu.pendingStop = none)
    (hw : s.pcu.win = .preparing ∨ (s.pcu.win = .opened ∧ workInFlight s = false)) : settle s = settle (windowLeft s) := by
  have hleft : tryFinish (windowLeft s) = windowLeft s := by simp [tryFinish, windowLeft]
  have hs : tryFinish s = windowLeft s := by
    rcases hw with hw | ⟨hw, hwork⟩
    · exact (congrArg tryFinish (windowLeft_of_preparing hw)).symm.trans hleft
    · simp [tryFinish, windowLeft, hw, he, hwork, hp]
  rw [settle, settle, hleft, hs]

theorem enterStopped_starve (reason : StopReason) (s : State) :
    starveWatch (enterStopped reason s) = enterStopped reason s := by
  rw [starveWatch_eq, starveAfter_stopped _ (.inl (by simp [enterStopped_pcu]))]
  ext1
  case pcu => simp [enterStopped_pcu]
  all_goals rfl

/-- R22, R25: with a stop pending the station stops where its window's work ends. -/
theorem settle_stopped (s : State) (hw : windowEnds s) (r : StopReason) (hp : s.pcu.pendingStop = some r) :
    settle s = enterStopped .halted s := by
  have hm : mayBecomeReady (enterStopped .halted s) = false := by
    simp [mayBecomeReady, enterStopped_pcu, isMoving]
  rw [settle, tryFinish, if_pos hw, if_pos (by simp [hp]), tryReady, if_neg (by simp [hm]), enterStopped_starve]

section
variable {s : State} (hm : mayBecomeReady s = true)
include hm

theorem tryFinish_of_may : tryFinish s = s := by
  obtain ⟨hwin, -⟩ := (mayBecomeReady_iff s).1 hm
  simp [tryFinish, hwin]

/-- R26: what the READY test leaves where its conditions hold. -/
theorem settle_of_may : settle s = starveWatch (tryReady s) := by rw [settle, tryFinish_of_may hm]

/-- R24, R26: READY for this window, in RUNNING with the record at hand. -/
theorem settle_ready_running (w : WindowRec) (hr : tryReady s = becomeReady w s)
    (h : s.pcu.run ≠ .running ∨ (recAtN s).isSome = true) :
    settle s = { s with pcu := { s.pcu with
      win := .ready, next := some w, pace := false, stall := .running (s.params.stallTime * 100000), starve := .stopped } } := by
  rw [settle_of_may hm, hr, starveWatch_eq, starveAfter_stopped _ (by exact h)]
  rfl

theorem settle_prepare (r : Rec) (hrun : s.pcu.run = .running) (hp : s.pcu.preparePending = true)
    (hr : recAtN s = some r) :
    settle s = { s with pcu := { s.pcu with
      win := .ready, next := some ⟨.prepare, r⟩, pace := false, stall := .running (s.params.stallTime * 100000),
      starve := .stopped } } :=
  settle_ready_running hm _ (by simp [tryReady, hm, hrun, hp, hr]) (.inr (by simp [hr]))

theorem settle_window (r : Rec) (k : Window) (hrun : s.pcu.run = .running) (hp : s.pcu.preparePending = false)
    (hr : recAtN s = some r) (hk : windowFor r s.pcu.cursor = some k) :
    settle s = { s with pcu := { s.pcu with
      win := .ready, next := some ⟨k, r⟩, pace := false, stall := .running (s.params.stallTime * 100000),
      starve := .stopped } } :=
  settle_ready_running hm _ (by simp [tryReady, hm, hrun, hp, hr, hk]) (.inr (by simp [hr]))

/-- R27: the programmed stop. -/
theorem settle_stop (r : Rec) (hrun : s.pcu.run = .running) (hp : s.pcu.preparePending = false)
    (hr : recAtN s = some r) (hk : recKind r = some .stop) :
    settle s = enterStopped .programmedStop (setCursor ⟨s.pcu.cursor.n + 1, .first⟩ s) := by
  rw [settle_of_may hm, tryReady, if_pos hm, if_pos hrun]
  simp [hr, hp, windowFor, hk, programmedStop, enterStopped_starve, Cursor.at]

/-- R27: the design end. -/
theorem settle_end (r : Rec) (hrun : s.pcu.run = .running) (hp : s.pcu.preparePending = false)
    (hr : recAtN s = some r) (hk : recKind r = some .designEnd) : settle s = enterStopped .designEnd s := by
  rw [settle_of_may hm, tryReady, if_pos hm, if_pos hrun]
  simp [hr, hp, windowFor, hk, programmedStop, enterStopped_starve]

/-- R36: the record at N is absent: the station starves. -/
theorem settle_absent (hrun : s.pcu.run = .running) (hr : recAtN s = none) :
    settle s = { s with pcu := { s.pcu with
      starve := if s.pcu.starve = .stopped then .running (s.params.starveLimit * 100000) else s.pcu.starve } } := by
  obtain ⟨hwin, -, hpend, -⟩ := (mayBecomeReady_iff s).1 hm
  rw [settle_of_may hm, tryReady, if_pos hm, if_pos hrun, hr, starveWatch_eq]
  simp [starveAfter, hrun, hr, hwin, hpend]

/-- R150, R151: the window that a traversal may become READY for. -/
theorem settle_traversal (hrun : s.pcu.run ≠ .running) :
    settle s = { s with pcu := Option.elim (traversalWindow s) { s.pcu with starve := .stopped } fun w =>
      { s.pcu with
        win := .ready, next := some w, pace := false, stall := .running (s.params.stallTime * 100000),
        starve := .stopped } } := by
  cases hw : traversalWindow s with
  | none =>
    rw [settle_of_may hm, tryReady, if_pos hm, if_neg hrun, hw, starveWatch_eq, starveAfter_stopped _ (.inl hrun)]
    rfl
  | some w => exact settle_ready_running hm w (by simp [tryReady, hm, hrun, hw]) (.inl hrun)

end

/-! ### The windows of records and of a traversal (R24, R150, R151) -/

theorem windowFor_eq (r : Rec) (c : Cursor) :
    windowFor r c =
      if r.kind = 1 then (if c.step = .first then some (Window.move c.n) else some (.stroke c.n))
      else if r.kind = 2 then some (.move c.n)
      else if r.kind = 3 then some (.trim c.n)
      else if r.kind = 4 then some (.change c.n) else none := by
  unfold windowFor recKind kindOf
  by_cases h1 : r.kind = 1
  · simp [h1]
  by_cases h2 : r.kind = 2
  · simp [h2]
  by_cases h3 : r.kind = 3
  · simp [h3]
  by_cases h4 : r.kind = 4
  · simp [h4]
  rw [if_neg h1, if_neg h2, if_neg h3, if_neg h4, if_neg h1, if_neg h2, if_neg h3, if_neg h4]
  by_cases h5 : r.kind = 5
  · rw [if_pos h5]
  by_cases h6 : r.kind = 6
  · rw [if_neg h5, if_pos h6]
  rw [if_neg h5, if_neg h6]

theorem recKind_stop {r : Rec} (h : r.kind = 5) : recKind r = some .stop := by simp [recKind, kindOf, h]

theorem recKind_end {r : Rec} (h : r.kind = 6) : recKind r = some .designEnd := by simp [recKind, kindOf, h]

theorem traversalWindow_eq (s : State) (tv : Traversal) (h : s.pcu.traversal = some tv) :
    traversalWindow s =
      if tv.target.isSome = true ∧ tv.target ≠ some s.pcu.cursor ∧ (isAxis s = false ∨ s.axu.originValid = true) then
        if tv.dir = .back then (nextBack s.drg s.pcu.cursor).map fun m => ⟨.retreat (m.1 + 1), m.2⟩
        else (nextForward s.drg s.pcu.cursor).map fun m => ⟨.advance m.1, m.2⟩
      else none := by
  have horigin : originGiven s = true ↔ isAxis s = false ∨ s.axu.originValid = true := by simp [originGiven]
  have hdone : traversalDone s = true ↔ tv.target = some s.pcu.cursor := by simp [traversalDone_eq, h]
  unfold traversalWindow
  simp only [h, Bool.and_eq_true, Bool.not_eq_true', ← Bool.not_eq_true, hdone, horigin, and_assoc]
  split
  · cases tv.dir <;> rfl
  · rfl

end Sys2Proof.Machine

namespace Sys2Proof.Machine

/-! ### The ends of the guard and of the minimum assertion (R22 to R27) -/

/-- R23: the station once the minimum assertion has passed. -/
def settledEdge (s : State) : State := { s with pcu := { s.pcu with edge := .settled } }

theorem exec_minAssertionEnd (s : State) (hi : inService s = true) (he : s.pcu.edge = .minAssertion) :
    exec .minAssertionEnd s = .next (settle (settledEdge s)) := by
  simp [exec, execMinAssertionEnd, onService_on _ _ hi, he, settledEdge]

/-- R26: the conditions of READY, once a window's work has ended and the minimum assertion has passed. -/
theorem mayBecomeReady_windowLeft (s : State) (hp : s.pcu.pendingStop = none) (hh : s.pcu.haltSeen = false)
    (ha : agreementWaiting s = false) (hr : roleReady s = true) (hm : isMoving s.pcu.run = true) :
    mayBecomeReady (windowLeft (settledEdge s)) = true :=
  (mayBecomeReady_iff _).2 ⟨rfl, hm, hp, hh, ha, rfl, hr⟩

/-- R25, R26: what the end of the minimum assertion comes to where the READY test is due. -/
theorem exec_minAssertionEnd_tests (s : State) (hi : inService s = true) (he : s.pcu.edge = .minAssertion)
    (hw : s.pcu.win = .preparing ∨ (s.pcu.win = .opened ∧ workInFlight s = false)) (hp : s.pcu.pendingStop = none) :
    exec .minAssertionEnd s = .next (settle (windowLeft (settledEdge s))) := by
  rw [exec_minAssertionEnd s hi he, settle_windowLeft (settledEdge s) rfl hp hw]

/-- R35: what a stop leaves of a station with the number, peers and line of `s`. -/
theorem enterStopped_over (reason : StopReason) {s w : State} (hn : w.number = s.number) (hp : w.ptb = s.ptb)
    (hl : w.liu = s.liu) :
    (enterStopped reason w).pcu = { w.pcu with
      run := .stopped, win := .preparing, openW := none, next := none, preparePending := false, pendingStop := none
      stopReason := w.pcu.pendingStop.getD reason, starve := .stopped, stall := .stopped, haltWait := .stopped, pace := true
      armed := true, traversal := none, joinAgreement := false
      haltPulse :=
        if w.pcu.traversal.map Traversal.target = some (some w.pcu.cursor) then .running 50 else w.pcu.haltPulse
      agreement := if (pacingPeers s).isEmpty then .stopped else .running 100000 } ∧
    (∀ i : Station, (enterStopped reason w).ptb.peers[i] = { s.ptb.peers[i] with qualified := false }) ∧
    (enterStopped reason w).ptb.joined = s.ptb.joined ∧
    (enterStopped reason w).liu = (if s.liu.tx.any (fun t => t.slot == .beacon) then
      { s.liu with tx := s.liu.tx.map fun t => { t with again := true } } else { s.liu with beaconDue := true }) := by
  refine ⟨?_, fun i => ?_, ?_, ?_⟩
  · rw [enterStopped_pcu, pacingPeers_congr hn hp]
  · simp [enterStopped_ptb, hp]
  · simp [enterStopped_ptb, hp]
  · rw [enterStopped_liu, hl]

theorem guardEnd_opens (s : State) (hi : inService s = true) (he : s.pcu.edge = .inGuard) :
    exec .guardEnd s = .next { s with pcu := { s.pcu with edge := .minAssertion, pace := true, armed := true } } := by
  simp [exec, execGuardEnd, onService_on _ _ hi, he]

/-- Settles O41: the READY test case by case, over the window that the expiry leaves. -/
theorem windowEndsAndTheNextBegins : Obligations.WindowEndsAndTheNextBegins := by
  refine ⟨guardEnd_opens, fun s hi he => ?_, fun s hi he => ?_, fun s hi he h => ?_, fun s hi he hw hwork hp h => ?_,
    fun s r hi he hw hwork hp => ?_, fun r s hi he hw hp hh ha hr hrun hpp hrec => ?_,
    fun r k s hi he hw hp hh ha hr hrun hpp hrec hk => ?_, fun r s hi he hw hp hh ha hr hrun hpp hrec hk => ?_,
    fun r s hi he hw hp hh ha hr hrun hpp hrec hk => ?_, fun s hi he hw hp hh ha hr hrun hrec => ?_,
    fun tv s hi he hw hp hh ha hr hrun htv => ?_⟩
  · simp [exec, execGuardEnd, onService_on _ _ hi, he]
  · simp [exec, execMinAssertionEnd, onService_on _ _ hi, he]
  · have hends : ¬ windowEnds (settledEdge s) := by
      rintro ⟨hw, -, hwork⟩
      change s.pcu.win = .opened at hw
      change workInFlight s = false at hwork
      simp [hw, hwork] at h
    have hmay : mayBecomeReady (settledEdge s) = false := by
      refine (mayBecomeReady_eq_false_iff _).2 ?_
      rcases h with hw | ⟨hw, -⟩ | ⟨-, hm | hp | hh | ha | hr⟩
      · exact .inl (ne_of_eq_of_ne hw (by simp))
      · exact .inl (ne_of_eq_of_ne hw (by simp))
      · exact .inr (.inl hm)
      · exact .inr (.inr (.inl hp))
      · exact .inr (.inr (.inr (.inl hh)))
      · exact .inr (.inr (.inr (.inr (.inl ha))))
      · exact .inr (.inr (.inr (.inr (.inr (.inr hr)))))
    rw [exec_minAssertionEnd s hi he, settle_rest _ hends hmay]
    rfl
  · have hends : ¬ windowEnds (windowLeft (settledEdge s)) := fun ⟨hw, _⟩ => by cases hw
    have hmay : mayBecomeReady (windowLeft (settledEdge s)) = false := by
      refine (mayBecomeReady_eq_false_iff _).2 (.inr ?_)
      rcases h with hm | hp | hh | ha | hr
      · exact .inl hm
      · exact .inr (.inl hp)
      · exact .inr (.inr (.inl hh))
      · exact .inr (.inr (.inr (.inl ha)))
      · exact .inr (.inr (.inr (.inr (.inr hr))))
    rw [exec_minAssertionEnd_tests s hi he (.inr ⟨hw, hwork⟩) hp, settle_rest _ hends hmay]
    simp [windowLeft, settledEdge, starveAfter, hw, hp]
    rfl
  · rw [exec_minAssertionEnd s hi he, settle_stopped (settledEdge s) ⟨hw, rfl, hwork⟩ r hp]
    obtain ⟨hpcu, hpeers, hjoined, hliu⟩ := enterStopped_over .halted (w := settledEdge s) (s := s) rfl rfl rfl
    refine ⟨_, rfl, hpcu.trans ?_, hpeers, hjoined, hliu, ?_⟩
    · simp [settledEdge, hp]
    · rw [enterStopped_frame]
      rfl
  · have hm := mayBecomeReady_windowLeft s hp hh ha hr (by simp [hrun, isMoving])
    rw [exec_minAssertionEnd_tests s hi he hw hp, settle_prepare hm r hrun hpp hrec]
    rfl
  · have hm := mayBecomeReady_windowLeft s hp hh ha hr (by simp [hrun, isMoving])
    rw [exec_minAssertionEnd_tests s hi he hw hp, settle_window hm r k hrun hpp hrec ((windowFor_eq _ _).trans hk)]
    rfl
  · have hm := mayBecomeReady_windowLeft s hp hh ha hr (by simp [hrun, isMoving])
    rw [exec_minAssertionEnd_tests s hi he hw hp, settle_stop hm r hrun hpp hrec (recKind_stop hk)]
    obtain ⟨hpcu, hpeers, hjoined, hliu⟩ := enterStopped_over .programmedStop (s := s)
      (w := setCursor ⟨s.pcu.cursor.n + 1, .first⟩ (windowLeft (settledEdge s))) (by simp [windowLeft, settledEdge])
      (by simp [windowLeft, settledEdge]) (by simp [windowLeft, settledEdge])
    obtain ⟨hdrg, hdld⟩ := setCursor_congr ⟨s.pcu.cursor.n + 1, .first⟩ (u := windowLeft (settledEdge s)) (s := s)
      rfl rfl rfl rfl
    refine ⟨_, rfl, hpcu.trans ?_, hpeers, hjoined, hliu, ?_⟩
    · simp [setCursor_pcu, windowLeft, settledEdge, hp]
    · rw [enterStopped_frame, ← hdrg, ← hdld]
      ext1 <;> simp [windowLeft, settledEdge]
  · have hm := mayBecomeReady_windowLeft s hp hh ha hr (by simp [hrun, isMoving])
    rw [exec_minAssertionEnd_tests s hi he hw hp, settle_end hm r hrun hpp hrec (recKind_end hk)]
    obtain ⟨hpcu, hpeers, hjoined, hliu⟩ := enterStopped_over .designEnd (w := windowLeft (settledEdge s)) (s := s)
      rfl rfl rfl
    refine ⟨_, rfl, hpcu.trans ?_, hpeers, hjoined, hliu, ?_⟩
    · simp [windowLeft, settledEdge, hp]
    · rw [enterStopped_frame]
      rfl
  · have hm := mayBecomeReady_windowLeft s hp hh ha hr (by simp [hrun, isMoving])
    rw [exec_minAssertionEnd_tests s hi he hw hp, settle_absent hm hrun hrec]
    rfl
  · have hm := mayBecomeReady_windowLeft s hp hh ha hr (by rcases hrun with h | h <;> simp [h, isMoving])
    have hne : s.pcu.run ≠ .running := by rcases hrun with h | h <;> simp [h]
    rw [exec_minAssertionEnd_tests s hi he hw hp, settle_traversal hm hne, traversalWindow_eq (windowLeft (settledEdge s)) tv htv]
    refine ⟨_, rfl, rfl, rfl⟩

end Sys2Proof.Machine

namespace Sys2Proof.Machine

/-! ### A segment joins the ring (R7, R8, R64) -/

theorem ringGet_appendRecs (rs : List Rec) (r : Ring) (m : Nat) :
    ringGet (appendRecs rs r) m = if m < ringL r then ringGet r m else rs[m - ringL r]? := by
  unfold ringGet appendRecs ringL
  dsimp only
  by_cases hF : r.F ≤ m
  · rw [if_pos hF, if_pos hF]
    split
    · exact List.getElem?_append_left (by omega)
    · rw [List.getElem?_append_right (by omega)]
      congr 1
      omega
  · rw [if_neg hF, if_neg hF, if_pos (by omega)]

theorem colorInForce_appendRecs (rs : List Rec) (r : Ring) (m : Nat) (hm : m ≤ ringL r) :
    colorInForce (appendRecs rs r) m = colorInForce r m := by
  have hnew : (colorEntries (ringL r) rs).filter (fun e => decide (e.1 < m)) = [] :=
    List.filter_eq_nil_iff.2 fun e he => by
      have := colorEntries_ge _ _ e he
      simp
      omega
  simp [colorInForce, appendRecs, hnew]

/-- R7, R8: the ring after a segment has joined it and retention has been applied. -/
theorem appended_ring (seg : Segment) (s : State) :
    (appended seg s).drg.F = max s.drg.F (min (s.pcu.cursor.n - s.params.retain) (ringL s.drg + seg.records.length)) ∧
    ringL (appended seg s).drg = ringL s.drg + seg.records.length ∧
    (∀ m, ringGet (appended seg s).drg m = if m < (appended seg s).drg.F then none
      else if m < ringL s.drg then ringGet s.drg m else seg.records[m - ringL s.drg]?) := by
  have hdrg : (appended seg s).drg = retainAt s.pcu.cursor.n s.params.retain (appendRecs seg.records s.drg) := rfl
  have hF : (appendRecs seg.records s.drg).F = s.drg.F := rfl
  refine ⟨?_, ?_, fun m => ?_⟩
  · rw [hdrg, retainAt, raiseF_F, appendRecs_L, hF]
  · rw [hdrg, retainAt_L, appendRecs_L]
  · rw [hdrg, retainAt, ringGet_raiseF, raiseF_F, ringGet_appendRecs]

/-- R11, R12: a segment leaves the colours in force up to the old L. -/
theorem colorInForce_appended (seg : Segment) (s : State) (hf : ringForm (appendRecs seg.records s.drg)) (m : Nat)
    (hm : (appended seg s).drg.F ≤ m) (hL : m ≤ ringL s.drg) :
    colorInForce (appended seg s).drg m = colorInForce s.drg m := by
  obtain ⟨-, htrail, -⟩ := hf
  exact (colorInForce_raiseF _ m _ htrail hm).trans (colorInForce_appendRecs _ _ _ hL)

theorem appended_frame (seg : Segment) (s : State) :
    appended seg s = { s with drg := (appended seg s).drg, dld := { s.dld with v := s.dld.v + 1, resend := false } } := rfl

theorem appended_keeps (seg : Segment) (s : State) :
    (appended seg s).pending = s.pending ∧ (appended seg s).number = s.number ∧ (appended seg s).role = s.role ∧
    (appended seg s).selfTesting = s.selfTesting ∧ (appended seg s).resultCode = s.resultCode ∧
    (appended seg s).params = s.params ∧ (appended seg s).liu = s.liu ∧ (appended seg s).ord = s.ord ∧
    (appended seg s).ptb = s.ptb ∧ (appended seg s).pcu = s.pcu ∧ (appended seg s).axu = s.axu ∧
    (appended seg s).slu = s.slu ∧ (appended seg s).stu = s.stu ∧ (appended seg s).thm = s.thm ∧
    (appended seg s).flt = s.flt ∧ (appended seg s).free = s.free := by
  simp [appended]

/-! ### A valid expected segment (R60, R63, R64) -/

/-- R60 to R63: an open loader takes in the segment that it expects next, and it is valid. -/
structure TakesSegment (body : List Byte) (seg : Segment) (s : State) : Prop where
  heard : hearsFrames s
  run : s.pcu.run ≠ .cut
  parsed : parseSegment body = some seg
  design : seg.designId = s.dld.designId
  number : seg.number = s.dld.v
  first : seg.r0 = ringL s.drg
  valid : segmentInvalid seg.r0 seg.records = none
  opened : s.dld.state = .opened

theorem TakesSegment.exec_eq {src : Station} {body : List Byte} {seg : Segment} {s : State} (h : TakesSegment body seg s) :
    exec (.designSegment src body) s = .next (ringTest seg (frameTaken src s)) := by
  have hb := (bandOf_expected_iff s.params.pw s.params.nw s.dld.v seg.number).2 h.number
  rw [execDesignSegment_eq src body s h.heard, judgeDesign_of_parse body seg _ (by simpa using h.run) h.parsed]
  have hvalid := h.valid
  rw [h.first] at hvalid
  simp [judgeSegment, h.design, h.opened, hb, h.first, hvalid]

/-- R64: a segment that fits without pruning is appended. -/
theorem ringTest_fits (seg : Segment) (s : State) (ht : s.drg.trail.length + colorCount seg.records ≤ 64)
    (hr : seg.records.length ≤ ringRoom s.drg) : ringTest seg s = settle (appended seg s) := by
  have hprune : prune s.pcu.cursor.n (colorCount seg.records) s.drg = s.drg := if_pos ht
  have ht' : ¬ Config.trailPlaces < s.drg.trail.length + colorCount seg.records := Nat.not_lt.2 ht
  rw [ringTest, hprune]
  dsimp only
  rw [if_neg ht', if_neg (Nat.not_lt.2 hr)]
  rfl

/-- R26: the READY test's conditions rest on the pace unit and the role blocks. -/
theorem mayBecomeReady_congr {a b : State} (hp : a.pcu = b.pcu) (hr : a.role = b.role) (hst : a.stu = b.stu)
    (hsl : a.slu = b.slu) (hax : a.axu = b.axu) : mayBecomeReady a = mayBecomeReady b := by
  simp only [mayBecomeReady, agreementWaiting, roleReady, isHead, strokeInFlight, trimming, selectorBusy, hp, hr, hst, hsl, hax]
  rfl

theorem workInFlight_congr {a b : State} (hst : a.stu = b.stu) (hsl : a.slu = b.slu) (hax : a.axu = b.axu) :
    workInFlight a = workInFlight b := by
  simp only [workInFlight, strokeInFlight, trimming, selectorBusy, hst, hsl, hax]

section
variable (src : Station) (seg : Segment) (s : State)

/-- The station with the segment joined to its ring, before the READY test. -/
abbrev joined : State := appended seg (frameTaken src s)

theorem joined_pcu : (joined src seg s).pcu = s.pcu := by
  simp [appended_keeps]

theorem joined_ring :
    (joined src seg s).drg.F = max s.drg.F (min (s.pcu.cursor.n - s.params.retain) (ringL s.drg + seg.records.length)) ∧
    ringL (joined src seg s).drg = ringL s.drg + seg.records.length ∧
    (∀ m, ringGet (joined src seg s).drg m = if m < (joined src seg s).drg.F then none
      else if m < ringL s.drg then ringGet s.drg m else seg.records[m - ringL s.drg]?) := by
  have h := appended_ring seg (frameTaken src s)
  simpa only [frameTaken_keeps] using h

theorem joined_frame :
    joined src seg s =
      { frameTaken src s with drg := (joined src seg s).drg, dld := { s.dld with v := s.dld.v + 1, resend := false } } := by
  have h := appended_frame seg (frameTaken src s)
  simpa only [frameTaken_keeps] using h

theorem mayBecomeReady_joined : mayBecomeReady (joined src seg s) = mayBecomeReady s := by
  apply mayBecomeReady_congr <;> simp [appended_keeps]

end

end Sys2Proof.Machine

namespace Sys2Proof.Machine

/-! ### A segment that fits (R26, R27, R36, R64) -/

theorem frameTaken_tx (src : Station) (s : State) (h : hearsFrames s) : (frameTaken src s).liu.tx = none := by
  obtain ⟨-, hl⟩ := h
  have htx : s.liu.tx = none := by
    unfold listening at hl
    simp_all
  unfold frameTaken
  split <;> simp [setPeer, htx]

/-- R35: what a stop leaves of a station that has just taken in a frame. -/
theorem enterStopped_frameTaken (reason : StopReason) (src : Station) {s w : State} (h : hearsFrames s)
    (hn : w.number = s.number) (hp : w.ptb = (frameTaken src s).ptb) (hl : w.liu = (frameTaken src s).liu) :
    (enterStopped reason w).pcu = { w.pcu with
      run := .stopped, win := .preparing, openW := none, next := none, preparePending := false, pendingStop := none
      stopReason := w.pcu.pendingStop.getD reason, starve := .stopped, stall := .stopped, haltWait := .stopped, pace := true
      armed := true, traversal := none, joinAgreement := false
      haltPulse :=
        if w.pcu.traversal.map Traversal.target = some (some w.pcu.cursor) then .running 50 else w.pcu.haltPulse
      agreement := if (pacingPeers s).isEmpty then .stopped else .running 100000 } ∧
    (∀ i : Station, (enterStopped reason w).ptb.peers[i] = { (frameTaken src s).ptb.peers[i] with qualified := false }) ∧
    (enterStopped reason w).ptb.joined = s.ptb.joined ∧
    (enterStopped reason w).liu = { (frameTaken src s).liu with beaconDue := true } := by
  obtain ⟨hpcu, hpeers, hjoined, hliu⟩ := enterStopped_over reason (s := frameTaken src s) (by simpa using hn) hp hl
  refine ⟨?_, hpeers, hjoined.trans (frameTaken_joined src s), ?_⟩
  · rw [hpcu, pacingPeers_isEmpty_congr (b := s) (by simp) fun i => frameTaken_presence src i s]
  · rw [hliu, frameTaken_tx src s h]
    rfl

theorem recAtN_joined (src : Station) (seg : Segment) (s : State) (hL : ringL s.drg ≤ s.pcu.cursor.n) :
    recAtN (joined src seg s) = seg.records[s.pcu.cursor.n - ringL s.drg]? := by
  obtain ⟨hF, -, hget⟩ := joined_ring src seg s
  have hlow : s.drg.F ≤ ringL s.drg := Nat.le_add_right _ _
  rw [recAtN, joined_pcu, hget, if_neg (by omega), if_neg (by omega)]

theorem joined_form (src : Station) (seg : Segment) (s : State) (h : ringForm s.drg)
    (htrail : s.drg.trail.length + colorCount seg.records ≤ 64) (hroom : seg.records.length ≤ ringRoom s.drg)
    (hv : segmentInvalid (ringL s.drg) seg.records = none) :
    ringForm (joined src seg s).drg ∧
    ∀ m, (joined src seg s).drg.F ≤ m → m ≤ ringL s.drg → colorInForce (joined src seg s).drg m = colorInForce s.drg m := by
  have hdrg : (frameTaken src s).drg = s.drg := by simp
  refine ⟨appended_form seg _ (by rwa [hdrg]) (by rwa [hdrg]) (by rwa [hdrg]) (by rwa [hdrg]), fun m hm hL => ?_⟩
  rw [← hdrg] at h htrail hroom hv hL ⊢
  exact colorInForce_appended seg _ (appendRecs_form _ _ h hroom htrail hv) m hm hL

theorem settle_joined_rest (src : Station) (seg : Segment) (s : State) (hm : mayBecomeReady s = false)
    (hw : s.pcu.win = .opened → s.pcu.edge ≠ .settled ∨ workInFlight s = true) :
    settle (joined src seg s) =
      { joined src seg s with pcu := { (joined src seg s).pcu with starve := starveAfter (joined src seg s) } } := by
  refine settle_rest _ ?_ ((mayBecomeReady_joined src seg s).trans hm)
  rintro ⟨hwin, hedge, hwork⟩
  rw [joined_pcu] at hwin hedge
  have hwork' : workInFlight (joined src seg s) = workInFlight s := by
    apply workInFlight_congr <;> simp [appended_keeps]
  rw [hwork'] at hwork
  rcases hw hwin with h | h
  · exact h hedge
  · simp [hwork] at h

theorem joined_params (src : Station) (seg : Segment) (s : State) : (joined src seg s).params = s.params := by
  simp [appended_keeps]

theorem joined_dld (src : Station) (seg : Segment) (s : State) :
    (joined src seg s).dld = { s.dld with v := s.dld.v + 1, resend := false } := by
  rw [joined_frame]

theorem enterStopped_drg (reason : StopReason) (s : State) : (enterStopped reason s).drg = s.drg := by simp

theorem starveAfter_joined (src : Station) (seg : Segment) (s : State) :
    starveAfter (joined src seg s) =
      if s.pcu.run ≠ .running ∨ (ringGet (joined src seg s).drg s.pcu.cursor.n).isSome = true then .stopped
      else if s.pcu.win = .preparing ∧ s.pcu.pendingStop = none ∧ s.pcu.starve = .stopped then
        .running (s.params.starveLimit * 100000)
      else s.pcu.starve := by
  simp only [starveAfter, recAtN, joined_pcu, joined_params]

/-- What a READY test that moves the pace unit alone leaves of a station that a segment has joined. -/
theorem joined_withPcu (src : Station) (seg : Segment) (s : State) (p : PaceUnit) :
    ({ joined src seg s with pcu := p } : State) = { frameTaken src s with
      drg := (joined src seg s).drg, dld := { s.dld with v := s.dld.v + 1, resend := false }, pcu := p } := by
  rw [joined_frame]

theorem joined_ready (src : Station) (seg : Segment) (s : State) (hwin : s.pcu.win = .preparing)
    (hpend : s.pcu.pendingStop = none) (ha : agreementWaiting s = false) (he : s.pcu.edge = .settled)
    (hr : roleReady s = true) (hh : s.pcu.haltSeen = false) (hm : isMoving s.pcu.run = true) :
    mayBecomeReady (joined src seg s) = true := by
  rw [mayBecomeReady_joined, mayBecomeReady_iff]
  exact ⟨hwin, hm, hpend, hh, ha, he, hr⟩

/-- R64: a segment that fits joins the ring, and the READY test follows. -/
theorem TakesSegment.exec_fits {src : Station} {body : List Byte} {seg : Segment} {s : State} (h : TakesSegment body seg s)
    (ht : s.drg.trail.length + colorCount seg.records ≤ 64) (hr : seg.records.length ≤ ringRoom s.drg) :
    exec (.designSegment src body) s = .next (settle (joined src seg s)) := by
  rw [h.exec_eq, ringTest_fits seg _ (by simpa using ht) (by simpa using hr)]

/-- R27, R64: the ring and the loader where the segment ends a starve at STOP. -/
theorem setCursor_joined (src : Station) (seg : Segment) (s : State) (ho : s.dld.state = .opened) :
    let u := setCursor ⟨s.pcu.cursor.n + 1, .first⟩ (joined src seg s)
    u.drg.F = max s.drg.F (min ((s.pcu.cursor.n + 1) - s.params.retain) (ringL s.drg + seg.records.length)) ∧
    ringL u.drg = ringL s.drg + seg.records.length ∧
    (∀ m, ringGet u.drg m = if m < u.drg.F then none else if m < ringL s.drg then ringGet s.drg m
      else seg.records[m - ringL s.drg]?) ∧
    u.dld = { s.dld with v := s.dld.v + 1, resend := false } := by
  obtain ⟨hF, hL, hget⟩ := joined_ring src seg s
  have hdld := joined_dld src seg s
  have hps := joined_params src seg s
  have hcur : setCursor ⟨s.pcu.cursor.n + 1, .first⟩ (joined src seg s) =
      followCursor (writeCursor ⟨s.pcu.cursor.n + 1, .first⟩ (joined src seg s)) := by
    rw [setCursor, if_neg (by simp [joined_pcu])]
  have hF' := followCursor_F (writeCursor ⟨s.pcu.cursor.n + 1, .first⟩ (joined src seg s))
  have hget' := ringGet_followCursor (writeCursor ⟨s.pcu.cursor.n + 1, .first⟩ (joined src seg s))
  have hdld' := followCursor_dld (writeCursor ⟨s.pcu.cursor.n + 1, .first⟩ (joined src seg s))
  simp only [writeCursor_keeps, writeCursor_cursor, hdld, ho, hps, hL, hF, reduceCtorEq, false_and, if_false] at hF' hdld'
  intro u
  have hFu : u.drg.F = _ := (congrArg (fun v : State => v.drg.F) hcur).trans hF'
  refine ⟨by omega, by simp [u, hcur, hL], fun m => ?_, ?_⟩
  · have hget'' : ringGet u.drg m = if m < u.drg.F then none else ringGet (joined src seg s).drg m := by
      simpa only [u, hcur, writeCursor_keeps] using hget' m
    rw [hget'', hget]
    split
    · rfl
    · rw [if_neg (by omega)]
  · exact (congrArg State.dld hcur).trans (hdld'.trans (by rw [← ho]))

/-- Settles O34: the READY test case by case, over the ring that the segment has joined. -/
theorem segmentsAreAppended : Obligations.SegmentsAreAppended := by
  refine ⟨fun src body seg s hh hcut hp hid hnum hr0 hval ho ht hroom h hw hform => ?_,
    fun src body seg s r hh hcut hp hid hnum hr0 hval ho ht hroom hwin hpend ha he hr hhalt hrun hpp hL hrec => ?_,
    fun src body seg s r k hh hcut hp hid hnum hr0 hval ho ht hroom hwin hpend ha he hr hhalt hrun hpp hL hrec hk => ?_,
    fun src body seg s r hh hcut hp hid hnum hr0 hval ho ht hroom hwin hpend ha he hr hhalt hrun hpp hL hrec hk => ?_,
    fun src body seg s r hh hcut hp hid hnum hr0 hval ho ht hroom hwin hpend ha he hr hhalt hrun hpp hL hrec hk => ?_,
    fun src body seg s hh hcut hp hid hnum hr0 hval ho ht hroom hwin hpend ha he hr hhalt hrun hL => ?_,
    fun src body seg s tv hh hcut hp hid hnum hr0 hval ho ht hroom hwin hpend ha he hr hhalt hrun htv => ?_⟩
  · rw [TakesSegment.exec_fits ⟨hh, hcut, hp, hid, hnum, hr0, hval, ho⟩ ht hroom]
    obtain ⟨hF, hlen, hget⟩ := joined_ring src seg s
    obtain ⟨hform', hcol⟩ := joined_form src seg s hform ht hroom (hr0 ▸ hval)
    rw [settle_joined_rest src seg s ((mayBecomeReady_eq_false_iff s).2 h) hw]
    refine ⟨_, rfl, hF, hlen, hget, hform', hcol, ?_⟩
    rw [joined_withPcu, starveAfter_joined, joined_pcu]
  · rw [TakesSegment.exec_fits ⟨hh, hcut, hp, hid, hnum, hr0, hval, ho⟩ ht hroom]
    obtain ⟨hF, hlen, hget⟩ := joined_ring src seg s
    have hm := joined_ready src seg s hwin hpend ha he hr hhalt (by simp [hrun, isMoving])
    rw [settle_prepare hm r (by rwa [joined_pcu]) (by rwa [joined_pcu]) ((recAtN_joined src seg s hL).trans hrec)]
    exact ⟨_, rfl, hF, hlen, hget, by rw [joined_withPcu, joined_pcu, joined_params]⟩
  · rw [TakesSegment.exec_fits ⟨hh, hcut, hp, hid, hnum, hr0, hval, ho⟩ ht hroom]
    obtain ⟨hF, hlen, hget⟩ := joined_ring src seg s
    have hm := joined_ready src seg s hwin hpend ha he hr hhalt (by simp [hrun, isMoving])
    rw [settle_window hm r k (by rwa [joined_pcu]) (by rwa [joined_pcu]) ((recAtN_joined src seg s hL).trans hrec)
      (by rw [joined_pcu, windowFor_eq, hk])]
    exact ⟨_, rfl, hF, hlen, hget, by rw [joined_withPcu, joined_pcu, joined_params]⟩
  · rw [TakesSegment.exec_fits ⟨hh, hcut, hp, hid, hnum, hr0, hval, ho⟩ ht hroom]
    obtain ⟨hF, hlen, hget⟩ := joined_ring src seg s
    have hm := joined_ready src seg s hwin hpend ha he hr hhalt (by simp [hrun, isMoving])
    rw [settle_stop hm r (by rwa [joined_pcu]) (by rwa [joined_pcu]) ((recAtN_joined src seg s hL).trans hrec)
      (recKind_stop hk), joined_pcu]
    obtain ⟨hF', hlen', hget', hdld⟩ := setCursor_joined src seg s ho
    obtain ⟨hpcu, hpeers, hjoined, hliu⟩ := enterStopped_frameTaken .programmedStop src hh
      (w := setCursor ⟨s.pcu.cursor.n + 1, .first⟩ (joined src seg s)) (by simp [appended_keeps])
      (by simp [appended_keeps]) (by simp [appended_keeps])
    refine ⟨_, rfl, by rwa [enterStopped_drg], by rwa [enterStopped_drg], by rwa [enterStopped_drg], hpcu.trans ?_, hpeers,
      hjoined, hliu, ?_⟩
    · simp [setCursor_pcu, joined_pcu]
    · rw [enterStopped_frame, ← hdld]
      ext1 <;> simp [appended_keeps]
  · rw [TakesSegment.exec_fits ⟨hh, hcut, hp, hid, hnum, hr0, hval, ho⟩ ht hroom]
    obtain ⟨hF, hlen, hget⟩ := joined_ring src seg s
    have hm := joined_ready src seg s hwin hpend ha he hr hhalt (by simp [hrun, isMoving])
    rw [settle_end hm r (by rwa [joined_pcu]) (by rwa [joined_pcu]) ((recAtN_joined src seg s hL).trans hrec)
      (recKind_end hk)]
    obtain ⟨hpcu, hpeers, hjoined, hliu⟩ := enterStopped_frameTaken .designEnd src hh
      (w := joined src seg s) (by simp [appended_keeps]) (by simp [appended_keeps]) (by simp [appended_keeps])
    refine ⟨_, rfl, by rwa [enterStopped_drg], by rwa [enterStopped_drg], by rwa [enterStopped_drg], hpcu.trans ?_, hpeers,
      hjoined, hliu, ?_⟩
    · simp [joined_pcu]
    · rw [enterStopped_frame, ← joined_dld src seg s]
      ext1 <;> simp [appended_keeps]
  · rw [TakesSegment.exec_fits ⟨hh, hcut, hp, hid, hnum, hr0, hval, ho⟩ ht hroom]
    obtain ⟨hF, hlen, hget⟩ := joined_ring src seg s
    have hm := joined_ready src seg s hwin hpend ha he hr hhalt (by simp [hrun, isMoving])
    have hnone : recAtN (joined src seg s) = none := by
      rw [recAtN_joined src seg s (by omega), List.getElem?_eq_none_iff]
      omega
    rw [settle_absent hm (by rwa [joined_pcu]) hnone]
    exact ⟨_, rfl, hF, hlen, hget, by rw [joined_withPcu, joined_pcu, joined_params]⟩
  · rw [TakesSegment.exec_fits ⟨hh, hcut, hp, hid, hnum, hr0, hval, ho⟩ ht hroom]
    obtain ⟨hF, hlen, hget⟩ := joined_ring src seg s
    have hm := joined_ready src seg s hwin hpend ha he hr hhalt (by rcases hrun with h | h <;> simp [h, isMoving])
    have hne : (joined src seg s).pcu.run ≠ .running := by rw [joined_pcu]; rcases hrun with h | h <;> simp [h]
    rw [settle_traversal hm hne, traversalWindow_eq _ tv (by rwa [joined_pcu])]
    have haxis : isAxis (joined src seg s) = isAxis s := by simp [isAxis, appended_keeps]
    have haxu : (joined src seg s).axu = s.axu := by simp [appended_keeps]
    refine ⟨_, rfl, hF, hlen, hget, joined_withPcu src seg s _, ?_⟩
    simp only [joined_pcu, joined_params, haxis, haxu]

end Sys2Proof.Machine

namespace Sys2Proof.Machine

/-! ### Pruning (R13): how many trail entries leave -/

theorem colorEntries_sorted (n : Nat) (rs : List Rec) : (colorEntries n rs).Pairwise fun a b => a.1 < b.1 := by
  induction rs generalizing n with
  | nil => exact List.Pairwise.nil
  | cons r rs ih =>
    unfold colorEntries
    split
    · exact List.Pairwise.cons (fun e he => colorEntries_ge _ _ e he) (ih _)
    · exact ih _

/-- At least the entries from the `i`-th on stay where F is raised no further than it. -/
theorem length_filter_ge {es : List (Nat × Nat)} (hs : es.Pairwise fun a b => a.1 < b.1) {i : Nat} {e : Nat × Nat}
    (he : es[i]? = some e) (f : Nat) (hf : f ≤ e.1) : es.length - i ≤ (es.filter fun x => decide (f ≤ x.1)).length := by
  induction es generalizing i with
  | nil => cases he
  | cons a as ih =>
    obtain ⟨hhead, htail⟩ := List.pairwise_cons.1 hs
    cases i with
    | zero =>
      obtain rfl := Option.some.inj he
      have hall : (a :: as).filter (fun x => decide (f ≤ x.1)) = a :: as :=
        List.filter_eq_self.2 fun x hx => decide_eq_true <| by
          rcases List.mem_cons.1 hx with rfl | hx
          · exact hf
          · exact Nat.le_trans hf (Nat.le_of_lt (hhead x hx))
      rw [hall]
      exact Nat.sub_le _ _
    | succ i =>
      have hrest := ih htail (by simpa using he)
      have hmore := ((List.sublist_cons_self a as).filter fun x => decide (f ≤ x.1)).length_le
      simp only [List.length_cons]
      omega

/-- Exactly the entries after the `i`-th stay where F is raised just past it. -/
theorem length_filter_past {es : List (Nat × Nat)} (hs : es.Pairwise fun a b => a.1 < b.1) {i : Nat} {e : Nat × Nat}
    (he : es[i]? = some e) : (es.filter fun x => decide (e.1 + 1 ≤ x.1)).length = es.length - (i + 1) := by
  induction es generalizing i with
  | nil => cases he
  | cons a as ih =>
    obtain ⟨hhead, htail⟩ := List.pairwise_cons.1 hs
    cases i with
    | zero =>
      obtain rfl := Option.some.inj he
      have hall : as.filter (fun x => decide (a.1 + 1 ≤ x.1)) = as :=
        List.filter_eq_self.2 fun x hx => decide_eq_true (hhead x hx)
      rw [List.filter_cons_of_neg (by simp), hall]
      simp
    | succ i =>
      have hmem : as[i]? = some e := by simpa using he
      have hlt := hhead e (List.mem_of_getElem? hmem)
      rw [List.filter_cons_of_neg (by simp; omega), ih htail hmem]
      simp

theorem trail_entry_between {r : Ring} (hf : ringForm r) {i : Nat} {e : Nat × Nat} (he : r.trail[i]? = some e) :
    r.F ≤ e.1 ∧ e.1 < ringL r := by
  obtain ⟨-, htrail, -⟩ := hf
  have hmem : e ∈ colorEntries r.F r.recs := htrail ▸ List.mem_of_getElem? he
  exact ⟨colorEntries_ge _ _ e hmem, colorEntries_lt _ _ e hmem⟩

/-- R13: pruning raises F just past the last entry that must leave, where the cursor stands beyond it. -/
theorem prune_past {r : Ring} (hf : ringForm r) {n k : Nat} {e : Nat × Nat} (hk : 64 < r.trail.length + k)
    (he : r.trail[r.trail.length + k - 65]? = some e) (hn : e.1 < n) :
    prune n k r = raiseF (e.1 + 1) r ∧ (raiseF (e.1 + 1) r).trail.length + k = 64 := by
  obtain ⟨hF, hL⟩ := trail_entry_between hf he
  have hlen := (List.getElem?_eq_some_iff.1 he).1
  obtain ⟨-, htrail, -⟩ := hf
  have hkept := length_filter_past (htrail ▸ colorEntries_sorted r.F r.recs) he
  have hk' : ¬ r.trail.length + k ≤ Config.trailPlaces := Nat.not_le.2 hk
  have he' : r.trail[r.trail.length + k - Config.trailPlaces - 1]? = some e := he
  refine ⟨?_, ?_⟩
  · rw [prune, if_neg hk', he']
    exact if_pos (Nat.lt_min.2 ⟨hn, hL⟩)
  · rw [raiseF, if_pos (Nat.lt_succ_of_le hF)]
    dsimp only
    omega

/-- R13: and to the cursor, where it stands at or before that entry. -/
theorem prune_to_cursor {r : Ring} (hf : ringForm r) {n k : Nat} {e : Nat × Nat} (hk : 64 < r.trail.length + k)
    (he : r.trail[r.trail.length + k - 65]? = some e) (hn : n ≤ e.1) :
    prune n k r = raiseF n r ∧ 64 < (raiseF n r).trail.length + k := by
  obtain ⟨hF, hL⟩ := trail_entry_between hf he
  have hlen := (List.getElem?_eq_some_iff.1 he).1
  obtain ⟨-, htrail, -⟩ := hf
  have hkept := length_filter_ge (htrail ▸ colorEntries_sorted r.F r.recs) he n hn
  have hk' : ¬ r.trail.length + k ≤ Config.trailPlaces := Nat.not_le.2 hk
  have he' : r.trail[r.trail.length + k - Config.trailPlaces - 1]? = some e := he
  have hbound : min n (ringL r) = n := Nat.min_eq_left (by omega)
  refine ⟨?_, ?_⟩
  · rw [prune, if_neg hk', he', hbound]
    exact if_neg (Nat.not_lt.2 hn)
  · unfold raiseF
    split
    · dsimp only
      omega
    · exact hk

/-! ### A segment that does not fit (R14, R64, R66) -/

theorem frameTaken_withRing (src : Station) (s : State) (r : Ring) :
    frameTaken src { s with drg := r } = { frameTaken src s with drg := r } := by
  unfold frameTaken
  dsimp only
  split <;> rfl

theorem ringTest_trail (seg : Segment) (s : State)
    (h : 64 < (prune s.pcu.cursor.n (colorCount seg.records) s.drg).trail.length + colorCount seg.records) :
    ringTest seg s = enterWait .trail { s with drg := prune s.pcu.cursor.n (colorCount seg.records) s.drg } := if_pos h

theorem ringTest_room (seg : Segment) (s : State)
    (h : (prune s.pcu.cursor.n (colorCount seg.records) s.drg).trail.length + colorCount seg.records ≤ 64)
    (hr : ringRoom (prune s.pcu.cursor.n (colorCount seg.records) s.drg) < seg.records.length) :
    ringTest seg s = enterWait .room { s with drg := prune s.pcu.cursor.n (colorCount seg.records) s.drg } :=
  (if_neg (Nat.not_lt.2 h)).trans (if_pos hr)

/-- R64: the test over a ring that pruning leaves as it is. -/
theorem ringTest_pruned (seg : Segment) (s : State) (r : Ring)
    (hr : prune s.pcu.cursor.n (colorCount seg.records) s.drg = r) (hfit : r.trail.length + colorCount seg.records ≤ 64) :
    ringTest seg s = ringTest seg { s with drg := r } := by
  have hagain : prune s.pcu.cursor.n (colorCount seg.records) r = r := if_pos hfit
  unfold ringTest
  simp only [hr, hagain]

end Sys2Proof.Machine

namespace Sys2Proof.Machine

/-- R8, R11, R12: what raising F leaves of a ring. -/
theorem raiseF_ring {r : Ring} (hf : ringForm r) {f : Nat} (hL : f ≤ ringL r) :
    (raiseF f r).F = max r.F f ∧ ringL (raiseF f r) = ringL r ∧ ringForm (raiseF f r) ∧
    (∀ m, ringGet (raiseF f r) m = if m < (raiseF f r).F then none else ringGet r m) ∧
    (∀ m, (raiseF f r).F ≤ m → m ≤ ringL r → colorInForce (raiseF f r) m = colorInForce r m) := by
  refine ⟨raiseF_F f r, raiseF_L f r hL, raiseF_form f r hL hf, fun m => ?_, fun m hm _ => ?_⟩
  · rw [ringGet_raiseF, raiseF_F]
  · obtain ⟨-, htrail, -⟩ := hf
    exact colorInForce_raiseF f m r htrail hm

/-- R14: the ring emptied at L keeps the colour in force there. -/
theorem raiseF_ringL {r : Ring} (hf : ringForm r) : raiseF (ringL r) r = ⟨ringL r, [], [], colorInForce r (ringL r)⟩ := by
  obtain ⟨hrecs, htrail⟩ := raiseF_ringL_empty r hf
  have hF : (raiseF (ringL r) r).F = ringL r := by
    rw [raiseF_F]
    exact Nat.max_eq_right (Nat.le_add_right _ _)
  have hbase : (raiseF (ringL r) r).base = colorInForce (raiseF (ringL r) r) (ringL r) := by
    simp [colorInForce, htrail, lastColor]
  obtain ⟨-, htr, -⟩ := hf
  rw [colorInForce_raiseF _ _ _ htr (Nat.le_of_eq hF)] at hbase
  generalize raiseF (ringL r) r = q at *
  cases q
  simp_all

section
variable {src : Station} {body : List Byte} {seg : Segment} {s : State} {e : Nat × Nat}

theorem TakesSegment.withRing (h : TakesSegment body seg s) (r : Ring) (hL : ringL r = ringL s.drg) :
    TakesSegment body seg { s with drg := r } :=
  ⟨h.heard, h.run, h.parsed, h.design, h.number, h.first.trans hL.symm, h.valid, h.opened⟩

/-- R66: the loader enters WAIT with cause ROOM over the pruned ring, with the cursor before L. -/
theorem ringTest_frameTaken_room (r : Ring) (hr : prune s.pcu.cursor.n (colorCount seg.records) s.drg = r)
    (hfit : r.trail.length + colorCount seg.records ≤ 64) (hroom : ringRoom r < seg.records.length)
    (hn : s.pcu.cursor.n < ringL r) :
    ringTest seg (frameTaken src s) =
      { frameTaken src s with drg := r, dld := { s.dld with state := .wait, resend := true, waitCause := .room } } := by
  have hr' : prune (frameTaken src s).pcu.cursor.n (colorCount seg.records) (frameTaken src s).drg = r := by simpa using hr
  rw [ringTest_room seg _ (hr'.symm ▸ hfit) (hr'.symm ▸ hroom), hr', enterWait_stays _ _ (by simpa using hn)]
  simp

/-- R14, R67: with the cursor at or beyond L the loader is released at once. -/
theorem ringTest_frameTaken_released (hf : ringForm s.drg) (hfit : s.drg.trail.length + colorCount seg.records ≤ 64)
    (hroom : ringRoom s.drg < seg.records.length) (hn : ringL s.drg ≤ s.pcu.cursor.n) :
    ringTest seg (frameTaken src s) =
      { frameTaken src s with
        drg := ⟨ringL s.drg, [], [], colorInForce s.drg (ringL s.drg)⟩
        dld := { s.dld with state := .opened, resend := true, waitCause := .none } } := by
  have hdrg : (frameTaken src s).drg = s.drg := by simp
  have hsame : prune (frameTaken src s).pcu.cursor.n (colorCount seg.records) (frameTaken src s).drg =
      (frameTaken src s).drg := by
    rw [hdrg]
    exact if_pos hfit
  rw [ringTest_room seg _ (by rwa [hsame, hdrg]) (by rwa [hsame, hdrg]), hsame,
    enterWait_released .room (frameTaken src s) (by rwa [hdrg]) (by simpa using hn), hdrg, raiseF_ringL hf]
  simp

/-- R66: and with cause TRAIL. -/
theorem ringTest_frameTaken_trail (r : Ring) (hr : prune s.pcu.cursor.n (colorCount seg.records) s.drg = r)
    (hover : 64 < r.trail.length + colorCount seg.records) (hn : s.pcu.cursor.n < ringL r) :
    ringTest seg (frameTaken src s) =
      { frameTaken src s with drg := r, dld := { s.dld with state := .wait, resend := true, waitCause := .trail } } := by
  have hr' : prune (frameTaken src s).pcu.cursor.n (colorCount seg.records) (frameTaken src s).drg = r := by simpa using hr
  rw [ringTest_trail seg _ (hr'.symm ▸ hover), hr', enterWait_stays _ _ (by simpa using hn)]
  simp

/-- R13, R64: where pruning makes room in the trail, the segment is judged over the ring so left. -/
theorem TakesSegment.exec_pruned (h : TakesSegment body seg s) (hf : ringForm s.drg)
    (hk : 64 < s.drg.trail.length + colorCount seg.records)
    (he : s.drg.trail[s.drg.trail.length + colorCount seg.records - 65]? = some e) (hn : e.1 < s.pcu.cursor.n) :
    exec (.designSegment src body) s = exec (.designSegment src body) { s with drg := raiseF (e.1 + 1) s.drg } := by
  obtain ⟨hF, hL⟩ := trail_entry_between hf he
  obtain ⟨hprune, hlen⟩ := prune_past hf hk he hn
  have hraised := (h.withRing (raiseF (e.1 + 1) s.drg) (raiseF_L _ _ hL)).exec_eq (src := src)
  have hpruned : ringTest seg (frameTaken src s) = ringTest seg { frameTaken src s with drg := raiseF (e.1 + 1) s.drg } :=
    ringTest_pruned seg (frameTaken src s) _ (by simpa using hprune) (Nat.le_of_eq hlen)
  rw [h.exec_eq, hraised, frameTaken_withRing src s (raiseF (e.1 + 1) s.drg), hpruned]

end

/-- Settles O36: each case is the entry into WAIT, or O34's over the pruned ring. -/
theorem segmentsThatDoNotFit : Obligations.SegmentsThatDoNotFit := by
  refine ⟨fun src body seg s hh hcut hp hid hnum hr0 hval ho ht hroom hn => ?_,
    fun src body seg s hh hcut hp hid hnum hr0 hval ho ht hroom hn hf _ => ?_,
    fun src body seg s e hh hcut hp hid hnum hr0 hval ho hk he hne hn hf => ?_,
    fun src body seg s e hh hcut hp hid hnum hr0 hval ho hk he hne hf hroom h hw => ?_,
    fun src body seg s e hh hcut hp hid hnum hr0 hval ho hk he hne hf => ?_,
    fun src body seg s e hh hcut hp hid hnum hr0 hval ho hk he hne hn hroom hf => ?_⟩
  · have htakes : TakesSegment body seg s := ⟨hh, hcut, hp, hid, hnum, hr0, hval, ho⟩
    rw [htakes.exec_eq, ringTest_frameTaken_room s.drg (if_pos ht) ht hroom hn]
    simp
  · have htakes : TakesSegment body seg s := ⟨hh, hcut, hp, hid, hnum, hr0, hval, ho⟩
    rw [htakes.exec_eq, ringTest_frameTaken_released hf ht hroom hn]
    simp [ho]
  · have htakes : TakesSegment body seg s := ⟨hh, hcut, hp, hid, hnum, hr0, hval, ho⟩
    obtain ⟨-, hL⟩ := trail_entry_between hf he
    obtain ⟨hF', hL', hf', hget, hcol⟩ := raiseF_ring hf (Nat.le_of_lt hn)
    obtain ⟨hprune, hlen⟩ := prune_to_cursor hf hk he hne
    rw [htakes.exec_eq, ringTest_frameTaken_trail _ hprune hlen (by rwa [hL'])]
    exact ⟨_, rfl, hF', hL', hf', hget, hcol, rfl⟩
  · have htakes : TakesSegment body seg s := ⟨hh, hcut, hp, hid, hnum, hr0, hval, ho⟩
    obtain ⟨hF, hL⟩ := trail_entry_between hf he
    obtain ⟨hF', hL', hf', hget, hcol⟩ := raiseF_ring (f := e.1 + 1) hf hL
    obtain ⟨-, hlen⟩ := prune_past hf hk he hne
    have hmax : max s.drg.F (e.1 + 1) = e.1 + 1 := Nat.max_eq_right (by omega)
    have hroom' : seg.records.length ≤ ringRoom (raiseF (e.1 + 1) s.drg) := by
      unfold ringRoom Config.ringPlaces
      unfold ringL at hL' hroom
      omega
    obtain ⟨u, hu, huF, huL, huget, huf, hucol, hueq⟩ := segmentsAreAppended.1 src body seg
      { s with drg := raiseF (e.1 + 1) s.drg } hh hcut hp hid hnum (hr0.trans hL'.symm) hval ho (Nat.le_of_eq hlen) hroom'
      h hw hf'
    simp only [hF', hmax, hL'] at huF huL huget hucol
    refine ⟨u, (htakes.exec_pruned hf hk he hne).trans hu, huF, huL, huf, fun m => ?_, fun m hm hl => ?_, ?_⟩
    · rw [huget]
      split
      · rfl
      · rw [hget, if_neg (show ¬ m < (raiseF (e.1 + 1) s.drg).F by omega)]
    · rw [hucol m hm hl, hcol m (by omega) hl]
    · rw [frameTaken_withRing src s (raiseF (e.1 + 1) s.drg)] at hueq
      exact hueq
  · have htakes : TakesSegment body seg s := ⟨hh, hcut, hp, hid, hnum, hr0, hval, ho⟩
    obtain ⟨hF, hL⟩ := trail_entry_between hf he
    obtain ⟨hF', hL', hf', hget, hcol⟩ := raiseF_ring (f := e.1 + 1) hf hL
    obtain ⟨-, hlen⟩ := prune_past hf hk he hne
    have hmax : max s.drg.F (e.1 + 1) = e.1 + 1 := Nat.max_eq_right (by omega)
    have hraised := (htakes.withRing (raiseF (e.1 + 1) s.drg) hL').exec_eq (src := src)
    rw [hmax] at hF'
    refine ⟨_, (htakes.exec_pruned hf hk he hne).trans hraised, hraised, hF', hL', hf', hlen, fun m => ?_, fun m hm hl =>
      hcol m (by omega) hl⟩
    rw [hget, hF']
    exact if_congr Nat.lt_succ_iff rfl rfl
  · have htakes : TakesSegment body seg s := ⟨hh, hcut, hp, hid, hnum, hr0, hval, ho⟩
    obtain ⟨hF, hL⟩ := trail_entry_between hf he
    obtain ⟨hF', hL', hf', hget, hcol⟩ := raiseF_ring (f := e.1 + 1) hf hL
    obtain ⟨hprune, hlen⟩ := prune_past hf hk he hne
    have hroom' : ringRoom (raiseF (e.1 + 1) s.drg) < seg.records.length := by
      have hplaces : (raiseF (e.1 + 1) s.drg).recs.length ≤ 4096 := hf'.1
      unfold ringRoom Config.ringPlaces
      unfold ringL at hL' hroom
      omega
    rw [htakes.exec_eq, ringTest_frameTaken_room _ hprune (Nat.le_of_eq hlen) hroom' (by rwa [hL'])]
    exact ⟨_, rfl, hF', hL', hf', hget, hcol, rfl⟩

end Sys2Proof.Machine

namespace Sys2Proof.Machine

/-! ### Taking up the chosen cursor (R53 to R56, R16, R70) -/

theorem holders_eq_count (cs : List Cursor) (c : Cursor) : holders cs c = cs.count c := by
  simp only [holders, List.count, beq_eq_decide]

/-- R55, R56: the axis unit that follows an adopted cursor. -/
def axisAfter (c : Cursor) (s : State) : AxisUnit :=
  if isAxis s = true ∧ s.axu.originValid = true then
    match pcChange s.role s.drg s.pcu.cursor c with
    | some d => { s.axu with pc := satPc (s.axu.pc + d), excursion := true }
    | none => { s.axu with originValid := false }
  else s.axu

/-- R56: the axis loses its origin at the adoption. -/
abbrev losesOrigin (c : Cursor) (s : State) : Prop :=
  isAxis s = true ∧ s.axu.originValid = true ∧ pcChange s.role s.drg s.pcu.cursor c = none

theorem axisFollow_off (c : Cursor) (s : State) (h : ¬ (isAxis s = true ∧ s.axu.originValid = true)) : axisFollow c s = s :=
  if_neg (by simpa using h)

theorem axisFollow_moved (c : Cursor) (s : State) (h : isAxis s = true ∧ s.axu.originValid = true) (d : Int)
    (hd : pcChange s.role s.drg s.pcu.cursor c = some d) :
    axisFollow c s = { s with axu := { s.axu with pc := satPc (s.axu.pc + d), excursion := true } } := by
  simp [axisFollow, h, hd]

theorem axisFollow_lost (c : Cursor) (s : State) (h : losesOrigin c s) :
    axisFollow c s = raise .originLost 0 0 { s with axu := { s.axu with originValid := false } } := by
  obtain ⟨hx, ho, hnone⟩ := h
  simp [axisFollow, hx, ho, hnone]

theorem axisFollow_axu (c : Cursor) (s : State) : (axisFollow c s).axu = axisAfter c s := by
  unfold axisAfter
  split
  · rename_i h
    split
    · rw [axisFollow_moved c s h _ ‹_›]
    · rw [axisFollow_lost c s ⟨h.1, h.2, ‹_›⟩]
      simp
  · rw [axisFollow_off c s ‹_›]

theorem faultRec_axisFollow (e : FaultCode) (c : Cursor) (s : State) :
    faultRec e (axisFollow c s) =
      if e = .originLost ∧ losesOrigin c s then raisedRec (faultRec e s).action 0 0 (faultRec e s) else faultRec e s := by
  by_cases hl : losesOrigin c s
  · rw [axisFollow_lost c s hl]
    by_cases he : e = .originLost
    · subst he
      rw [if_pos ⟨rfl, hl⟩]
      exact faultRec_raise_self _ _ _ _
    · rw [if_neg (by simp [he])]
      exact faultRec_raise_ne _ _ _ _ _ he
  · rw [if_neg (fun h => hl h.2)]
    by_cases h : isAxis s = true ∧ s.axu.originValid = true
    · obtain ⟨d, hd⟩ := Option.ne_none_iff_exists'.1 fun hn => hl ⟨h.1, h.2, hn⟩
      rw [axisFollow_moved c s h d hd]
      rfl
    · rw [axisFollow_off c s h]

@[simp] theorem axisFollow_marks (c : Cursor) (s : State) :
    (axisFollow c s).flt.supply = s.flt.supply ∧ (axisFollow c s).flt.axisMark = s.flt.axisMark := by
  unfold axisFollow
  (repeat' split) <;> simp

theorem adoptCursor_axu (c : Cursor) (s : State) : (adoptCursor c s).axu = axisAfter c s := by
  unfold adoptCursor
  split <;> simp [axisFollow_axu]

/-- R70: a cursor below F raises LOAD-LOCKOUT beside what the axis raises. -/
theorem faultRec_adoptCursor (e : FaultCode) (c : Cursor) (s : State) :
    faultRec e (adoptCursor c s) =
      if e = .loadLockout ∧ c.n < s.drg.F then raisedRec (faultRec e s).action 5 s.dld.v (faultRec e s)
      else faultRec e (axisFollow c s) := by
  unfold adoptCursor
  by_cases hF : c.n < s.drg.F
  · rw [if_pos hF]
    by_cases he : e = .loadLockout
    · subst he
      have hsame : faultRec .loadLockout (axisFollow c s) = faultRec .loadLockout s := by
        rw [faultRec_axisFollow, if_neg (by simp)]
      have hv : (axisFollow c s).dld.v = s.dld.v := by simp
      rw [if_pos ⟨rfl, hF⟩, ← hsame, ← hv]
      exact faultRec_enterLockout_self _ _ _
    · rw [if_neg (by simp [he]), rebase, faultRec_enterLockout_ne _ _ _ _ he]
      rfl
  · rw [if_neg hF, if_neg (by simp [hF])]
    exact faultRec_congr (by simp) e

@[simp] theorem adoptCursor_marks (c : Cursor) (s : State) :
    (adoptCursor c s).flt.supply = s.flt.supply ∧ (adoptCursor c s).flt.axisMark = s.flt.axisMark := by
  unfold adoptCursor
  split <;> simp [rebase, enterLockout]

/-- R16, R54: what an adoption does to ring and loader. -/
theorem adoptCursor_place (c : Cursor) (s : State) :
    (adoptCursor c s).drg = (if c.n < s.drg.F then ⟨c.n, [], [], s.drg.base⟩
      else (followCursor (writeCursor c s)).drg) ∧
    (adoptCursor c s).dld = (if c.n < s.drg.F then { s.dld with state := .lockout, lockReason := .rebase, waitCause := .none }
      else (followCursor (writeCursor c s)).dld) := by
  unfold adoptCursor
  by_cases hF : c.n < s.drg.F
  · rw [if_pos hF, if_pos hF, if_pos hF]
    exact ⟨by simp [rebase, enterLockout, emptiedAt], by simp [rebase, enterLockout]⟩
  · rw [if_neg hF, if_neg hF, if_neg hF]
    exact followCursor_congr (by simp) (by simp) (by simp) rfl

theorem takeChosen_place (c : Cursor) (s : State) (hc : chooseCursor s.pcu.cursor (qualifiedCursors s) = c) :
    (takeChosen s).drg = chosenRing c s ∧ (takeChosen s).dld = chosenLoader c s := by
  by_cases hown : c = s.pcu.cursor
  · rw [takeChosen_own s (hc.trans hown), chosenRing, chosenLoader, if_pos hown, if_pos hown]
    exact ⟨rfl, rfl⟩
  · obtain ⟨hdrg, hdld⟩ := adoptCursor_place c (outOfStep s)
    obtain ⟨hd, hl, -, -⟩ := outOfStep_keeps s
    have hps : (outOfStep s).params = s.params := by simp [outOfStep]
    obtain ⟨hfd, hfl⟩ := followCursor_congr (s := writeCursor c s) (u := writeCursor c (outOfStep s)) hd hl hps rfl
    rw [hfd, hd] at hdrg
    rw [hfl, hd, hl] at hdld
    rw [takeChosen_other c s hc hown, chosenRing, chosenLoader, if_neg hown, if_neg hown]
    split <;> exact ⟨hdrg, hdld⟩

/-- R54 to R56, R70: what taking up another cursor raises. -/
theorem faultRec_takeChosen (c : Cursor) (s : State) (hc : chooseCursor s.pcu.cursor (qualifiedCursors s) = c)
    (hown : c ≠ s.pcu.cursor) (e : FaultCode) :
    faultRec e (takeChosen s) =
      if e = .outOfStep then
        raisedRec (faultRec e s).action (octetSat ((s.pcu.cursor :: qualifiedCursors s).count c))
          (octetSat ((qualifiedCursors s).length + 1)) (faultRec e s)
      else if e = .loadLockout ∧ c.n < s.drg.F then raisedRec (faultRec e s).action 5 s.dld.v (faultRec e s)
      else if e = .originLost ∧ losesOrigin c s then raisedRec (faultRec e s).action 0 0 (faultRec e s)
      else faultRec e s := by
  have hrec : faultRec e (takeChosen s) = faultRec e (adoptCursor c (outOfStep s)) := by
    rw [takeChosen_other c s hc hown]
    split <;> rfl
  have hv : (outOfStep s).dld.v = s.dld.v := by rw [(outOfStep_keeps s).2.1]
  have hF : (outOfStep s).drg.F = s.drg.F := by rw [(outOfStep_keeps s).1]
  have hlose : losesOrigin c (outOfStep s) ↔ losesOrigin c s := by
    simp [losesOrigin, isAxis, outOfStep]
  rw [hrec, faultRec_adoptCursor, faultRec_axisFollow, hv, hF]
  by_cases he : e = .outOfStep
  · subst he
    simp only [reduceCtorEq, false_and, if_false, if_true]
    rw [outOfStep, faultRec_raise_self, hc, holders_eq_count]
    rfl
  · have hsame : faultRec e (outOfStep s) = faultRec e s := faultRec_raise_ne _ _ _ _ _ he
    rw [if_neg he, hsame]
    simp only [hlose]

theorem takeChosen_axu (c : Cursor) (s : State) (hc : chooseCursor s.pcu.cursor (qualifiedCursors s) = c)
    (hown : c ≠ s.pcu.cursor) : (takeChosen s).axu = axisAfter c s := by
  have hadopt : (takeChosen s).axu = (adoptCursor c (outOfStep s)).axu := by
    rw [takeChosen_other c s hc hown]
    split <;> rfl
  rw [hadopt, adoptCursor_axu]
  simp [axisAfter, isAxis, outOfStep]

theorem takeChosen_stu (c : Cursor) (s : State) (hc : chooseCursor s.pcu.cursor (qualifiedCursors s) = c)
    (hown : c ≠ s.pcu.cursor) :
    (takeChosen s).stu = if s.pcu.joinAgreement = true ∧ isHead s = true then { s.stu with C := c.n } else s.stu := by
  rw [takeChosen_other c s hc hown]
  by_cases h : s.pcu.joinAgreement = true ∧ isHead s = true
  · rw [if_pos h, if_pos (by simpa using h)]
    simp [outOfStep]
  · rw [if_neg h, if_neg (by simpa using h)]
    simp [outOfStep]

@[simp] theorem takeChosen_marks (s : State) :
    (takeChosen s).flt.supply = s.flt.supply ∧ (takeChosen s).flt.axisMark = s.flt.axisMark := by
  unfold takeChosen
  dsimp only
  (repeat' split) <;> simp

end Sys2Proof.Machine

namespace Sys2Proof.Machine

/-! ### A target that is not the cursor leaves a window to go (R147, R148, R150, R151) -/

theorem countBack_none {k m : Nat} {xs : List Rec} (h : firstBack m xs = none) (last : Option Nat) :
    countBack k m xs last = last := by
  induction xs generalizing m with
  | nil => rfl
  | cons x xs ih =>
    unfold firstBack at h
    split at h
    · cases h
    · rename_i hx
      unfold countBack
      rw [if_neg hx, ih h, ite_self]

theorem isStitch_displacement {x : Rec} (h : isStitch x = true) : isDisplacement x = true := by
  simp only [isStitch, beq_iff_eq] at h
  simp [isDisplacement, h]

theorem countForward_none {k m : Nat} {xs : List Rec} (h : firstForward m xs = none) (last : Option Cursor) :
    (countForward k m xs last).1 = last := by
  induction xs generalizing m with
  | nil => rfl
  | cons x xs ih =>
    unfold firstForward at h
    split at h
    · cases h
    · rename_i hx
      have hst : ¬ isStitch x = true := fun hst => hx (isStitch_displacement hst)
      unfold countForward
      rw [if_neg hst, if_neg hx]
      split
      · rfl
      · split
        · rfl
        · exact ih h

theorem nextBack_of_target {r : Ring} {c : Cursor} {k : Nat} (h : backTarget r c k ≠ c) : nextBack r c ≠ none := by
  intro hnone
  rw [nextBack] at hnone
  simp [backTarget, countBack_none hnone] at h

theorem nextForward_of_target {r : Ring} {c : Cursor} {k : Nat} (h : (forwardTarget r c k).1 ≠ c) : nextForward r c ≠ none := by
  intro hnone
  rw [nextForward] at hnone
  have hc := countForward_none (k := k) hnone none
  refine h ?_
  unfold forwardTarget
  split
  · rename_i heq
    simp [heq] at hc
  · rfl

/-! ### Agreement completes (R26, R53 to R56, R146, R149) -/

theorem exec_agreementTimerExpiry (s : State) (hi : inService s = true) (ha : agreementWaiting s = true) :
    exec .agreementTimerExpiry s = .next (completeAgreement s) := by
  simp [exec, execAgreementTimerExpiry, onService_on _ _ hi, ha]

/-- R146: a target that is fixed already, or none to fix, leaves the station alone. -/
theorem fixTarget_same (s : State) (h : s.pcu.traversal.map Traversal.target ≠ some none) : fixTarget s = s := by
  cases ht : s.pcu.traversal with
  | none => exact fixTarget_none s ht
  | some t =>
    refine fixTarget_fixed t s ht ?_
    rw [ht] at h
    exact Option.isSome_iff_ne_none.2 fun hn => h (by simp [hn])

/-- R53 to R56: what agreement leaves of the blocks beside pace, line, peers, ring and loader. -/
theorem completeAgreement_blocks (s : State) :
    (completeAgreement s).flt = (takeChosen s).flt ∧ (completeAgreement s).axu = (takeChosen s).axu ∧
    (completeAgreement s).stu = (takeChosen s).stu := by
  simp [completeAgreement]

theorem completeAgreement_frame (s : State) :
    completeAgreement s = { s with
      pcu := (completeAgreement s).pcu, ptb := (completeAgreement s).ptb, liu := (completeAgreement s).liu
      drg := (completeAgreement s).drg, dld := (completeAgreement s).dld, flt := (completeAgreement s).flt
      axu := (completeAgreement s).axu, stu := (completeAgreement s).stu } := by
  ext1 <;> simp

theorem faultRec_completeAgreement (c : Cursor) (s : State) (hc : chooseCursor s.pcu.cursor (qualifiedCursors s) = c)
    (hown : c ≠ s.pcu.cursor) (e : FaultCode) :
    faultRec e (completeAgreement s) =
      if e = .outOfStep then
        raisedRec (faultRec e s).action (octetSat ((s.pcu.cursor :: qualifiedCursors s).count c))
          (octetSat ((qualifiedCursors s).length + 1)) (faultRec e s)
      else if e = .loadLockout ∧ c.n < s.drg.F then raisedRec (faultRec e s).action 5 s.dld.v (faultRec e s)
      else if e = .originLost ∧ losesOrigin c s then raisedRec (faultRec e s).action 0 0 (faultRec e s)
      else faultRec e s := by
  rw [faultRec_congr (completeAgreement_blocks s).1, faultRec_takeChosen c s hc hown e]

/-- R56: below F every cursor lacks a record, so an axis that follows one there loses its origin. -/
theorem losesOrigin_below {c : Cursor} {s : State} (hF : c.n < s.drg.F) (hx : isAxis s = true)
    (ho : s.axu.originValid = true) : losesOrigin c s :=
  ⟨hx, ho, (pcChange_none_iff _ _ _ _).2 (.inl hF)⟩

/-! ### A traversal after agreement (R26, R146, R150) -/

/-- R150, R151: the next window of a traversal in this direction. -/
def windowTowards (d : TravDir) (r : Ring) (c : Cursor) : Option WindowRec :=
  if d = .back then (nextBack r c).map fun m => ⟨.retreat (m.1 + 1), m.2⟩
  else (nextForward r c).map fun m => ⟨.advance m.1, m.2⟩

theorem windowTowards_of_target {t : Traversal} {r : Ring} {c : Cursor} (h : (targetOf t r c).1 ≠ c) :
    ∃ w, windowTowards t.dir r c = some w := by
  unfold targetOf at h
  cases hd : t.dir with
  | back =>
    rw [hd] at h
    obtain ⟨m, hm⟩ := Option.ne_none_iff_exists'.1 (nextBack_of_target h)
    exact ⟨⟨.retreat (m.1 + 1), m.2⟩, by simp [windowTowards, hm]⟩
  | forward =>
    rw [hd] at h
    obtain ⟨m, hm⟩ := Option.ne_none_iff_exists'.1 (nextForward_of_target h)
    exact ⟨⟨.advance m.1, m.2⟩, by simp [windowTowards, hm]⟩

/-- R26, R150: a traversal with a window to go becomes READY for it exactly where its conditions hold and an axis has its
origin. -/
theorem settle_traversing (f : State) (tv : Traversal) (w : WindowRec) (hwin : f.pcu.win = .preparing)
    (hrun : isTraversing f.pcu.run) (htv : f.pcu.traversal = some tv) (ht : tv.target.isSome = true)
    (hne : tv.target ≠ some f.pcu.cursor) (ha : agreementWaiting f = false)
    (hw : windowTowards tv.dir f.drg f.pcu.cursor = some w) :
    ∃ p, settle f = { f with pcu := p } ∧ p.traversal = some tv ∧ p.run = f.pcu.run ∧ p.cursor = f.pcu.cursor ∧
      p.agreement = f.pcu.agreement ∧
      (p.win = .ready ↔ f.pcu.pendingStop = none ∧ f.pcu.haltSeen = false ∧ f.pcu.edge = .settled ∧ roleReady f = true ∧
        (isAxis f = false ∨ f.axu.originValid = true)) ∧
      (p.win = .ready → p.pace = false ∧ p.next = some w) := by
  have hmove : isMoving f.pcu.run = true := by rcases hrun with h | h <;> simp [h, isMoving]
  have hnr : f.pcu.run ≠ .running := by rcases hrun with h | h <;> simp [h]
  have hmay := mayBecomeReady_iff f
  simp only [hwin, hmove, ha, true_and] at hmay
  by_cases hm : mayBecomeReady f = true
  · obtain ⟨hp, hh, he, hr⟩ := hmay.1 hm
    have htw := traversalWindow_eq f tv htv
    rw [windowTowards] at hw
    simp only [ht, ne_eq, hne, not_false_iff, true_and, hw] at htw
    rw [settle_traversal hm hnr, htw]
    by_cases ho : isAxis f = false ∨ f.axu.originValid = true
    · rw [if_pos ho]
      exact ⟨_, rfl, htv, rfl, rfl, rfl, by simp [hp, hh, he, hr, ho], fun _ => ⟨rfl, rfl⟩⟩
    · rw [if_neg ho]
      exact ⟨_, rfl, htv, rfl, rfl, rfl, by simp [hwin, ho], fun h => by simp [hwin] at h⟩
  · rw [settle_rest f (fun ⟨h, _⟩ => by simp [hwin] at h) (by simpa using hm)]
    refine ⟨_, rfl, htv, rfl, rfl, rfl, ?_, fun h => by simp [hwin] at h⟩
    simp only [hwin, reduceCtorEq, false_iff]
    rintro ⟨hp, hh, he, hr, -⟩
    exact hm (hmay.2 ⟨hp, hh, he, hr⟩)

end Sys2Proof.Machine

namespace Sys2Proof.Machine

/-- The role blocks' part in READY is not touched by an agreement. -/
theorem roleReady_takeChosen (s : State) : roleReady (takeChosen s) = roleReady s := by
  have hax : (takeChosen s).axu.move = s.axu.move ∧ (takeChosen s).axu.op = s.axu.op := by
    by_cases hown : chooseCursor s.pcu.cursor (qualifiedCursors s) = s.pcu.cursor
    · rw [takeChosen_own s hown]
      exact ⟨rfl, rfl⟩
    · rw [takeChosen_axu _ s rfl hown, axisAfter]
      (repeat' split) <;> exact ⟨rfl, rfl⟩
  have hst : (takeChosen s).stu.needleUp = s.stu.needleUp ∧ (takeChosen s).stu.phase = s.stu.phase := by
    by_cases hown : chooseCursor s.pcu.cursor (qualifiedCursors s) = s.pcu.cursor
    · rw [takeChosen_own s hown]
      exact ⟨rfl, rfl⟩
    · rw [takeChosen_stu _ s rfl hown]
      split <;> exact ⟨rfl, rfl⟩
  simp only [roleReady, isHead, strokeInFlight, trimming, selectorBusy, hax, hst, takeChosen_keeps]
  rfl

/-- R54: the station that agreement leaves before the READY test, where no target is to be fixed. -/
theorem takeChosen_frame (c : Cursor) (s : State) (hc : chooseCursor s.pcu.cursor (qualifiedCursors s) = c) :
    takeChosen s = { s with
      flt := (takeChosen s).flt, axu := (takeChosen s).axu, stu := (takeChosen s).stu
      drg := chosenRing c s, dld := chosenLoader c s
      pcu := { s.pcu with agreement := .stopped, joinAgreement := false, cursor := c } } := by
  obtain ⟨hdrg, hdld⟩ := takeChosen_place c s hc
  ext1
  case pcu => rw [takeChosen_pcu, hc]
  all_goals simp [hdrg, hdld]

theorem settle_enterStopped (reason : StopReason) (s : State) : settle (enterStopped reason s) = enterStopped reason s := by
  have hm : mayBecomeReady (enterStopped reason s) = false := by simp [mayBecomeReady, enterStopped_pcu, isMoving]
  rw [settle, tryFinish, if_neg (by simp [enterStopped_pcu]), tryReady, if_neg (by simp [hm]), enterStopped_starve]

/-- R146, R149: the target of a traversal is fixed from the chosen cursor and ring. -/
theorem targetOf_takeChosen {c : Cursor} {s : State} (hc : chooseCursor s.pcu.cursor (qualifiedCursors s) = c)
    {d : TravDir} {k : Nat} (e : Bool) {t : Cursor} {lim : Bool}
    (hf : (if d = .back then (backTarget (chosenRing c s) c k, false) else forwardTarget (chosenRing c s) c k) = (t, lim)) :
    targetOf ⟨d, k, none, e⟩ (takeChosen s).drg (takeChosen s).pcu.cursor = (t, lim) := by
  rw [(takeChosen_place c s hc).1, takeChosen_pcu, hc, targetOf]
  cases d <;> simpa using hf

theorem completeAgreement_marks (s : State) :
    (completeAgreement s).flt.axisMark = s.flt.axisMark ∧ (completeAgreement s).flt.supply = s.flt.supply := by
  rw [(completeAgreement_blocks s).1]
  simp

section
variable {c : Cursor} {s : State} (hc : chooseCursor s.pcu.cursor (qualifiedCursors s) = c) (hown : c ≠ s.pcu.cursor)
include hc hown

theorem completeAgreement_axu : (completeAgreement s).axu = axisAfter c s := by
  rw [(completeAgreement_blocks s).2.1, takeChosen_axu c s hc hown]

theorem completeAgreement_stu :
    (completeAgreement s).stu = if s.pcu.joinAgreement = true ∧ isHead s = true then { s.stu with C := c.n } else s.stu := by
  rw [(completeAgreement_blocks s).2.2, takeChosen_stu c s hc hown]

theorem completeAgreement_stu_axis (hx : isAxis s = true) : (completeAgreement s).stu = s.stu := by
  rw [completeAgreement_stu hc hown, if_neg (by simp [isHead_eq_false_of_isAxis hx])]

end

/-- Settles O30: what agreement takes up, then the target that it fixes, then the READY test over what both leave. -/
theorem agreementCompletes : Obligations.AgreementCompletes := by
  refine ⟨fun s hi ha hc => ?_, fun c s hi ha hc hown hF hx => ?_, fun c d s hi ha hc hown hF hx ho hd => ?_,
    fun c s hi ha hc hown hF hx ho hd => ?_, fun c s hi ha hc hown hF hx => ?_, fun c s hi ha hc hown hF hx ho => ?_,
    fun c s hi ha hwin hrun htv hc => ?_, fun c s hi ha he htv hc => ?_,
    fun r s hi ha hwin hrun hc hpp htv hp hh he hr hrec => ?_, fun d k e c t lim s hi ha hwin hrun htv hc hf hne he => ?_,
    fun d k e c t lim s hi ha hwin hrun htv hc hf hne => ?_, fun d k e c t lim s hi ha hwin hrun htv hc hf heq => ?_⟩
  · obtain ⟨hflt, haxu, hstu⟩ := completeAgreement_blocks s
    rw [takeChosen_own s hc] at hflt haxu hstu
    exact ⟨_, exec_agreementTimerExpiry s hi ha, hflt, haxu, hstu, completeAgreement_frame s⟩
  · have hrec := faultRec_completeAgreement c s hc hown
    have hkeep : ¬ losesOrigin c s := fun h => by rcases hx with hx | hx <;> simp [losesOrigin, hx] at h
    refine ⟨_, exec_agreementTimerExpiry s hi ha, (completeAgreement_marks s).1, (completeAgreement_marks s).2,
      (hrec _).trans (if_pos rfl), fun d hd => ?_, ?_, completeAgreement_stu hc hown, completeAgreement_frame s⟩
    · rw [hrec, if_neg hd, if_neg (by simp [Nat.not_lt.2 hF]), if_neg (by simp [hkeep])]
    · rw [completeAgreement_axu hc hown, axisAfter, if_neg (by rcases hx with hx | hx <;> simp [hx])]
  · have hrec := faultRec_completeAgreement c s hc hown
    have hkeep : ¬ losesOrigin c s := fun h => by simp [losesOrigin, hd] at h
    refine ⟨_, exec_agreementTimerExpiry s hi ha, (completeAgreement_marks s).1, (completeAgreement_marks s).2,
      (hrec _).trans (if_pos rfl), fun e he => ?_, ?_, completeAgreement_stu_axis hc hown hx, completeAgreement_frame s⟩
    · rw [hrec, if_neg he, if_neg (by simp [Nat.not_lt.2 hF]), if_neg (by simp [hkeep])]
    · rw [completeAgreement_axu hc hown, axisAfter, if_pos ⟨hx, ho⟩, hd]
      rfl
  · have hrec := faultRec_completeAgreement c s hc hown
    have hlost : losesOrigin c s := ⟨hx, ho, hd⟩
    refine ⟨_, exec_agreementTimerExpiry s hi ha, (completeAgreement_marks s).1, (completeAgreement_marks s).2,
      (hrec _).trans (if_pos rfl), ?_, fun e ⟨he, he'⟩ => ?_, ?_, completeAgreement_stu_axis hc hown hx,
      completeAgreement_frame s⟩
    · rw [raisedIn, hrec]
      simp [hlost]
    · rw [hrec, if_neg he, if_neg (by simp [Nat.not_lt.2 hF]), if_neg (by simp [he'])]
    · rw [completeAgreement_axu hc hown, axisAfter, if_pos ⟨hx, ho⟩, hd]
  · have hrec := faultRec_completeAgreement c s hc hown
    have hkeep : ¬ losesOrigin c s := fun h => by rcases hx with hx | hx <;> simp [losesOrigin, hx] at h
    refine ⟨_, exec_agreementTimerExpiry s hi ha, (completeAgreement_marks s).1, (completeAgreement_marks s).2,
      (hrec _).trans (if_pos rfl), ?_, fun e ⟨he, he'⟩ => ?_, ?_, completeAgreement_stu hc hown, completeAgreement_frame s⟩
    · rw [raisedIn, hrec]
      simp [hF]
    · rw [hrec, if_neg he, if_neg (by simp [he']), if_neg (by simp [hkeep])]
    · rw [completeAgreement_axu hc hown, axisAfter, if_neg (by rcases hx with hx | hx <;> simp [hx])]
  · have hrec := faultRec_completeAgreement c s hc hown
    have hlost := losesOrigin_below hF hx ho
    refine ⟨_, exec_agreementTimerExpiry s hi ha, (completeAgreement_marks s).1, (completeAgreement_marks s).2,
      (hrec _).trans (if_pos rfl), ?_, ?_, fun e ⟨he, he', he''⟩ => ?_, ?_, completeAgreement_stu_axis hc hown hx,
      completeAgreement_frame s⟩
    · rw [raisedIn, hrec]
      simp [hlost]
    · rw [raisedIn, hrec]
      simp [hF]
    · rw [hrec, if_neg he, if_neg (by simp [he'']), if_neg (by simp [he'])]
    · rw [completeAgreement_axu hc hown, axisAfter, if_pos ⟨hx, ho⟩, hlost.2.2]
  · have hfix : fixTarget (takeChosen s) = takeChosen s := fixTarget_none _ (by rw [takeChosen_pcu]; exact htv)
    obtain ⟨hdrg, hdld⟩ := takeChosen_place c s hc
    have hm : mayBecomeReady (takeChosen s) = false :=
      (mayBecomeReady_eq_false_iff _).2 (.inr (.inl (by rw [takeChosen_pcu]; simp [hrun, isMoving])))
    refine ⟨_, exec_agreementTimerExpiry s hi ha, ?_⟩
    rw [completeAgreement, hfix, settle_rest _ (fun ⟨h, _⟩ => by rw [takeChosen_pcu] at h; simp [hwin] at h) hm]
    refine ⟨?_, by simp, by simp, hdrg, hdld⟩
    rw [starveAfter_stopped _ (.inl (by rw [takeChosen_pcu]; simp [hrun])), takeChosen_pcu, hc]
  · have hfix : fixTarget (takeChosen s) = takeChosen s := fixTarget_same _ (by rw [takeChosen_pcu]; exact htv)
    obtain ⟨hflt, haxu, hstu⟩ := completeAgreement_blocks s
    refine ⟨_, exec_agreementTimerExpiry s hi ha, ?_⟩
    rw [hflt, haxu, hstu, ← takeChosen_frame c s hc, completeAgreement, hfix]
    exact goesOnTo_of_settled _ (by simpa [inService] using hi) (by rw [takeChosen_pcu]; exact he)
  · have hfix : fixTarget (takeChosen s) = takeChosen s := fixTarget_none _ (by rw [takeChosen_pcu]; exact htv)
    have hm : mayBecomeReady (takeChosen s) = true := by
      rw [takeChosen_own s hc]
      exact (mayBecomeReady_iff _).2 ⟨hwin, by simp [hrun, isMoving], hp, hh, rfl, he, hr⟩
    rw [exec_agreementTimerExpiry s hi ha, completeAgreement, hfix]
    rw [takeChosen_own s hc] at hm ⊢
    rw [settle_prepare hm r hrun hpp hrec]
  · have htarget := targetOf_takeChosen hc e hf
    have hfix := fixTarget_unfixed ⟨d, k, none, e⟩ (takeChosen s) (by rw [takeChosen_pcu]; exact htv) rfl
    rw [htarget, if_neg (by rw [takeChosen_pcu, hc]; exact hne)] at hfix
    obtain ⟨hflt, haxu, hstu⟩ := completeAgreement_blocks s
    refine ⟨_, exec_agreementTimerExpiry s hi ha, ?_⟩
    have hw : withTarget ⟨d, k, none, e⟩ (t, lim) (takeChosen s) = { s with
        flt := (takeChosen s).flt, axu := (takeChosen s).axu, stu := (takeChosen s).stu
        drg := chosenRing c s, dld := chosenLoader c s
        pcu := { s.pcu with
          agreement := .stopped, joinAgreement := false, cursor := c, traversal := some ⟨d, k, some t, lim⟩ } } := by
      rw [takeChosen_frame c s hc]
      rfl
    rw [hflt, haxu, hstu, ← hw, completeAgreement, hfix]
    exact goesOnTo_of_settled _ (by simpa [inService, withTarget] using hi) (by rw [withTarget, takeChosen_pcu]; exact he)
  · have htarget := targetOf_takeChosen hc e hf
    have hfix := fixTarget_unfixed ⟨d, k, none, e⟩ (takeChosen s) (by rw [takeChosen_pcu]; exact htv) rfl
    rw [htarget, if_neg (by rw [takeChosen_pcu, hc]; exact hne)] at hfix
    have hcur : (takeChosen s).pcu.cursor = c := by rw [takeChosen_pcu]; exact hc
    obtain ⟨w, hw⟩ := windowTowards_of_target (t := ⟨d, k, none, e⟩) (r := (takeChosen s).drg)
      (c := (takeChosen s).pcu.cursor) (by rw [htarget, hcur]; exact hne)
    obtain ⟨p, hsettle, htrav, hprun, hpcur, hpagr, hready, hnext⟩ := settle_traversing
      (withTarget ⟨d, k, none, e⟩ (t, lim) (takeChosen s)) ⟨d, k, some t, lim⟩ w
      (by simpa [withTarget, takeChosen_pcu] using hwin) (by simpa [withTarget, takeChosen_pcu] using hrun) rfl rfl
      (by simpa [withTarget, hcur] using hne) (by simp [agreementWaiting, withTarget, takeChosen_pcu, isRunning])
      (by simpa [withTarget] using hw)
    have hu : completeAgreement s = { withTarget ⟨d, k, none, e⟩ (t, lim) (takeChosen s) with pcu := p } := by
      rw [completeAgreement, hfix, hsettle]
    refine ⟨_, exec_agreementTimerExpiry s hi ha, ?_⟩
    rw [hu]
    refine ⟨htrav, ?_, ?_, ?_, ?_, ?_⟩
    · simpa [withTarget, takeChosen_pcu] using hprun
    · simpa [withTarget, hcur] using hpcur
    · simp [agreementWaiting, hpagr, withTarget, takeChosen_pcu, isRunning]
    · have hx : isAxis (takeChosen s) = isAxis s := by simp [isAxis]
      rw [← roleReady_takeChosen s, ← hx]
      refine hready.trans ?_
      simp only [withTarget, takeChosen_pcu]
      rfl
    · intro hr
      obtain ⟨hpace, hwindow⟩ := hnext hr
      refine ⟨hpace, hwindow.trans ?_⟩
      rw [← hw, hcur]
      rfl
  · have htarget := targetOf_takeChosen hc e hf
    have hfix := fixTarget_unfixed ⟨d, k, none, e⟩ (takeChosen s) (by rw [takeChosen_pcu]; exact htv) rfl
    rw [htarget, if_pos (by rw [takeChosen_pcu, hc]; exact heq)] at hfix
    refine ⟨_, exec_agreementTimerExpiry s hi ha, ?_⟩
    rw [completeAgreement, hfix, settle_enterStopped]
    obtain ⟨hdrg, hdld⟩ := takeChosen_place c s hc
    obtain ⟨hpcu, hpeers, hjoined, hliu⟩ := enterStopped_over (if lim then .designEnd else .traverseDone) (s := s)
      (w := withTarget ⟨d, k, none, e⟩ (t, lim) (takeChosen s)) (by simp [withTarget]) (by simp [withTarget])
      (by simp [withTarget])
    refine ⟨hpcu.trans ?_, hpeers, hjoined, ?_, ?_, hliu⟩
    · simp [withTarget, takeChosen_pcu, hc, heq]
    · simpa [withTarget] using hdrg
    · simpa [withTarget] using hdld

end Sys2Proof.Machine

namespace Sys2Proof.Machine

/-! ### The opening of a window, before its work (R20, R22, R23, R106, R122) -/

/-- R23: the station that an opening leaves before the role's blocks begin the window's work. -/
def openingOf (w : WindowRec) (s : State) : State :=
  reachTarget (advanceCursor (cursorAfter w s.pcu.cursor) (openPace w (applyPending s)))

theorem openWindow_eq (lines : CodeLines) (w : WindowRec) (s : State) :
    openWindow lines w s = startWork lines w (openingOf w s) := rfl

theorem exec_crossing (lines : CodeLines) (w : WindowRec) (s : State) (hi : inService s = true)
    (hr : s.pcu.win = .ready) (ha : s.pcu.armed = true) (hn : s.pcu.next = some w) :
    exec (.crossing lines) s = .next (openWindow lines w s) := by
  simp [exec, execCrossing, onService_on _ _ hi, hr, ha, hn]

/-- R20: a crossing that is not awaited. -/
theorem exec_crossing_idle (lines : CodeLines) (s : State) (hi : inService s = true)
    (h : s.pcu.win ≠ .ready ∨ s.pcu.armed = false ∨ s.pcu.next = none) : exec (.crossing lines) s = .next s := by
  have hsame : execCrossing lines s = .next s := by
    rw [execCrossing, onService_on _ _ hi]
    split
    · rename_i hra
      rcases h with h | h | h
      · exact absurd hra.1 h
      · simp [h] at hra
      · rw [h]
    · rfl
  exact hsame

theorem openingOf_frame (w : WindowRec) (s : State) :
    openingOf w s = { s with
      pcu := (openingOf w s).pcu, drg := (openingOf w s).drg, dld := (openingOf w s).dld
      slu := applyPendingNeedles s.slu
      stu := { s.stu with participation := s.stu.pendingPart.getD s.stu.participation, pendingPart := none }
      flt := (openingOf w s).flt } := by
  ext1
  case slu => simp [openingOf, applyPending]
  case stu => simp [openingOf, applyPending]
  all_goals simp [openingOf]

theorem openingOf_pcu (lines : CodeLines) (w : WindowRec) (s : State) : (openingOf w s).pcu = (openWindow lines w s).pcu := by
  rw [openWindow_eq, (startWork_keeps lines w _).2.2.2.2.2.2.2.2.2.1]

theorem openingOf_cursor (w : WindowRec) (s : State) : (openingOf w s).pcu.cursor = cursorAfter w s.pcu.cursor := by
  unfold openingOf reachTarget
  split <;> simp

/-- R23: the opening of a window that leaves the cursor at or above F. -/
theorem openingOf_kept (w : WindowRec) (s : State) (hF : s.drg.F ≤ (cursorAfter w s.pcu.cursor).n) :
    openingOf w s = reachTarget (setCursor (cursorAfter w s.pcu.cursor) (openPace w (applyPending s))) :=
  congrArg reachTarget (if_neg (Nat.not_lt.2 hF))

/-- R16, R23: and of one that leaves it below F. -/
theorem openingOf_rebased (w : WindowRec) (s : State) (hF : (cursorAfter w s.pcu.cursor).n < s.drg.F) :
    openingOf w s = reachTarget (rebase (cursorAfter w s.pcu.cursor) (openPace w (applyPending s))) :=
  congrArg reachTarget (if_pos hF)

/-- R5, R16, R23: ring, loader and records follow the cursor of the opening as they do any cursor. -/
theorem openingOf_place_kept (w : WindowRec) (s : State) (hF : s.drg.F ≤ (cursorAfter w s.pcu.cursor).n) :
    (openingOf w s).drg = (setCursor (cursorAfter w s.pcu.cursor) s).drg ∧
    (openingOf w s).dld = (setCursor (cursorAfter w s.pcu.cursor) s).dld ∧ (openingOf w s).flt = s.flt := by
  obtain ⟨hd, hl⟩ := setCursor_congr (cursorAfter w s.pcu.cursor) (u := openPace w (applyPending s)) (s := s)
    rfl rfl rfl rfl
  rw [openingOf_kept w s hF, ← hd, ← hl]
  simp

theorem openingOf_place_rebased (w : WindowRec) (s : State) (hF : (cursorAfter w s.pcu.cursor).n < s.drg.F) :
    (openingOf w s).drg = ⟨(cursorAfter w s.pcu.cursor).n, [], [], s.drg.base⟩ ∧
    (openingOf w s).dld = { s.dld with state := .lockout, lockReason := .rebase, waitCause := .none } ∧
    raisedIn .loadLockout 5 s.dld.v s (openingOf w s) := by
  rw [openingOf_rebased w s hF]
  refine ⟨by simp [rebase, enterLockout, emptiedAt], by simp [rebase, enterLockout], ?_⟩
  have hflt : (reachTarget (rebase (cursorAfter w s.pcu.cursor) (openPace w (applyPending s)))).flt =
      (rebase (cursorAfter w s.pcu.cursor) (openPace w (applyPending s))).flt := by simp
  exact (faultRec_congr hflt _).trans (faultRec_enterLockout_self _ _ _)

theorem faultRec_openingOf_ne (w : WindowRec) (s : State) (e : FaultCode) (h : e ≠ .loadLockout) :
    faultRec e (openingOf w s) = faultRec e s := by
  rcases Nat.lt_or_ge (cursorAfter w s.pcu.cursor).n s.drg.F with hF | hF
  · have hflt : (openingOf w s).flt = (rebase (cursorAfter w s.pcu.cursor) (openPace w (applyPending s))).flt := by
      rw [openingOf_rebased w s hF]
      simp
    rw [faultRec_congr hflt]
    exact faultRec_enterLockout_ne _ _ _ _ h
  · exact faultRec_congr (openingOf_place_kept w s hF).2.2 e

@[simp] theorem openingOf_marks (w : WindowRec) (s : State) :
    (openingOf w s).flt.supply = s.flt.supply ∧ (openingOf w s).flt.axisMark = s.flt.axisMark := by
  rcases Nat.lt_or_ge (cursorAfter w s.pcu.cursor).n s.drg.F with hF | hF
  · rw [openingOf_rebased w s hF]
    simp [rebase, enterLockout]
  · simp [(openingOf_place_kept w s hF).2.2]

/-- R106: the needle table with its pending changes applied. -/
theorem applyPendingNeedles_entry (u : SelectorUnit) (i : Fin 15) :
    (applyPendingNeedles u).pendingNeedles[i] = ⟨none, false⟩ ∧
    (applyPendingNeedles u).needles[i] =
      if u.pendingNeedles[i].clear then ⟨u.pendingNeedles[i].state.getD u.needles[i].state, 0, 0, 0⟩
      else { u.needles[i] with state := u.pendingNeedles[i].state.getD u.needles[i].state } := by
  refine ⟨by simp [applyPendingNeedles], ?_⟩
  have h : (applyPendingNeedles u).needles[i] = applyPendingNeedle u.needles[i] u.pendingNeedles[i] := by
    simp [applyPendingNeedles]
  rw [h]
  rfl

end Sys2Proof.Machine

namespace Sys2Proof.Machine

/-! ### What the work of a window leaves alone (R25, R107, R118, R124) -/

/-- The items that no work of a window changes: the head's participation and marks, the needle table, the loader's record. -/
structure WorkKeeps (s u : State) : Prop where
  participation : u.stu.participation = s.stu.participation
  pendingPart : u.stu.pendingPart = s.stu.pendingPart
  covered : u.stu.C = s.stu.C
  tail : u.stu.tail = s.stu.tail
  needles : u.slu.needles = s.slu.needles
  pendingNeedles : u.slu.pendingNeedles = s.slu.pendingNeedles
  lockout : faultRec .loadLockout u = faultRec .loadLockout s
  supply : u.flt.supply = s.flt.supply
  axisMark : u.flt.axisMark = s.flt.axisMark

theorem WorkKeeps.refl (s : State) : WorkKeeps s s := ⟨rfl, rfl, rfl, rfl, rfl, rfl, rfl, rfl, rfl⟩

theorem WorkKeeps.trans {s t u : State} (h : WorkKeeps s t) (h' : WorkKeeps t u) : WorkKeeps s u :=
  ⟨h'.1.trans h.1, h'.2.trans h.2, h'.3.trans h.3, h'.4.trans h.4, h'.5.trans h.5, h'.6.trans h.6, h'.7.trans h.7,
    h'.8.trans h.8, h'.9.trans h.9⟩

theorem workKeeps_raise (c : FaultCode) (d1 d2 : Byte) (s : State) (h : c ≠ .loadLockout) :
    WorkKeeps s (raise c d1 d2 s) := by
  refine ⟨?_, ?_, ?_, ?_, ?_, ?_, faultRec_raise_ne c _ d1 d2 s h.symm, ?_, ?_⟩ <;> simp

theorem workKeeps_jam (target : Nat) (s : State) : WorkKeeps s (jam target s) := by
  unfold jam
  refine ⟨?_, ?_, ?_, ?_, ?_, ?_, faultRec_raise_ne .selectorJam .loadLockout _ _ _ (by simp), ?_, ?_⟩ <;> simp

theorem workKeeps_startMove (p : Nat) (lines : CodeLines) (s : State) : WorkKeeps s (startMove p lines s) := by
  unfold startMove
  dsimp only
  split
  · split
    · exact ⟨rfl, rfl, rfl, rfl, rfl, rfl, rfl, rfl, rfl⟩
    · exact ⟨rfl, rfl, rfl, rfl, rfl, rfl, rfl, rfl, rfl⟩
  · split
    · split
      · exact ⟨rfl, rfl, rfl, rfl, rfl, rfl, rfl, rfl, rfl⟩
      · exact ⟨rfl, rfl, rfl, rfl, rfl, rfl, rfl, rfl, rfl⟩
    · exact WorkKeeps.trans (t := { s with slu := { s.slu with reMoved := false, lastCode := none, stepPulses := 0 } })
        ⟨rfl, rfl, rfl, rfl, rfl, rfl, rfl, rfl, rfl⟩ (workKeeps_jam p _)
  · exact .refl s
  · exact .refl s
  · exact .refl s

theorem workKeeps_fireTrim (s : State) : WorkKeeps s (fireTrim s) := by
  unfold fireTrim
  split
  · exact .refl s
  · exact ⟨rfl, rfl, rfl, rfl, rfl, rfl, rfl, rfl, rfl⟩

theorem workKeeps_trimThenSelect (colour : Nat) (lines : CodeLines) (s : State) :
    WorkKeeps s (trimThenSelect colour lines s) := by
  unfold trimThenSelect windowSelect
  split
  · exact workKeeps_fireTrim s
  · dsimp only
    split
    · exact workKeeps_startMove _ _ _
    · exact workKeeps_raise _ _ _ _ (by simp)

theorem workKeeps_strokeWork (n : Nat) (r : Rec) (s : State) : WorkKeeps s (strokeWork n r s) := by
  unfold strokeWork
  dsimp only
  split
  · split
    · exact ⟨rfl, rfl, rfl, rfl, rfl, rfl, rfl, rfl, rfl⟩
    · exact workKeeps_raise _ _ _ _ (by simp)
  · exact .refl s

theorem workKeeps_headWork (lines : CodeLines) (w : WindowRec) (s : State) : WorkKeeps s (headWork lines w s) := by
  unfold headWork
  split
  · exact workKeeps_trimThenSelect _ _ _
  · exact workKeeps_trimThenSelect _ _ _
  · split
    · exact workKeeps_fireTrim s
    · exact .refl s
  · exact workKeeps_strokeWork _ _ _
  · exact .refl s
  · exact .refl s
  · exact .refl s

/-- R94, R95: the limit fault of a clamped move, where the window has one. -/
def clampFault (pcRaw : Int) (fault : Option FaultCode) (s : State) : State :=
  match fault with
  | some c =>
    if clampPos s.params (satPc pcRaw) ≠ satPc pcRaw then limitFault c (satPc pcRaw) (clampPos s.params (satPc pcRaw)) s else s
  | none => s

theorem windowMove_flt (pcRaw : Int) (base : Nat) (fault : Option FaultCode) (s : State) :
    (windowMove pcRaw base fault s).flt = (clampFault pcRaw fault s).flt := by
  unfold windowMove clampFault
  dsimp only
  cases fault with
  | none =>
    dsimp only
    split <;> simp
  | some c =>
    dsimp only
    by_cases hpt : clampPos s.params (satPc pcRaw) = satPc pcRaw
    · rw [if_neg (not_not.2 hpt), if_neg (not_not.2 hpt)]
      split <;> simp
    · rw [if_pos hpt, if_pos hpt]
      split
      · simp
        rfl
      · rfl

/-- R88 to R93: the axis unit at a window move. -/
theorem windowMove_axu (pcRaw : Int) (base : Nat) (fault : Option FaultCode) (s : State) :
    (windowMove pcRaw base fault s).axu =
      let pc := satPc pcRaw
      let pt := clampPos s.params pc
      let st := toSteps s.params pt
      let d := st - s.axu.sPos
      if d = 0 then { s.axu with sPos := st, pf := pt, pc := pc, move := none, excursion := false, clampFlag := decide (pt ≠ pc) }
      else { s.axu with
        clampFlag := decide (pt ≠ pc), dir := some (dirOf d)
        move := some ⟨pc, pt, st, d, moveDuration s.params base s.axu.excursion d, 0⟩ } := by
  unfold windowMove
  dsimp only
  cases fault with
  | none =>
    dsimp only
    split <;> simp [endMove]
  | some c =>
    dsimp only
    by_cases hpt : clampPos s.params (satPc pcRaw) = satPc pcRaw
    · rw [if_neg (not_not.2 hpt)]
      split <;> simp [endMove]
    · rw [if_pos hpt]
      split <;> simp [endMove]

theorem workKeeps_windowMove (pcRaw : Int) (base : Nat) (fault : Option FaultCode) (s : State)
    (hf : fault ≠ some .loadLockout) : WorkKeeps s (windowMove pcRaw base fault s) := by
  have hflt := windowMove_flt pcRaw base fault s
  have hclamp : faultRec .loadLockout (clampFault pcRaw fault s) = faultRec .loadLockout s ∧
      (clampFault pcRaw fault s).flt.supply = s.flt.supply ∧ (clampFault pcRaw fault s).flt.axisMark = s.flt.axisMark := by
    unfold clampFault
    split
    · split
      · exact ⟨faultRec_raise_ne _ _ _ _ _ fun h => hf (congrArg some h.symm), rfl, rfl⟩
      · exact ⟨rfl, rfl, rfl⟩
    · exact ⟨rfl, rfl, rfl⟩
  obtain ⟨hrec, hsupply, hmark⟩ := hclamp
  refine ⟨?_, ?_, ?_, ?_, ?_, ?_, (faultRec_congr hflt _).trans hrec, by rw [hflt, hsupply], by rw [hflt, hmark]⟩ <;> simp

theorem workKeeps_axisWork (w : WindowRec) (s : State) : WorkKeeps s (axisWork w s) := by
  have hf : ∀ r, some (moveFault r) ≠ some FaultCode.loadLockout := fun r => by
    unfold moveFault
    split <;> simp
  unfold axisWork
  dsimp only
  split
  · exact workKeeps_windowMove _ _ _ _ (hf _)
  · exact workKeeps_windowMove _ _ _ _ (by simp)
  · exact workKeeps_windowMove _ _ _ _ (by simp)
  · exact workKeeps_windowMove _ _ _ _ (by simp)
  · exact .refl s
  · exact .refl s
  · exact .refl s

theorem workKeeps_startWork (lines : CodeLines) (w : WindowRec) (s : State) : WorkKeeps s (startWork lines w s) := by
  unfold startWork
  split
  · exact workKeeps_headWork lines w s
  · exact workKeeps_axisWork w s

/-! ### A crossing opens the next window (R20, R22, R23) -/

theorem cursorAfter_eq (w : WindowRec) (c : Cursor) :
    (w.kind = .prepare → cursorAfter w c = c) ∧
    (∀ n, w.kind = .move n → cursorAfter w c = if isStitch w.copy then ⟨c.n, .stroke⟩ else ⟨c.n + 1, .first⟩) ∧
    (∀ n, w.kind = .stroke n ∨ w.kind = .trim n ∨ w.kind = .change n → cursorAfter w c = ⟨c.n + 1, .first⟩) ∧
    (∀ n, w.kind = .retreat n → cursorAfter w c = ⟨n - 1, .first⟩) ∧
    (∀ n, w.kind = .advance n → cursorAfter w c = if isStitch w.copy then ⟨n, .stroke⟩ else ⟨n + 1, .first⟩) := by
  unfold cursorAfter
  refine ⟨fun h => by rw [h], fun n h => by rw [h]; rfl, fun n h => ?_, fun n h => by rw [h]; rfl, fun n h => by rw [h]; rfl⟩
  rcases h with h | h | h <;> rw [h] <;> rfl

theorem takesRate_iff (k : Window) : takesRate k = true ↔ ∃ n, k = .move n ∨ k = .stroke n := by
  cases k <;> simp [takesRate]

theorem openWindow_head (lines : CodeLines) (w : WindowRec) (s : State) (hh : isHead s = true) :
    openWindow lines w s = headWork lines w (openingOf w s) := by
  have hh' : isHead (openingOf w s) = true := by simpa [isHead, openingOf] using hh
  rw [openWindow_eq, startWork, if_pos hh']

theorem openWindow_axis (lines : CodeLines) (w : WindowRec) (s : State) (hh : isHead s = false) :
    openWindow lines w s = axisWork w (openingOf w s) := by
  have hh' : ¬ isHead (openingOf w s) = true := by simpa [isHead, openingOf] using hh
  rw [openWindow_eq, startWork, if_neg hh']

/-- Settles O37: the pace unit by its own rule, the other blocks by the opening and by what no work changes. -/
theorem crossingOpensTheNextWindow : Obligations.CrossingOpensTheNextWindow := by
  refine ⟨fun lines w s hi hr ha hn => ?_, exec_crossing_idle⟩
  have hpcu := openWindow_pcu lines w s
  have hcur : (openWindow lines w s).pcu.cursor = cursorAfter w s.pcu.cursor := by rw [hpcu]
  have hrate : (openWindow lines w s).pcu.workRate = if takesRate w.kind then s.pcu.setRate else s.pcu.workRate := by
    rw [hpcu]
  have hwork : WorkKeeps (openingOf w s) (openWindow lines w s) := workKeeps_startWork lines w (openingOf w s)
  obtain ⟨hprep, hmove, hstroke, hretreat, hadvance⟩ := cursorAfter_eq w s.pcu.cursor
  have hdrg : (openWindow lines w s).drg = (openingOf w s).drg := by simp [openWindow_eq]
  have hdld : (openWindow lines w s).dld = (openingOf w s).dld := by simp [openWindow_eq]
  have hframe := openingOf_frame w s
  refine ⟨_, exec_crossing lines w s hi hr ha hn, ?_, ?_, ?_, ?_, ?_, ?_, ?_, fun n h => ?_, fun h => ?_, ?_, fun hF => ?_,
    fun hF => ?_, ?_, fun i => ?_, fun hh => ?_, fun hh => ?_, ?_⟩
  · rw [hwork.axisMark, (openingOf_marks w s).2]
  · rw [hwork.supply, (openingOf_marks w s).1]
  · rwa [hcur]
  · rwa [hcur]
  · rwa [hcur]
  · rwa [hcur]
  · rwa [hcur]
  · rw [hrate, if_pos ((takesRate_iff _).2 ⟨n, h⟩)]
  · rw [hrate, if_neg fun ht => ?_]
    obtain ⟨n, hn⟩ := (takesRate_iff _).1 ht
    rcases hn with hn | hn
    · exact (h n).1 hn
    · exact (h n).2 hn
  · rw [hrate, hcur, hpcu]
  · rw [hcur] at hF ⊢
    obtain ⟨hd, hl, -⟩ := openingOf_place_kept w s hF
    exact ⟨hdrg.trans hd, hdld.trans hl⟩
  · rw [hcur] at hF ⊢
    obtain ⟨hd, hl, hrec⟩ := openingOf_place_rebased w s hF
    exact ⟨hdrg.trans hd, hdld.trans hl, hwork.lockout.trans hrec⟩
  · rw [hwork.participation, hwork.pendingPart, hwork.covered, hwork.tail, hframe]
    exact ⟨rfl, rfl, rfl, rfl⟩
  · rw [hwork.needles, hwork.pendingNeedles, hframe]
    exact applyPendingNeedles_entry s.slu i
  · have haxu : (openingOf w s).axu = s.axu := by rw [hframe]
    rw [openWindow_head lines w s hh]
    simpa using haxu
  · rw [openWindow_axis lines w s hh, hframe]
    simp [applyPendingNeedles]
  · ext1 <;> simp

end Sys2Proof.Machine

namespace Sys2Proof.Machine

/-! ### The stroke decision (R124, R125) -/

/-- R124: with all four conditions the stroke begins. -/
theorem strokeWork_strokes (n : Nat) (r : Rec) (t : State) (h : t.stu.participation = .enabled ∧ t.stu.C ≤ n)
    (hp : needleInPlace (mapNeedle (colorAtN t) t) t = true) :
    strokeWork n r t = startStroke n (mapNeedle (colorAtN t) t) r t := by
  simp [strokeWork, h, hp]

/-- R125: with the needle alone in the way NEEDLE-UNMAPPED is raised. -/
theorem strokeWork_unmapped (n : Nat) (r : Rec) (t : State) (h : t.stu.participation = .enabled ∧ t.stu.C ≤ n)
    (hp : ¬ needleInPlace (mapNeedle (colorAtN t) t) t = true) :
    strokeWork n r t =
      raise .needleUnmapped (BitVec.ofNat 8 (colorAtN t)) (BitVec.ofNat 8 (mapNeedle (colorAtN t) t)) t := by
  simp [strokeWork, h, hp]

theorem strokeWork_rides (n : Nat) (r : Rec) (t : State) (h : ¬ (t.stu.participation = .enabled ∧ t.stu.C ≤ n)) :
    strokeWork n r t = t := if_neg h

theorem needleInPlace_iff (m : Nat) (t : State) :
    needleInPlace m t = true ↔ m ≠ 0 ∧ (needleEntry m t).state = .ready ∧ t.slu.sel = .settled m := by
  simp [needleInPlace, needleUsable, and_assoc]

/-- Settles O38: the three outcomes of the stroke decision, over the opening's station. -/
theorem strokeOrRideAtAStrokeWindow : Obligations.StrokeOrRideAtAStrokeWindow := by
  intro lines n r s hi hh hr ha hn hF
  have hu : openWindow lines ⟨.stroke n, r⟩ s = strokeWork n r (openingOf ⟨.stroke n, r⟩ s) :=
    openWindow_head lines _ s hh
  refine ⟨_, (exec_crossing lines _ s hi hr ha hn).trans (congrArg _ hu), ?_⟩
  have hflt : (openingOf ⟨.stroke n, r⟩ s).flt = s.flt :=
    (openingOf_place_kept ⟨.stroke n, r⟩ s (Nat.le_succ_of_le hF)).2.2
  have hrate : (openingOf ⟨.stroke n, r⟩ s).pcu.workRate = s.pcu.setRate := by
    rw [openingOf_pcu lines, openWindow_pcu]
    rfl
  have hframe := openingOf_frame ⟨.stroke n, r⟩ s
  generalize openingOf ⟨.stroke n, r⟩ s = t at hflt hrate hframe ⊢
  have hslu : t.slu = applyPendingNeedles s.slu := by rw [hframe]
  have hstu : t.stu = { s.stu with participation := s.stu.pendingPart.getD s.stu.participation, pendingPart := none } := by
    rw [hframe]
  have hthm : t.thm = s.thm := by rw [hframe]
  have hps : t.params = s.params := by rw [hframe]
  have hmap : ∀ k, mapNeedle k s = mapNeedle k t := fun k => by
    simp [mapNeedle, hslu, hps, applyPendingNeedles]
  have hkeep := workKeeps_strokeWork n r t
  have hcolour : colorInForce (strokeWork n r t).drg (strokeWork n r t).pcu.cursor.n = colorAtN t := by simp [colorAtN]
  have hentry : ∀ m, needleEntry m (strokeWork n r t) = needleEntry m t := fun m => by simp [needleEntry]
  have hsel : t.slu.sel = s.slu.sel := by rw [hslu]; rfl
  have hC : t.stu.C = s.stu.C := by rw [hstu]
  refine ⟨by simp [hslu, applyPendingNeedles], ?_⟩
  rw [hkeep.participation, hcolour, hmap, hentry, ← hsel, ← hC]
  by_cases h : t.stu.participation = .enabled ∧ t.stu.C ≤ n
  · rw [if_pos h]
    by_cases hp : needleInPlace (mapNeedle (colorAtN t) t) t = true
    · rw [if_pos ((needleInPlace_iff _ t).1 hp), strokeWork_strokes n r t h hp]
      have hpart : s.stu.pendingPart.getD s.stu.participation = .enabled := by rw [hstu] at h; exact h.1
      refine ⟨by simpa using hflt, ?_, ?_, rfl⟩
      · simp [startStroke, hthm]
      · simp [startStroke, hstu, hpart, hrate, hps, strokeTime, moveTime, stitchPeriod, tensMsUs]
    · rw [if_neg fun hc => hp ((needleInPlace_iff _ t).2 hc), strokeWork_unmapped n r t h hp]
      have hpart : s.stu.pendingPart.getD s.stu.participation = .enabled := by rw [hstu] at h; exact h.1
      have hrec : ∀ c, faultRec c t = faultRec c s := faultRec_congr hflt
      refine ⟨?_, fun c hc => ?_, by simp [hflt], by simp [hflt], by simp [hthm], by simp [hstu, hpart]⟩
      · rw [raisedIn, faultRec_raise_self, hrec]
      · rw [faultRec_raise_ne _ _ _ _ _ hc, hrec]
  · rw [if_neg h, strokeWork_rides n r t h]
    exact ⟨hflt, hthm, by rw [hstu]⟩

end Sys2Proof.Machine

namespace Sys2Proof.Machine

/-! ### The work of a window at an axis (R88 to R95) -/

/-- R88 to R93: the axis unit at a window move, in the words of the statements. -/
theorem windowMove_axu_of {pcRaw pc pt st d : Int} (base : Nat) (fault : Option FaultCode) (t : State)
    (hpc : max (-1000000000) (min pcRaw 1000000000) = pc) (hpt : min t.params.lmax (max pc t.params.lmin) = pt)
    (hst : pt * t.params.p / 100 = st) (hd : st - t.axu.sPos = d) :
    (windowMove pcRaw base fault t).axu =
      if d = 0 then { t.axu with sPos := st, pf := pt, pc := pc, move := none, excursion := false, clampFlag := decide (pt ≠ pc) }
      else { t.axu with
        clampFlag := decide (pt ≠ pc), dir := some (if d < 0 then .negative else .positive)
        move := some ⟨pc, pt, st, d, max base (max ((d.natAbs * 1000 + t.params.vmax - 1) / t.params.vmax)
          (if t.axu.excursion then (d.natAbs * 1000 + t.params.homeRate - 1) / t.params.homeRate else 0)), 0⟩ } := by
  subst hpc hpt hst hd
  exact windowMove_axu pcRaw base fault t

/-- R94, R95: the fault of a clamped MOVE. -/
theorem windowMove_clamped {pcRaw pc pt : Int} (base : Nat) (c : FaultCode) (t : State)
    (hpc : max (-1000000000) (min pcRaw 1000000000) = pc) (hpt : min t.params.lmax (max pc t.params.lmin) = pt) :
    (windowMove pcRaw base (some c) t).flt = if pt = pc then t.flt
      else (raise c (if pt < pc then 1 else 2) (octetSat (pc - pt).natAbs) t).flt := by
  subst hpc hpt
  rw [windowMove_flt, clampFault]
  split
  · rename_i h
    exact (if_neg h).symm
  · rename_i h
    exact (if_pos (not_not.1 h)).symm

theorem windowMove_unclamped (pcRaw : Int) (base : Nat) (t : State) : (windowMove pcRaw base none t).flt = t.flt :=
  windowMove_flt pcRaw base none t

section
variable {lines : CodeLines} {w : WindowRec} {s : State} (hi : inService s = true) (hx : isAxis s = true)
  (hr : s.pcu.win = .ready) (ha : s.pcu.armed = true) (hn : s.pcu.next = some w)
include hi hx hr ha hn

theorem exec_crossing_axis : exec (.crossing lines) s = .next (axisWork w (openingOf w s)) := by
  rw [exec_crossing lines w s hi hr ha hn, openWindow_axis lines w s (isHead_eq_false_of_isAxis hx)]

end

theorem openingOf_axis (w : WindowRec) (s : State) :
    (openingOf w s).axu = s.axu ∧ (openingOf w s).params = s.params ∧ (openingOf w s).role = s.role := by
  rw [openingOf_frame]
  exact ⟨rfl, rfl, rfl⟩

/-- R23: MOVE, PREPARE and the windows of rest leave the cursor where it is or move it on. -/
theorem cursor_le_cursorAfter (w : WindowRec) (c : Cursor)
    (h : restsAxis w.kind = true ∨ w.kind = .prepare ∨ ∃ n, w.kind = .move n) : c.n ≤ (cursorAfter w c).n := by
  obtain ⟨hprep, hmove, hstroke, -, -⟩ := cursorAfter_eq w c
  rcases h with h | h | ⟨n, h⟩
  · have hk : ∃ n, w.kind = .stroke n ∨ w.kind = .trim n ∨ w.kind = .change n := by
      cases hk : w.kind <;> simp_all [restsAxis]
    obtain ⟨n, hk⟩ := hk
    simp [hstroke n hk]
  · simp [hprep h]
  · rw [hmove n h]
    split <;> simp

/-- R88 to R93: what a window move makes of the axis unit at an opening. -/
theorem windowMove_openingOf {s : State} {pcRaw pc pt st d : Int} (w : WindowRec) (base : Nat) (fault : Option FaultCode)
    (hpc : max (-1000000000) (min pcRaw 1000000000) = pc) (hpt : min s.params.lmax (max pc s.params.lmin) = pt)
    (hst : pt * s.params.p / 100 = st) (hd : st - s.axu.sPos = d) :
    (windowMove pcRaw base fault (openingOf w s)).axu =
      if d = 0 then { s.axu with sPos := st, pf := pt, pc := pc, move := none, excursion := false, clampFlag := decide (pt ≠ pc) }
      else { s.axu with
        clampFlag := decide (pt ≠ pc), dir := some (if d < 0 then .negative else .positive)
        move := some ⟨pc, pt, st, d, max base (max ((d.natAbs * 1000 + s.params.vmax - 1) / s.params.vmax)
          (if s.axu.excursion then (d.natAbs * 1000 + s.params.homeRate - 1) / s.params.homeRate else 0)), 0⟩ } := by
  obtain ⟨haxu, hps, -⟩ := openingOf_axis w s
  have h := windowMove_axu_of (pt := pt) (st := st) (d := d) base fault (openingOf w s) hpc (by rwa [hps])
    (by rwa [hps]) (by rwa [haxu])
  rwa [haxu, hps] at h

/-- R95: no window but MOVE raises a fault of the axis; a cursor below F raises LOAD-LOCKOUT. -/
theorem windowMove_openingOf_faults (s : State) (w : WindowRec) (pcRaw : Int) (base : Nat) :
    let u := windowMove pcRaw base none (openingOf w s)
    u.flt.axisMark = s.flt.axisMark ∧ u.flt.supply = s.flt.supply ∧ (s.drg.F ≤ u.pcu.cursor.n → u.flt = s.flt) ∧
    ∀ c : FaultCode, c ≠ .loadLockout → faultRec c u = faultRec c s := by
  have hflt := windowMove_unclamped pcRaw base (openingOf w s)
  refine ⟨?_, ?_, fun hF => ?_, fun c hc => ?_⟩
  · rw [hflt, (openingOf_marks w s).2]
  · rw [hflt, (openingOf_marks w s).1]
  · rw [hflt, (openingOf_place_kept w s ?_).2.2]
    rwa [← openingOf_cursor, ← (windowMove_keeps pcRaw base none (openingOf w s)).2.2.2.2.2.2.2.2.2.1]
  · rw [faultRec_congr hflt, faultRec_openingOf_ne w s c hc]

/-- Settles O39: each window's work is one window move, or none, over the opening's station. -/
theorem windowMovesOfAnAxis : Obligations.WindowMovesOfAnAxis := by
  refine ⟨fun lines n r pc pt st d s hi hx hr ha hn hF hpc hpt hst hd => ?_,
    fun lines n r pc pt st d s hi hx hr ha hn hpc hpt hst hd => ?_,
    fun lines n r pc pt st d s hi hx hr ha hn hpc hpt hst hd => ?_,
    fun lines r pc pt st d s hi hx hr ha hn hF hpc hpt hst hd => ?_,
    fun lines w s hi hr ha hn hx hrest hF => ?_⟩
  · have hle := Nat.le_trans hF (cursor_le_cursorAfter ⟨.move n, r⟩ s.pcu.cursor (.inr (.inr ⟨n, rfl⟩)))
    have hflt := (openingOf_place_kept _ s hle).2.2
    obtain ⟨haxu, hps, hrole⟩ := openingOf_axis ⟨.move n, r⟩ s
    have hrate : (openingOf ⟨.move n, r⟩ s).pcu.workRate = s.pcu.setRate := by
      rw [openingOf_pcu lines, openWindow_pcu]
      rfl
    have hwork : axisWork ⟨.move n, r⟩ (openingOf ⟨.move n, r⟩ s) =
        windowMove (s.axu.pc + displacement s.role r) (60000000 / s.pcu.setRate * s.params.moveShare / 16)
          (some (moveFault r)) (openingOf ⟨.move n, r⟩ s) := by
      rw [← haxu, ← hps, ← hrole, ← hrate]
      rfl
    refine ⟨_, (exec_crossing_axis hi hx hr ha hn).trans (congrArg _ hwork),
      windowMove_openingOf _ _ _ hpc hpt hst hd, ?_⟩
    have hclamp := windowMove_clamped (pt := pt) (60000000 / s.pcu.setRate * s.params.moveShare / 16) (moveFault r)
      (openingOf ⟨.move n, r⟩ s) hpc (by rwa [hps])
    by_cases hc : pt = pc
    · rw [if_pos hc, hclamp, if_pos hc, hflt]
    · rw [if_neg hc]
      rw [if_neg hc] at hclamp
      have hrec : ∀ c, faultRec c (openingOf ⟨.move n, r⟩ s) = faultRec c s := faultRec_congr hflt
      refine ⟨?_, fun c hne => ?_, by simp [hclamp, hflt], by simp [hclamp, hflt]⟩
      · rw [raisedIn, faultRec_congr hclamp, ← hrec]
        exact faultRec_raise_self _ _ _ _
      · rw [faultRec_congr hclamp, ← hrec]
        exact faultRec_raise_ne _ _ _ _ _ hne
  · obtain ⟨haxu, hps, hrole⟩ := openingOf_axis ⟨.advance n, r⟩ s
    have hwork : axisWork ⟨.advance n, r⟩ (openingOf ⟨.advance n, r⟩ s) =
        windowMove (s.axu.pc + displacement s.role r) (60000000 / s.params.traverseRate) none
          (openingOf ⟨.advance n, r⟩ s) := by
      rw [← haxu, ← hps, ← hrole]
      rfl
    obtain ⟨hmark, hsupply, hkept, hrec⟩ := windowMove_openingOf_faults s ⟨.advance n, r⟩
      (s.axu.pc + displacement s.role r) (60000000 / s.params.traverseRate)
    exact ⟨_, (exec_crossing_axis hi hx hr ha hn).trans (congrArg _ hwork), hmark, hsupply,
      windowMove_openingOf _ _ _ hpc hpt hst hd, hkept, hrec⟩
  · obtain ⟨haxu, hps, hrole⟩ := openingOf_axis ⟨.retreat n, r⟩ s
    have hwork : axisWork ⟨.retreat n, r⟩ (openingOf ⟨.retreat n, r⟩ s) =
        windowMove (s.axu.pc - displacement s.role r) (60000000 / s.params.traverseRate) none
          (openingOf ⟨.retreat n, r⟩ s) := by
      rw [← haxu, ← hps, ← hrole]
      rfl
    obtain ⟨hmark, hsupply, hkept, hrec⟩ := windowMove_openingOf_faults s ⟨.retreat n, r⟩
      (s.axu.pc - displacement s.role r) (60000000 / s.params.traverseRate)
    exact ⟨_, (exec_crossing_axis hi hx hr ha hn).trans (congrArg _ hwork), hmark, hsupply,
      windowMove_openingOf _ _ _ hpc hpt hst hd, hkept, hrec⟩
  · have hflt := (openingOf_place_kept ⟨.prepare, r⟩ s hF).2.2
    obtain ⟨haxu, hps, -⟩ := openingOf_axis ⟨.prepare, r⟩ s
    have hwork : axisWork ⟨.prepare, r⟩ (openingOf ⟨.prepare, r⟩ s) =
        windowMove s.axu.pc (60000000 / s.params.traverseRate) none (openingOf ⟨.prepare, r⟩ s) := by
      rw [← haxu, ← hps]
      rfl
    exact ⟨_, (exec_crossing_axis hi hx hr ha hn).trans (congrArg _ hwork), windowMove_openingOf _ _ _ hpc hpt hst hd,
      (windowMove_unclamped _ _ _).trans hflt⟩
  · have hrests : axisWork w (openingOf w s) = openingOf w s := by
      unfold axisWork
      cases hk : w.kind <;> simp_all [restsAxis]
    have hle := Nat.le_trans hF (cursor_le_cursorAfter w s.pcu.cursor (.inl hrest))
    exact ⟨_, (exec_crossing_axis hi hx hr ha hn).trans (congrArg _ hrests), (openingOf_axis w s).1,
      (openingOf_place_kept w s hle).2.2⟩

end Sys2Proof.Machine

namespace Sys2Proof.Machine

/-! ### Octets read back (Layouts, R187) -/

theorem be16_octets2 (n : Nat) (h : n < 65536) : be16 (BitVec.ofNat 8 (n / 256)) (BitVec.ofNat 8 n) = n := by
  simp only [be16, BitVec.toNat_ofNat]
  omega

theorem be24_octets3 (n : Nat) (h : n < 16777216) :
    be24 (BitVec.ofNat 8 (n / 65536)) (BitVec.ofNat 8 (n / 256)) (BitVec.ofNat 8 n) = n := by
  simp only [be24, be16, BitVec.toNat_ofNat]
  omega

theorem be32_octets4 (n : Nat) (h : n < 4294967296) :
    be32 (BitVec.ofNat 8 (n / 16777216)) (BitVec.ofNat 8 (n / 65536)) (BitVec.ofNat 8 (n / 256)) (BitVec.ofNat 8 n) = n := by
  simp only [be32, be24, be16, BitVec.toNat_ofNat]
  omega

theorem signed16_signedOctets2 (x : Int) (hlow : -32768 ≤ x) (hhigh : x ≤ 32767) :
    signed16 (BitVec.ofNat 8 ((BitVec.ofInt 16 x).toNat / 256)) (BitVec.ofNat 8 (BitVec.ofInt 16 x).toNat) = x := by
  have hlt : (BitVec.ofInt 16 x).toNat < 65536 := (BitVec.ofInt 16 x).isLt
  rw [signed16, be16_octets2 _ hlt, BitVec.ofNat_toNat, BitVec.setWidth_eq, BitVec.toInt_ofInt]
  exact Int.bmod_eq_of_le (by omega) (by omega)

theorem roleOfCode_roleCode (r : Role) : roleOfCode (roleCode r) = some r := by cases r <;> rfl

theorem runOfCode_runCode (r : RunState) : runOfCode (runCode r) = some r := by cases r <;> rfl

theorem stepOfCode_stepOctet (x : Step) : stepOfCode (stepOctet x) = some x := by cases x <;> rfl

theorem flagOf_flagOctet (b : Bool) : flagOf (flagOctet b) = some b := by cases b <;> rfl

/-! ### The halt-request set as a sum of bits (R164, R187) -/

/-- The number whose bits, lowest first, are these. -/
def bitsValue : List Bool → Nat
  | [] => 0
  | b :: bs => Nat.bit b (bitsValue bs)

/-- The sum of the powers of two of these bits, the first of weight `2 ^ m`. -/
def bitsSum : Nat → List Bool → Nat
  | _, [] => 0
  | m, b :: bs => (if b then 2 ^ m else 0) + bitsSum (m + 1) bs

theorem bitsSum_eq (m : Nat) (bs : List Bool) : bitsSum m bs = 2 ^ m * bitsValue bs := by
  induction bs generalizing m with
  | nil => rfl
  | cons b bs ih =>
    rw [bitsSum, ih, bitsValue, Nat.pow_succ]
    cases b <;> simp [Nat.bit] <;> ring

theorem bitsSum_append (m : Nat) (as bs : List Bool) : bitsSum m (as ++ bs) = bitsSum m as + bitsSum (m + as.length) bs := by
  induction as generalizing m with
  | nil => simp [bitsSum]
  | cons a as ih =>
    rw [List.cons_append, bitsSum, ih, bitsSum, List.length_cons, Nat.add_assoc, Nat.add_assoc, Nat.add_comm 1]

theorem testBit_bitsValue (bs : List Bool) (k : Nat) : (bitsValue bs).testBit k = bs.getD k false := by
  induction bs generalizing k with
  | nil => simp [bitsValue]
  | cons b bs ih =>
    cases k with
    | zero => simp [bitsValue]
    | succ k => exact (Nat.testBit_bit_succ k b (bitsValue bs)).trans (ih k)

theorem bitsValue_lt (bs : List Bool) : bitsValue bs < 2 ^ bs.length := by
  induction bs with
  | nil => simp [bitsValue]
  | cons b bs ih =>
    rw [bitsValue, List.length_cons, Nat.pow_succ]
    cases b <;> simp [Nat.bit] <;> omega

/-- R187: the bits of the halt-request set, lowest first: none at 0, the 25 faults, the HALT pulse and JOINING. -/
def haltBits (s : State) : List Bool :=
  false :: (allFaults.map (fun c => countsToHalt c s) ++ [isRunning s.pcu.haltPulse, s.pcu.run == .joining])

theorem haltSet_eq (s : State) : haltSet s = bitsValue (haltBits s) := by
  have hfaults : (allFaults.map fun c => if countsToHalt c s then 2 ^ faultNumber c else 0).sum =
      bitsSum 1 (allFaults.map fun c => countsToHalt c s) := rfl
  have hvalue : bitsValue (haltBits s) = bitsSum 0 (haltBits s) := by simp [bitsSum_eq]
  rw [haltSet, hfaults, hvalue, haltBits, bitsSum, bitsSum_append]
  simp [bitsSum, allFaults]
  omega

theorem haltSet_lt (s : State) : haltSet s < 4294967296 := by
  have h := bitsValue_lt (haltBits s)
  rw [← haltSet_eq] at h
  exact Nat.lt_trans h (by simp [haltBits, allFaults])

theorem testBit_haltSet_fault (c : FaultCode) (s : State) : (haltSet s).testBit (faultNumber c) = countsToHalt c s := by
  rw [haltSet_eq, testBit_bitsValue]
  cases c <;> rfl

theorem testBit_haltSet_pulse (s : State) : (haltSet s).testBit 26 = isRunning s.pcu.haltPulse := by
  rw [haltSet_eq, testBit_bitsValue]
  rfl

theorem testBit_haltSet_joining (s : State) : (haltSet s).testBit 27 = (s.pcu.run == .joining) := by
  rw [haltSet_eq, testBit_bitsValue]
  rfl

theorem haltRequest_iff (s : State) :
    haltRequest s = true ↔ (∃ c, countsToHalt c s = true) ∨ isRunning s.pcu.haltPulse = true ∨ s.pcu.run = .joining ∨
      s.pcu.run = .cut ∨ s.role = none := by
  simp [haltRequest, mem_allFaults, or_assoc]

theorem withholdable_iff (c : FaultCode) :
    withholdable c = true ↔ c ∈ [FaultCode.driveFail, .selectorJam, .needleUnmapped, .threadBreak, .threadSnag, .bobbinEmpty,
      .tensionLoose, .tensionTight, .bobbinLow] := by
  cases c <;> decide

theorem countsToHalt_iff (c : FaultCode) (s : State) :
    countsToHalt c s = true ↔
      (faultRec c s).latched = true ∧ ((faultRec c s).action = .halt ∨ (c = .peerLost ∧ s.flt.axisMark = true)) ∧
        ¬ (s.role = some .head ∧ s.stu.pendingPart.getD s.stu.participation = .off ∧
          c ∈ [FaultCode.driveFail, .selectorJam, .needleUnmapped, .threadBreak, .threadSnag, .bobbinEmpty, .tensionLoose,
            .tensionTight, .bobbinLow]) := by
  have hw : withheld c s = true ↔ s.role = some .head ∧ s.stu.pendingPart.getD s.stu.participation = .off ∧
      withholdable c = true := by
    simp [withheld, isHead, withholdingPart]
    tauto
  rw [← withholdable_iff, ← hw]
  simp [countsToHalt, and_assoc]

end Sys2Proof.Machine

namespace Sys2Proof.Machine

/-! ### The beacon body (R187) -/

theorem refusalOctets_pair (s : State) : ∃ x y, refusalOctets s = [x, y] := by
  unfold refusalOctets
  split <;> exact ⟨_, _, rfl⟩

theorem selectorOctets_pair (x : SelState) : ∃ p q, selectorOctets x = [p, q] := by
  cases x <;> exact ⟨_, _, rfl⟩

/-- R187: the 32 octets that every beacon begins with. -/
theorem beaconCommon_eq (role : Role) (s : State) (x y : Byte) (h : refusalOctets s = [x, y]) :
    beaconCommon role s =
      [stationOctet s.number, roleCode role, runCode s.pcu.run, stopReasonCode s.pcu.stopReason,
       BitVec.ofNat 8 (s.pcu.cursor.n / 65536), BitVec.ofNat 8 (s.pcu.cursor.n / 256), BitVec.ofNat 8 s.pcu.cursor.n,
       stepOctet s.pcu.cursor.step, flagOctet (s.pcu.win == .ready),
       BitVec.ofNat 8 (haltSet s / 16777216), BitVec.ofNat 8 (haltSet s / 65536), BitVec.ofNat 8 (haltSet s / 256),
       BitVec.ofNat 8 (haltSet s), BitVec.ofNat 8 (s.pcu.setRate / 256), BitVec.ofNat 8 s.pcu.setRate,
       loaderCode s.dld.state, s.dld.v, flagOctet s.dld.resend, lockCode s.dld.lockReason, waitCode s.dld.waitCause,
       BitVec.ofNat 8 (ringL s.drg / 16777216), BitVec.ofNat 8 (ringL s.drg / 65536), BitVec.ofNat 8 (ringL s.drg / 256),
       BitVec.ofNat 8 (ringL s.drg), BitVec.ofNat 8 (ringRoom s.drg / 256), BitVec.ofNat 8 (ringRoom s.drg),
       BitVec.ofNat 8 (s.dld.designId.toNat / 256), BitVec.ofNat 8 s.dld.designId.toNat, s.ord.counter, x, y,
       s.resultCode] := by
  rw [beaconCommon, h]
  rfl

theorem beaconHead_eq (s : State) (p q : Byte) (h : selectorOctets s.slu.sel = [p, q]) :
    beaconHead s =
      [if s.stu.participation = .enabled then 1 else 0, BitVec.ofNat 8 (s.stu.C / 16777216), BitVec.ofNat 8 (s.stu.C / 65536),
       BitVec.ofNat 8 (s.stu.C / 256), BitVec.ofNat 8 s.stu.C, p, q, BitVec.ofNat 8 (colorAtN s),
       flagOctet s.thm.bobbin.isSome, BitVec.ofNat 8 (s.thm.bobbin.getD 0 / 10000 / 256),
       BitVec.ofNat 8 (s.thm.bobbin.getD 0 / 10000)] := by
  rw [beaconHead, h]
  rfl

/-- R187: a beacon is its common part and the part of its role. -/
def rolePart (role : Role) (s : State) : List Byte := if role = .head then beaconHead s else beaconAxis s

theorem beaconBody_eq (role : Role) (s : State) : beaconBody role s = beaconCommon role s ++ rolePart role s := by
  cases role <;> rfl

theorem rolePart_length (role : Role) (s : State) : (rolePart role s).length = if role = .head then 11 else 5 := by
  obtain ⟨p, q, h⟩ := selectorOctets_pair s.slu.sel
  unfold rolePart
  split
  · rw [beaconHead_eq s p q h]
    rfl
  · rfl

theorem beaconBody_length (role : Role) (s : State) : (beaconBody role s).length = if role = .head then 43 else 37 := by
  obtain ⟨x, y, h⟩ := refusalOctets_pair s
  rw [beaconBody_eq, List.length_append, rolePart_length, beaconCommon_eq role s x y h]
  cases role <;> rfl

/-- R43, R44: a peer's table reads the four items back. -/
theorem classifyBeacon_beaconBody (role : Role) (s : State) (hn : s.pcu.cursor.n < 16777216) :
    classifyBeacon (beaconBody role s) = .pacing ⟨role, s.pcu.run, s.pcu.cursor, s.pcu.win == .ready⟩ := by
  obtain ⟨x, y, h⟩ := refusalOctets_pair s
  have hlen := beaconBody_length role s
  have hlong : ¬ (beaconBody role s).length < 32 := by rw [hlen]; cases role <;> decide
  have hrole : ¬ (beaconBody role s).length < beaconLength role := by rw [hlen]; cases role <;> decide
  have hoctets := beaconCommon_eq role s x y h
  rw [classifyBeacon, if_neg hlong]
  rw [beaconBody_eq, hoctets] at hrole ⊢
  simp only [List.cons_append, List.getD_cons_succ, List.getD_cons_zero, roleOfCode_roleCode, runOfCode_runCode,
    stepOfCode_stepOctet, flagOf_flagOctet, be24_octets3 _ hn]
  exact if_neg hrole

/-- Settles O27: the octets as the body lists them, each code and number read back by its own lemma. -/
theorem beaconBodyReadsBack : Obligations.BeaconBodyReadsBack := by
  refine ⟨fun role s hn => ?_, haltRequest_iff, countsToHalt_iff, ?_⟩
  · intro b
    obtain ⟨x, y, hxy⟩ := refusalOctets_pair s
    obtain ⟨p, q, hpq⟩ := selectorOctets_pair s.slu.sel
    have hb : b = beaconCommon role s ++ rolePart role s := beaconBody_eq role s
    refine ⟨beaconBody_length role s, classifyBeacon_beaconBody role s hn, ?_, ?_, ?_, fun c => testBit_haltSet_fault c s,
      testBit_haltSet_pulse s, testBit_haltSet_joining s, fun hr => ?_, fun hr => ?_⟩
    · rw [hb, beaconCommon_eq role s x y hxy]
      exact ⟨rfl, rfl, rfl, rfl, be32_octets4 _ (haltSet_lt s), be16_octets2 _⟩
    · have hroom : ringRoom s.drg < 65536 := Nat.lt_of_le_of_lt (Nat.sub_le _ _) (by decide)
      rw [hb, beaconCommon_eq role s x y hxy]
      exact ⟨rfl, fun hL => be32_octets4 _ (by omega), be16_octets2 _ hroom, be16_octets2 _ s.dld.designId.isLt⟩
    · rw [hb, beaconCommon_eq role s x y hxy, hxy]
      rfl
    · rw [hb, beaconCommon_eq role s x y hxy, rolePart, if_pos hr, beaconHead_eq s p q hpq]
      refine ⟨rfl, be32_octets4 _, ?_, rfl, rfl, fun hm => be16_octets2 _ (by omega)⟩
      exact hpq.symm
    · rw [hb, beaconCommon_eq role s x y hxy, rolePart, if_neg hr]
      exact ⟨rfl, rfl, signed16_signedOctets2 _, rfl⟩
  · refine ⟨fun n => ?_, rfl, rfl, rfl, rfl, rfl, rfl, rfl, rfl, fun s => rfl, rfl⟩
    rw [stationOctet, BitVec.toNat_ofNat]
    exact Nat.mod_eq_of_lt (Nat.lt_trans n.isLt (by decide))

end Sys2Proof.Machine

namespace Sys2Proof.Machine

/-! ### The laws of the pace unit, window state by window state (R22 to R28) -/

/-- A station in service that meets the laws of the pace unit. -/
def Lawful (s : State) : Prop := s.selfTesting = false ∧ paceLaw s

/-- R22: the laws of a PREPARING station. -/
structure PreparingLaw (s : State) : Prop where
  pace : s.pcu.pace = true
  edge : s.pcu.edge = .settled
  openW : s.pcu.openW = none
  next : s.pcu.next = none
  armed : s.pcu.armed = true
  work : workInFlight s = false
  run : s.pcu.run ≠ .stopping
  haltWait : isRunning s.pcu.haltWait = false
  agreement : agreementWaiting s = true → s.pcu.run ≠ .joining ∧ s.pcu.run ≠ .cut
  traversal : isTraversing s.pcu.run ↔ s.pcu.traversal.isSome = true

/-- R22, R23: the laws of a READY station. -/
structure ReadyLaw (s : State) : Prop where
  pace : s.pcu.pace = false
  edge : s.pcu.edge = .settled
  next : s.pcu.next.isSome = true
  armed : s.pcu.armed = true
  work : workInFlight s = false
  run : isMoving s.pcu.run = true
  haltWait : isRunning s.pcu.haltWait = true → s.pcu.pendingStop.isSome = true
  agreement : agreementWaiting s = false
  traversal : isTraversing s.pcu.run ↔ s.pcu.traversal.isSome = true
  target : s.pcu.traversal.map Traversal.target ≠ some none

/-- R22, R23: the laws of a station with an open window. -/
structure OpenedLaw (s : State) : Prop where
  openW : s.pcu.openW.isSome = true
  next : s.pcu.next = none
  run : isMoving s.pcu.run = true ∨ (s.pcu.run = .stopping ∧ s.pcu.pendingStop.isSome = true)
  pace : s.pcu.pace = true ↔ s.pcu.edge ≠ .inGuard
  armed : s.pcu.armed = true ↔ s.pcu.edge ≠ .inGuard
  haltWait : isRunning s.pcu.haltWait = false
  agreement : agreementWaiting s = false
  traversing : isTraversing s.pcu.run → s.pcu.traversal.isSome = true
  traversal : s.pcu.traversal.isSome = true → isTraversing s.pcu.run ∨ s.pcu.run = .stopping
  target : s.pcu.traversal.map Traversal.target ≠ some none

theorem isMoving_not_atRest {r : RunState} (h : isMoving r = true) :
    r ≠ .stopped ∧ r ≠ .joining ∧ r ≠ .cut ∧ r ≠ .stopping := by
  cases r <;> simp_all [isMoving]

theorem isTraversing_moving {r : RunState} (h : isTraversing r) : isMoving r = true := by
  rcases h with rfl | rfl <;> rfl

theorem PreparingLaw.lawful {s : State} (hs : s.selfTesting = false) (hw : s.pcu.win = .preparing) (h : PreparingLaw s) :
    Lawful s := by
  have hwork := h.work
  have hwait := h.haltWait
  have htrav := h.traversal
  refine ⟨hs, ⟨fun _ => hw, fun _ => ⟨h.pace, h.edge, h.openW, h.next⟩, fun hr => ?_, fun ho => ?_, ?_, fun hf => ?_⟩,
    fun hr => absurd hr h.run, fun hh => ?_, fun ha => ⟨hw, h.agreement ha⟩, htrav.1, fun ht => .inl (htrav.2 ht),
    fun _ => hw, fun hst => ?_⟩
  · simp [hw] at hr
  · simp [hw] at ho
  · simp [h.armed, h.edge]
  · simp [hwork] at hf
  · simp [hwait] at hh
  · simp [hs] at hst

theorem ReadyLaw.lawful {s : State} (hs : s.selfTesting = false) (hw : s.pcu.win = .ready) (h : ReadyLaw s) : Lawful s := by
  obtain ⟨hstop, hjoin, hcut, hstopping⟩ := isMoving_not_atRest h.run
  have hwork := h.work
  have hagr := h.agreement
  refine ⟨hs, ⟨fun hr => ?_, fun hp => ?_, fun _ => ⟨h.pace, h.edge, h.next, h.run⟩, fun ho => ?_, ?_, fun hf => ?_⟩,
    fun hr => absurd hr hstopping, fun hh => ⟨hw, h.haltWait hh⟩, fun ha => ?_, h.traversal.1,
    fun ht => .inl (h.traversal.2 ht), fun ht => absurd ht h.target, fun hst => ?_⟩
  · rcases hr with hr | hr | hr <;> simp_all
  · simp [hw] at hp
  · simp [hw] at ho
  · simp [h.armed, h.edge]
  · simp [hwork] at hf
  · simp [hagr] at ha
  · simp [hs] at hst

theorem OpenedLaw.lawful {s : State} (hs : s.selfTesting = false) (hw : s.pcu.win = .opened) (h : OpenedLaw s) : Lawful s := by
  have hagr := h.agreement
  have hwait := h.haltWait
  have hrest : ¬ atRest s.pcu.run := by
    rcases h.run with hm | ⟨hr, -⟩
    · obtain ⟨hstop, hjoin, hcut, -⟩ := isMoving_not_atRest hm
      simp [atRest, hstop, hjoin, hcut]
    · simp [atRest, hr]
  refine ⟨hs, ⟨fun hr => absurd hr hrest, fun hp => ?_, fun hr => ?_, fun _ => ⟨h.openW, h.next, h.run.imp_right And.left,
    h.pace⟩, h.armed, fun _ => hw⟩, fun hr => ⟨hw, ?_⟩, fun hh => ?_, fun ha => ?_, h.traversing, h.traversal,
    fun ht => absurd ht h.target, fun hst => ?_⟩
  · simp [hw] at hp
  · simp [hw] at hr
  · rcases h.run with hm | ⟨-, hp⟩
    · exact absurd hr (isMoving_not_atRest hm).2.2.2
    · exact hp
  · simp [hwait] at hh
  · simp [hagr] at ha
  · simp [hs] at hst

theorem Lawful.work_eq_false {s : State} (h : Lawful s) (hw : s.pcu.win ≠ .opened) : workInFlight s = false := by
  obtain ⟨-, ⟨-, -, -, -, -, hwork⟩, -⟩ := h
  exact Bool.eq_false_iff.2 fun hf => hw (hwork hf)

theorem Lawful.haltWait_eq_false {s : State} (h : Lawful s) (hw : s.pcu.win ≠ .ready) : isRunning s.pcu.haltWait = false := by
  obtain ⟨-, -, -, hwait, -⟩ := h
  exact Bool.eq_false_iff.2 fun hf => hw (hwait hf).1

theorem Lawful.agreement_eq_false {s : State} (h : Lawful s) (hw : s.pcu.win ≠ .preparing) : agreementWaiting s = false := by
  obtain ⟨-, -, -, -, hagr, -⟩ := h
  exact Bool.eq_false_iff.2 fun hf => hw (hagr hf).1

theorem Lawful.target_fixed {s : State} (h : Lawful s) (hw : s.pcu.win ≠ .preparing) :
    s.pcu.traversal.map Traversal.target ≠ some none := by
  obtain ⟨-, -, -, -, -, -, -, htarget, -⟩ := h
  exact fun hf => hw (htarget hf)

/-- R28, R145: but in STOPPING a traversal is held exactly in a traversal state. -/
theorem Lawful.traversing_iff {s : State} (h : Lawful s) (hr : s.pcu.run ≠ .stopping) :
    isTraversing s.pcu.run ↔ s.pcu.traversal.isSome = true := by
  obtain ⟨-, -, -, -, -, htrav, hheld, -⟩ := h
  exact ⟨htrav, fun ht => (hheld ht).resolve_right hr⟩

theorem Lawful.not_stopping {s : State} (h : Lawful s) (hw : s.pcu.win ≠ .opened) : s.pcu.run ≠ .stopping := by
  obtain ⟨-, -, hstop, -⟩ := h
  exact fun hr => hw (hstop hr).1

theorem Lawful.preparing {s : State} (h : Lawful s) (hw : s.pcu.win = .preparing) : PreparingLaw s := by
  have hrun := h.not_stopping (by simp [hw])
  obtain ⟨-, ⟨-, hprep, -, -, harmed, -⟩, -, -, hagr, -⟩ := id h
  obtain ⟨hpace, hedge, hopen, hnext⟩ := hprep hw
  exact ⟨hpace, hedge, hopen, hnext, harmed.2 (by simp [hedge]), h.work_eq_false (by simp [hw]), hrun,
    h.haltWait_eq_false (by simp [hw]), fun ha => (hagr ha).2, h.traversing_iff hrun⟩

theorem Lawful.ready {s : State} (h : Lawful s) (hw : s.pcu.win = .ready) : ReadyLaw s := by
  obtain ⟨-, ⟨-, -, hready, -, harmed, -⟩, -, hwait, -⟩ := id h
  obtain ⟨hpace, hedge, hnext, hrun⟩ := hready hw
  exact ⟨hpace, hedge, hnext, harmed.2 (by simp [hedge]), h.work_eq_false (by simp [hw]), hrun, fun hh => (hwait hh).2,
    h.agreement_eq_false (by simp [hw]), h.traversing_iff (h.not_stopping (by simp [hw])), h.target_fixed (by simp [hw])⟩

theorem Lawful.opened {s : State} (h : Lawful s) (hw : s.pcu.win = .opened) : OpenedLaw s := by
  obtain ⟨-, ⟨-, -, -, hopen, harmed, -⟩, hstop, -, -, htrav, hheld, -⟩ := id h
  obtain ⟨hopenW, hnext, hrun, hpace⟩ := hopen hw
  exact ⟨hopenW, hnext, hrun.imp_right fun hr => ⟨hr, (hstop hr).2⟩, hpace, harmed, h.haltWait_eq_false (by simp [hw]),
    h.agreement_eq_false (by simp [hw]), htrav, hheld, h.target_fixed (by simp [hw])⟩

/-- R19, R22: at rest the station is PREPARING. -/
theorem Lawful.preparing_of_rest {s : State} (h : Lawful s) (hr : atRest s.pcu.run) : s.pcu.win = .preparing := by
  obtain ⟨-, ⟨hrest, -⟩, -⟩ := h
  exact hrest hr


/-- R22, R23: a crossing is under way only while a window is open. -/
theorem Lawful.opened_of_edge {s : State} (h : Lawful s) (he : s.pcu.edge ≠ .settled) : s.pcu.win = .opened := by
  cases hwin : s.pcu.win with
  | opened => rfl
  | preparing => exact absurd (h.preparing hwin).edge he
  | ready => exact absurd (h.ready hwin).edge he
end Sys2Proof.Machine

namespace Sys2Proof.Machine

/-! ### Updates that keep the laws -/

/-- An update that keeps the laws of the pace unit, and with them those of CUT. -/
def LawsKept (s u : State) : Prop := Lawful s → Lawful u ∧ (cutLaw s → cutLaw u)

theorem LawsKept.refl (s : State) : LawsKept s s := fun h => ⟨h, id⟩

theorem LawsKept.trans {s t u : State} (h : LawsKept s t) (k : LawsKept t u) : LawsKept s u := fun hs =>
  ⟨(k (h hs).1).1, fun hc => (k (h hs).1).2 ((h hs).2 hc)⟩

/-- The pace unit without the items that its laws do not speak of. -/
def lawPart (p : PaceUnit) : PaceUnit :=
  { p with
    cursor := Cursor.at 0, preparePending := false, stopReason := .joined, setRate := 0, workRate := 0, starve := .stopped
    stall := .stopped, haltPulse := .stopped, listen := .stopped, haltSeen := false, joinAgreement := false }

theorem lawPart_eq_iff (p q : PaceUnit) :
    lawPart p = lawPart q ↔ p.run = q.run ∧ p.win = q.win ∧ p.openW = q.openW ∧ p.next = q.next ∧
      p.pendingStop = q.pendingStop ∧ p.haltWait = q.haltWait ∧ p.edge = q.edge ∧ p.pace = q.pace ∧ p.armed = q.armed ∧
      p.traversal = q.traversal ∧ p.agreement = q.agreement := by
  simp [lawPart]

/-- An update that leaves what the laws speak of, and begins no work but in an open window. -/
structure Steady (s u : State) : Prop where
  selfTesting : u.selfTesting = s.selfTesting
  pace : lawPart u.pcu = lawPart s.pcu
  work : workInFlight u = true → workInFlight s = true ∨ s.pcu.win = .opened

theorem Steady.lawful {s u : State} (hq : Steady s u) (h : Lawful s) : Lawful u := by
  obtain ⟨hrun, hwin, hopen, hnext, hpend, hwait, hedge, hpace, harmed, htrav, hagr⟩ := (lawPart_eq_iff _ _).1 hq.pace
  obtain ⟨hs, ⟨h1, h2, h3, h4, h5, hwork⟩, hrunLaw⟩ := h
  refine ⟨hq.selfTesting.trans hs, ?_, ?_⟩
  · simp only [windowLaw, hrun, hwin, hopen, hnext, hedge, hpace, harmed]
    exact ⟨h1, h2, h3, h4, h5, fun hf => (hq.work hf).elim hwork id⟩
  · simpa only [runLaw, agreementWaiting, hrun, hwin, hpend, hwait, hagr, htrav, hq.selfTesting] using hrunLaw

theorem Steady.run_eq {s u : State} (hq : Steady s u) : u.pcu.run = s.pcu.run :=
  ((lawPart_eq_iff _ _).1 hq.pace).1

/-- The items that the laws of CUT speak of beside the run state. -/
def cutView (s : State) : SupplyLevel × Option Transmission × Bool := (s.flt.supply, s.liu.tx, s.liu.beaconDue)

theorem cutLaw_congr {s u : State} (hr : u.pcu.run = s.pcu.run) (hv : cutView u = cutView s) (h : cutLaw s) : cutLaw u := by
  simp only [cutView, Prod.mk.injEq] at hv
  obtain ⟨hsup, htx, hdue⟩ := hv
  simpa only [cutLaw, hr, hsup, htx, hdue] using h

theorem Steady.kept {s u : State} (hq : Steady s u) (hv : cutView u = cutView s) : LawsKept s u := fun h =>
  ⟨hq.lawful h, cutLaw_congr hq.run_eq hv⟩

/-- An update that leaves the blocks with work alone. -/
theorem Steady.of_blocks {s u : State} (hs : u.selfTesting = s.selfTesting) (hp : lawPart u.pcu = lawPart s.pcu)
    (hb : u.stu = s.stu ∧ u.slu = s.slu ∧ u.axu = s.axu) : Steady s u :=
  ⟨hs, hp, fun hf => .inl ((workInFlight_congr hb.1 hb.2.1 hb.2.2) ▸ hf)⟩

/-- What an update at the blocks with work leaves of the rest. -/
theorem Steady.of_work {s u : State} (hk : u.selfTesting = s.selfTesting ∧ u.pcu = s.pcu)
    (hw : workInFlight u = true → workInFlight s = true ∨ s.pcu.win = .opened) : Steady s u :=
  ⟨hk.1, by rw [hk.2], hw⟩

/-- R168: outside CUT the supply level is another. -/
theorem cutLaw_of_not_cut {u : State} (hs : u.flt.supply ≠ .cut) (hr : u.pcu.run ≠ .cut) : cutLaw u :=
  ⟨by simp [hs, hr], fun h => absurd h hr⟩

theorem cutLaw.supply_ne {s : State} (h : cutLaw s) (hr : s.pcu.run ≠ .cut) : s.flt.supply ≠ .cut := fun hs => hr (h.1.1 hs)

/-! ### Faults, peers and the line -/

theorem workInFlight_iff (s : State) :
    workInFlight s = true ↔ s.axu.move.isSome = true ∨ isRunning s.slu.trim = true ∨ selectorBusy s = true ∨
      s.stu.phase ≠ .idle := by
  simp [workInFlight, trimming, strokeInFlight, or_assoc]

theorem kept_setFault (c : FaultCode) (x : FaultRec) (s : State) : LawsKept s (setFault c x s) :=
  (Steady.of_blocks (by simp) (by simp) (by simp)).kept (by simp [cutView])

theorem kept_raise (c : FaultCode) (d1 d2 : Byte) (s : State) : LawsKept s (raise c d1 d2 s) := kept_setFault _ _ s

theorem kept_unlatch (c : FaultCode) (s : State) : LawsKept s (unlatch c s) :=
  (Steady.of_blocks (by simp) (by simp) (by simp)).kept (by simp [cutView])

theorem kept_rosterCheck (s : State) : LawsKept s (rosterCheck s) :=
  (Steady.of_blocks (by simp) (by simp) (by simp)).kept (by simp [cutView])

theorem kept_setPeer (n : Station) (p : Peer) (s : State) : LawsKept s (setPeer n p s) :=
  (Steady.of_blocks (by simp) (by simp) (by simp)).kept (by simp [cutView])

theorem raisePeerLost_supply (n : Station) (role : Role) (s : State) :
    (raisePeerLost n role s).flt.supply = s.flt.supply := by
  cases role <;> rfl

theorem kept_raisePeerLost (n : Station) (role : Role) (s : State) : LawsKept s (raisePeerLost n role s) :=
  (Steady.of_blocks (by simp) (by simp) (by simp)).kept (by simp [cutView, raisePeerLost_supply])

theorem frameTaken_line (src : Station) (s : State) :
    (frameTaken src s).liu = { s.liu with framer := .waitIdle } := by
  unfold frameTaken
  dsimp only
  split <;> simp

theorem kept_frameTaken (src : Station) (s : State) : LawsKept s (frameTaken src s) :=
  (Steady.of_blocks (by simp) (by simp) (by simp)).kept (by simp [cutView, frameTaken_line])

theorem kept_clearFresh (cs : List FaultCode) (s : State) : LawsKept s (clearFresh cs s) := by
  induction cs generalizing s with
  | nil => exact .refl s
  | cons c cs ih => exact (kept_setFault _ _ s).trans (ih _)

theorem kept_deliverFaults (cs : List FaultCode) (s : State) : LawsKept s (deliverFaults cs s) := by
  induction cs generalizing s with
  | nil => exact .refl s
  | cons c cs ih =>
    refine LawsKept.trans ?_ (ih _)
    split
    · exact .refl s
    · exact kept_setFault _ _ s

theorem kept_clearList (cs : List FaultCode) (s : State) : LawsKept s (clearList cs s) := by
  induction cs generalizing s with
  | nil => exact .refl s
  | cons c cs ih =>
    refine LawsKept.trans ?_ (ih _)
    unfold clearOne
    split
    · exact kept_unlatch c s
    · exact .refl s

/-- R168, R186: a change of the slots is a matter of stations out of CUT. -/
theorem kept_line {s u : State} (hk : Steady s u) (hsup : u.flt.supply = s.flt.supply)
    (hl : cutLaw s → s.pcu.run = .cut → u.liu.tx = none ∧ u.liu.beaconDue = false) : LawsKept s u := fun h =>
  ⟨hk.lawful h, fun hc => ⟨by rw [hsup, hk.run_eq]; exact hc.1, fun hr => hl hc (hk.run_eq ▸ hr)⟩⟩

theorem kept_beaconFallsDue (s : State) : LawsKept s (beaconFallsDue s) := by
  refine kept_line (.of_blocks (by simp) (by simp) (by simp)) (by simp) fun hc hr => ?_
  rw [beaconFallsDue, if_pos hr]
  exact hc.2 hr

/-! ### Stops and agreement (R35, R52 to R57) -/

theorem lawful_enterStopped (reason : StopReason) (s : State) (hs : s.selfTesting = false) (he : s.pcu.edge = .settled)
    (hw : workInFlight s = false) : Lawful (enterStopped reason s) := by
  have hwork : workInFlight (enterStopped reason s) = false :=
    (workInFlight_congr (by simp) (by simp) (by simp)).trans hw
  refine PreparingLaw.lawful (by simpa using hs) (by rw [enterStopped_pcu]) ⟨?_, ?_, ?_, ?_, ?_, hwork, ?_, ?_, ?_, ?_⟩ <;>
    simp [enterStopped_pcu, he, isRunning]

/-- R35: entering STOPPED out of CUT, with no crossing and no work under way. -/
theorem kept_enterStopped (reason : StopReason) (s : State) (he : s.pcu.edge = .settled) (hw : workInFlight s = false)
    (hr : s.pcu.run ≠ .cut) : LawsKept s (enterStopped reason s) := fun h =>
  ⟨lawful_enterStopped reason s h.1 he hw, fun hc =>
    cutLaw_of_not_cut (by simpa using hc.supply_ne hr) (by simp [enterStopped_pcu])⟩

/-- A PREPARING station out of CUT enters STOPPED. -/
theorem kept_enterStopped_preparing (reason : StopReason) (s : State) (hw : s.pcu.win = .preparing) (hr : s.pcu.run ≠ .cut) :
    LawsKept s (enterStopped reason s) := fun h =>
  kept_enterStopped reason s (h.preparing hw).edge (h.preparing hw).work hr h

theorem kept_beginAgreement (s : State) (hr : s.pcu.run = .stopped) : LawsKept s (beginAgreement s) := fun h => by
  have hw := h.preparing_of_rest (.inl hr)
  obtain ⟨hpace, hedge, hopen, hnext, harmed, hwork, hrun, hwait, -, htrav⟩ := h.preparing hw
  exact ⟨PreparingLaw.lawful h.1 hw ⟨hpace, hedge, hopen, hnext, harmed, hwork, hrun, hwait,
    fun _ => by simp [beginAgreement, hr], htrav⟩, cutLaw_congr rfl rfl⟩

theorem kept_withTarget (t : Traversal) (f : Cursor × Bool) (s : State) (ht : s.pcu.traversal.isSome = true) :
    LawsKept s (withTarget t f s) := fun h => by
  refine ⟨⟨h.1, h.2.1, ?_⟩, cutLaw_congr rfl rfl⟩
  obtain ⟨-, -, hstop, hwait, hagr, htrav, hheld, -, hself⟩ := h
  exact ⟨hstop, hwait, hagr, fun _ => rfl, fun _ => hheld ht, by simp [withTarget], hself⟩

/-- R146, R149: fixing a target, and the stop of a traversal that is at it already. -/
theorem kept_fixTarget (s : State) : LawsKept s (fixTarget s) := fun h => by
  cases htv : s.pcu.traversal with
  | none =>
    rw [fixTarget_none s htv]
    exact ⟨h, id⟩
  | some t =>
    cases ht : t.target with
    | some c =>
      rw [fixTarget_fixed t s htv (by simp [ht])]
      exact ⟨h, id⟩
    | none =>
      have hwin : s.pcu.win = .preparing := by
        by_contra hw
        exact h.target_fixed hw (by simp [htv, ht])
      have hrun := (h.preparing hwin).traversal.2 (by simp [htv])
      have hk := kept_withTarget t (targetOf t s.drg s.pcu.cursor) s (by simp [htv])
      rw [fixTarget_unfixed t s htv ht]
      split
      · exact hk.trans (kept_enterStopped_preparing _ _ hwin (isMoving_not_atRest (isTraversing_moving hrun)).2.2.1) h
      · exact hk h

theorem takeChosen_blocks (s : State) : (takeChosen s).stu.phase = s.stu.phase ∧ (takeChosen s).axu.move = s.axu.move := by
  by_cases hown : chooseCursor s.pcu.cursor (qualifiedCursors s) = s.pcu.cursor
  · rw [takeChosen_own s hown]
    exact ⟨rfl, rfl⟩
  · rw [takeChosen_stu _ s rfl hown, takeChosen_axu _ s rfl hown, axisAfter]
    exact ⟨by split <;> rfl, by (repeat' split) <;> rfl⟩

theorem kept_takeChosen (s : State) : LawsKept s (takeChosen s) := fun h => by
  obtain ⟨hphase, hmove⟩ := takeChosen_blocks s
  have hend : Lawful { s with pcu := { s.pcu with agreement := .stopped } } := by
    refine ⟨h.1, h.2.1, ?_⟩
    obtain ⟨-, -, hstop, hwait, -, hrest⟩ := h
    exact ⟨hstop, hwait, fun ha => by simp [agreementWaiting, isRunning] at ha, hrest⟩
  have hq : Steady { s with pcu := { s.pcu with agreement := .stopped } } (takeChosen s) := by
    refine ⟨by simp, by rw [takeChosen_pcu]; rfl, fun hf => .inl ?_⟩
    simp only [workInFlight_iff, selectorBusy, hphase, hmove, takeChosen_keeps] at hf ⊢
    exact hf
  exact ⟨hq.lawful hend, cutLaw_congr (by rw [takeChosen_pcu]) (by simp [cutView])⟩

end Sys2Proof.Machine

namespace Sys2Proof.Machine

/-! ### The READY test and what completes agreement (R24 to R27, R53) -/

/-- R25: a window whose work has ended with no stop pending leaves a PREPARING station. -/
theorem lawful_windowLeft {s : State} (h : Lawful s) (hw : windowEnds s) (hp : s.pcu.pendingStop = none) :
    Lawful { s with pcu := { s.pcu with win := .preparing, openW := none } } := by
  obtain ⟨hwin, hedge, hwork⟩ := hw
  have ho := h.opened hwin
  have hmove : isMoving s.pcu.run = true := ho.run.resolve_right fun hr => by simp [hp] at hr
  have hrun := (isMoving_not_atRest hmove).2.2.2
  have hagr : ¬ agreementWaiting s = true := by simp [ho.agreement]
  exact PreparingLaw.lawful h.1 rfl ⟨ho.pace.2 (by simp [hedge]), hedge, rfl, ho.next, ho.armed.2 (by simp [hedge]), hwork,
    hrun, ho.haltWait, fun ha => absurd ha hagr, h.traversing_iff hrun⟩

theorem kept_tryFinish (s : State) : LawsKept s (tryFinish s) := by
  unfold tryFinish
  split
  · rename_i hw
    split
    · intro h
      have hne : s.pcu.run ≠ .cut := by
        rcases (h.opened hw.1).run with hm | ⟨hr, -⟩
        · exact (isMoving_not_atRest hm).2.2.1
        · simp [hr]
      exact kept_enterStopped _ s hw.2.1 hw.2.2 hne h
    · rename_i hp
      exact fun h => ⟨lawful_windowLeft h hw (by simpa using hp), cutLaw_congr rfl rfl⟩
  · exact .refl s

theorem kept_setCursor (c : Cursor) (s : State) : LawsKept s (setCursor c s) :=
  (Steady.of_blocks (by simp) (by rw [setCursor_pcu]; rfl) (by simp)).kept (by simp [cutView])

theorem kept_becomeReady (w : WindowRec) (s : State) (hm : mayBecomeReady s = true)
    (ht : s.pcu.traversal.map Traversal.target ≠ some none) : LawsKept s (becomeReady w s) := fun h => by
  obtain ⟨hwin, hrun, hpend, -, hagr, hedge, -⟩ := (mayBecomeReady_iff s).1 hm
  have hp := h.preparing hwin
  have hwait : ¬ isRunning s.pcu.haltWait = true := by simp [hp.haltWait]
  exact ⟨ReadyLaw.lawful h.1 rfl ⟨rfl, hedge, rfl, hp.armed, hp.work, hrun, fun hw => absurd hw hwait, hagr, hp.traversal, ht⟩,
    cutLaw_congr rfl rfl⟩

/-- R150, R151: a window is due in RUNNING, or in a traversal whose target is fixed. -/
theorem target_fixed_of_windowDue {s : State} (h : Lawful s) (hm : mayBecomeReady s = true) {w : WindowRec}
    (hw : windowDue s = some w) : s.pcu.traversal.map Traversal.target ≠ some none := by
  obtain ⟨hwin, -, -⟩ := (mayBecomeReady_iff s).1 hm
  cases htv : s.pcu.traversal with
  | none => simp
  | some t =>
    rcases (h.preparing hwin).traversal.2 (by simp [htv]) with hr | hr
    all_goals
      rw [windowDue, if_neg (by simp [hr]), traversalWindow_eq s t htv] at hw
      split at hw
      · rename_i ht
        intro hn
        simp only [Option.map_some, Option.some.injEq] at hn
        simp [hn] at ht
      · cases hw

theorem kept_tryReady (s : State) : LawsKept s (tryReady s) := by
  rcases tryReady_cases s with e | ⟨hm, w, hdue, e⟩ | ⟨hm, r, -, -, e⟩ | ⟨hm, r, -, -, e⟩
  · rw [e]
    exact .refl s
  · rw [e]
    exact fun h => kept_becomeReady w s hm (target_fixed_of_windowDue h hm hdue) h
  · obtain ⟨hwin, hrun, -⟩ := (mayBecomeReady_iff s).1 hm
    rw [e]
    refine (kept_setCursor _ s).trans (kept_enterStopped_preparing _ _ ?_ ?_)
    · rw [setCursor_pcu]
      exact hwin
    · rw [setCursor_pcu]
      exact (isMoving_not_atRest hrun).2.2.1
  · obtain ⟨hwin, hrun, -⟩ := (mayBecomeReady_iff s).1 hm
    rw [e]
    exact kept_enterStopped_preparing _ s hwin (isMoving_not_atRest hrun).2.2.1

theorem kept_starveWatch (s : State) : LawsKept s (starveWatch s) := by
  rw [starveWatch_eq]
  exact (Steady.of_blocks rfl rfl ⟨rfl, rfl, rfl⟩).kept rfl

theorem kept_settle (s : State) : LawsKept s (settle s) :=
  ((kept_tryFinish s).trans (kept_tryReady _)).trans (kept_starveWatch _)

theorem LawsKept.settle {s u : State} (h : LawsKept s u) : LawsKept s (settle u) := h.trans (kept_settle u)

theorem kept_completeAgreement (s : State) : LawsKept s (completeAgreement s) :=
  ((kept_takeChosen s).trans (kept_fixTarget _)).trans (kept_settle _)

theorem kept_testAgreement (s : State) : LawsKept s (testAgreement s) := by
  unfold testAgreement
  split
  · exact kept_completeAgreement s
  · exact .refl s

/-! ### Joining, openings and HALT (R23, R33, R51) -/

theorem kept_settleAt (q : Nat) (s : State) : LawsKept s (settleAt q s) := by
  refine (Steady.of_work ⟨by simp, by simp⟩ fun hf => .inl ?_).kept (by simp [cutView])
  simp only [workInFlight_iff, settleAt, selectorBusy, Bool.false_eq_true, false_or] at hf ⊢
  tauto

theorem kept_readAtJoining (lines : CodeLines) (s : State) : LawsKept s (readAtJoining lines s) := by
  unfold readAtJoining
  split
  · split
    · exact kept_settleAt _ s
    · exact .refl s
  · exact .refl s

theorem kept_coverAtJoining (s : State) : LawsKept s (coverAtJoining s) := by
  unfold coverAtJoining
  split
  · exact (Steady.of_work ⟨rfl, rfl⟩ .inl).kept rfl
  · exact .refl s

theorem kept_raiseNotHomed (s : State) : LawsKept s (raiseNotHomed s) := by
  unfold raiseNotHomed
  split
  · exact kept_raise _ _ _ s
  · exact .refl s

theorem kept_stopJoined (s : State) (hr : s.pcu.run = .joining) : LawsKept s (stopJoined s) := fun h => by
  have hstop := kept_enterStopped_preparing .joined s (h.preparing_of_rest (.inr (.inl hr))) (by simp [hr])
  have hjoin : LawsKept (enterStopped .joined s) (joinedStopped s) := (Steady.of_blocks rfl rfl ⟨rfl, rfl, rfl⟩).kept rfl
  rw [stopJoined_eq]
  exact ((hstop.trans hjoin).trans (kept_rosterCheck _)) h

theorem kept_completeJoining (lines : CodeLines) (s : State) (hr : s.pcu.run = .joining) :
    LawsKept s (completeJoining lines s) := by
  have hlisten : LawsKept s { s with pcu := { s.pcu with listen := .stopped } } :=
    (Steady.of_blocks rfl rfl ⟨rfl, rfl, rfl⟩).kept rfl
  have hseated : LawsKept s (joiningSeated lines s) :=
    ((hlisten.trans (kept_setCursor _ _)).trans (kept_coverAtJoining _)).trans (kept_readAtJoining _ _)
  rw [completeJoining_eq]
  refine (hseated.trans (kept_stopJoined _ ?_)).trans (kept_raiseNotHomed _)
  simpa using hr

/-- R23: an opening begins its work in an open window, with PACE released for the guard. -/
theorem kept_openWindow (lines : CodeLines) (w : WindowRec) (s : State) (hwin : s.pcu.win = .ready) :
    LawsKept s (openWindow lines w s) := fun h => by
  have hr := h.ready hwin
  obtain ⟨hstop, hjoin, hcut, hstopping⟩ := isMoving_not_atRest hr.run
  have hsup : (openWindow lines w s).flt.supply = s.flt.supply :=
    (workKeeps_startWork lines w (openingOf w s)).supply.trans (openingOf_marks w s).1
  have hself : (openWindow lines w s).selfTesting = s.selfTesting := by simp
  have hpcu := openWindow_pcu lines w s
  generalize openWindow lines w s = u at hsup hself hpcu ⊢
  have hrun : isMoving u.pcu.run = true ∨ (u.pcu.run = .stopping ∧ u.pcu.pendingStop.isSome = true) := by
    rw [hpcu]
    dsimp only
    split
    · rename_i hor
      refine .inr ⟨rfl, ?_⟩
      split
      · rfl
      · rename_i hreach
        exact hr.haltWait (hor.resolve_right hreach)
    · exact .inl hr.run
  have hheld : isTraversing u.pcu.run → s.pcu.traversal.isSome = true := by
    rw [hpcu]
    dsimp only
    split
    · rintro (h | h) <;> cases h
    · exact hr.traversal.1
  have htrav : s.pcu.traversal.isSome = true → isTraversing u.pcu.run ∨ u.pcu.run = .stopping := fun ht => by
    rw [hpcu]
    dsimp only
    split
    · exact .inr rfl
    · exact .inl (hr.traversal.2 ht)
  have hne : u.pcu.run ≠ .cut := by
    rcases hrun with hm | ⟨he, -⟩
    · exact (isMoving_not_atRest hm).2.2.1
    · simp [he]
  have hlaw : OpenedLaw u := by
    refine ⟨?_, ?_, hrun, ?_, ?_, ?_, ?_, fun ht => ?_, fun ht => htrav ?_, ?_⟩
    · simp [hpcu]
    · simp [hpcu]
    · simp [hpcu, hr.pace]
    · simp [hpcu]
    · simp [hpcu, isRunning]
    · rw [agreementWaiting, hpcu]
      exact hr.agreement
    · rw [hpcu]
      exact hheld ht
    · rwa [hpcu] at ht
    · rw [hpcu]
      exact hr.target
  exact ⟨hlaw.lawful (hself.trans h.1) (by rw [hpcu]), fun hc => cutLaw_of_not_cut (hsup ▸ hc.supply_ne hcut) hne⟩

/-- R33: HALT seen in RUNNING or a traversal. -/
theorem kept_haltMoving (s : State) (hm : isMoving s.pcu.run = true) : LawsKept s (haltMoving s) := by
  obtain ⟨hstop, hjoin, hcut, hstopping⟩ := isMoving_not_atRest hm
  unfold haltMoving
  dsimp only
  split
  · rename_i hwin
    intro h
    obtain ⟨hopen, hnext, hrun, hpace, harmed, hwait, hagr, -, -, htarget⟩ := h.opened hwin
    have hlaw : OpenedLaw { pendHalted s with pcu := { (pendHalted s).pcu with run := .stopping } } :=
      ⟨hopen, hnext, .inr ⟨rfl, rfl⟩, hpace, harmed, hwait, hagr, (by simp), fun _ => .inr rfl, htarget⟩
    exact ⟨hlaw.lawful h.1 hwin, fun hc => cutLaw_of_not_cut (hc.supply_ne hcut) (by simp)⟩
  · rename_i hwin
    intro h
    obtain ⟨hpace, hedge, hopen, hnext, harmed, hwork, hrun, hwait, hagr, htrav⟩ := h.preparing hwin
    have hp : LawsKept s (pendHalted s) := fun h =>
      ⟨PreparingLaw.lawful h.1 hwin ⟨hpace, hedge, hopen, hnext, harmed, hwork, hrun, hwait, hagr, htrav⟩,
        cutLaw_congr rfl rfl⟩
    exact (hp.trans (kept_enterStopped_preparing _ _ hwin hcut)) h
  · rename_i hwin
    intro h
    obtain ⟨hpace, hedge, hnext, harmed, hwork, hrun, -, hagr, htrav, htarget⟩ := h.ready hwin
    exact ⟨ReadyLaw.lawful h.1 hwin ⟨hpace, hedge, hnext, harmed, hwork, hrun, fun _ => rfl, hagr, htrav, htarget⟩,
      cutLaw_congr rfl rfl⟩

theorem kept_minAssertion (s : State) (he : s.pcu.edge = .minAssertion) : LawsKept s (settledEdge s) := fun h => by
  have hwin := h.opened_of_edge (by simp [he])
  obtain ⟨hopen, hnext, hrun, hpace, harmed, hwait, hagr, htrav, hheld, htarget⟩ := h.opened hwin
  simp only [he, ne_eq, reduceCtorEq, not_false_eq_true, iff_true] at hpace harmed
  exact ⟨OpenedLaw.lawful h.1 hwin ⟨hopen, hnext, hrun, by simp [settledEdge, hpace], by simp [settledEdge, harmed], hwait, hagr,
    htrav, hheld, htarget⟩, cutLaw_congr rfl rfl⟩

theorem kept_guardEnd (s : State) (he : s.pcu.edge = .inGuard) :
    LawsKept s { s with pcu := { s.pcu with edge := .minAssertion, pace := true, armed := true } } := fun h => by
  have hwin := h.opened_of_edge (by simp [he])
  obtain ⟨hopen, hnext, hrun, -, -, hwait, hagr, htrav, hheld, htarget⟩ := h.opened hwin
  exact ⟨OpenedLaw.lawful h.1 hwin ⟨hopen, hnext, hrun, by simp, by simp, hwait, hagr, htrav, hheld, htarget⟩,
    cutLaw_congr rfl rfl⟩

/-! ### CUT and restarts (R167 to R170, R178) -/

/-- R168: the entry into CUT with the supply level there. -/
theorem lawful_enterCut (s : State) (hs : s.selfTesting = false) : Lawful (enterCut s) := by
  refine PreparingLaw.lawful hs rfl ⟨rfl, rfl, rfl, rfl, rfl, ?_, by simp [enterCut, cutPace], rfl, ?_, ?_⟩
  · simp [workInFlight, enterCut, cutAxis, cutSelector, cutStroke, trimming, selectorBusy, strokeInFlight, isRunning]
  · simp [agreementWaiting, enterCut, cutPace, isRunning]
  · simp [enterCut, cutPace]

theorem cutLaw_enterCut (s : State) (hs : s.flt.supply = .cut) : cutLaw (enterCut s) :=
  ⟨by simp [hs, enterCut, cutPace], fun _ => ⟨rfl, rfl⟩⟩

theorem lawful_restartValues (fromCut : Bool) (level : SupplyLevel) (s : State) (hs : s.selfTesting = false) :
    Lawful (restartValues fromCut level s) := by
  refine PreparingLaw.lawful hs rfl ⟨rfl, rfl, rfl, rfl, rfl, ?_, ?_, rfl, ?_, ?_⟩ <;>
    simp [restartValues, State.ofStraps, PaceUnit.initial, workInFlight, AxisUnit.initial, SelectorUnit.initial, trimming,
      selectorBusy, strokeInFlight, StrokeUnit.initial, agreementWaiting, isRunning]

theorem cutLaw_restartValues (fromCut : Bool) (level : SupplyLevel) (s : State) (hl : level ≠ .cut) :
    cutLaw (restartValues fromCut level s) :=
  cutLaw_of_not_cut hl (by simp [restartValues, State.ofStraps, PaceUnit.initial])

theorem kept_beginJoining (s : State) : LawsKept s (beginJoining s) :=
  (Steady.of_blocks rfl rfl ⟨rfl, rfl, rfl⟩).kept rfl

theorem kept_raiseStartingLevel (s : State) : LawsKept s (raiseStartingLevel s) :=
  (Steady.of_blocks (by simp) (by simp) (by simp)).kept (by simp [cutView])

theorem kept_restartFromCut (s : State) : LawsKept s (restartFromCut s) := fun h => by
  have hj := kept_beginJoining _ (lawful_restartValues true .low s h.1)
  exact ⟨hj.1, fun _ => hj.2 (cutLaw_restartValues true .low s (by simp))⟩

/-- R178: a restart by order, also one that returns the station to CUT at once. -/
theorem kept_restartByOrder (mv : Nat) (s : State) : LawsKept s (restartByOrder mv s) := fun h => by
  have hj := ((kept_beginJoining _).trans (kept_raiseStartingLevel _)) (lawful_restartValues false (startingLevel mv) s h.1)
  unfold restartByOrder
  dsimp only
  split
  · rename_i hcut
    exact ⟨lawful_enterCut _ hj.1.1, fun _ => cutLaw_enterCut _ (by simpa [restartValues, restartFaults] using hcut)⟩
  · rename_i hcut
    exact ⟨hj.1, fun _ => hj.2 (cutLaw_restartValues false _ s hcut)⟩

end Sys2Proof.Machine

namespace Sys2Proof.Machine

/-! ### Orders (R29, R31, R81, R86, R145, R161, R175) -/

theorem kept_onService {f : State → State} {s t : State} (hf : LawsKept s (f s)) (ht : onService f s = .next t) :
    LawsKept s t := by
  unfold onService at ht
  cases ht
  split
  · exact hf
  · exact .refl s

theorem kept_onFrame {src : Station} {f : State → State} {s t : State} (hf : ∀ s, LawsKept s (f s))
    (ht : onFrame src f s = .next t) : LawsKept s t := by
  refine kept_onService ?_ ht
  split
  · exact (kept_frameTaken src s).trans (hf _)
  · exact .refl s

/-- An order keeps the laws where its accepted effect does. -/
theorem kept_takeOrder {kind : Byte} {fit : RoleFit} {f : OrderFrame} {owner : State → Verdict} {s t : State}
    (ho : ∀ s u, owner s = .ok u → LawsKept s u) (ht : takeOrder kind fit f owner s = .next t) : LawsKept s t := by
  refine kept_onFrame (fun s => ?_) ht
  have hrefuse : ∀ code, LawsKept s (refuse kind code s) := fun code =>
    (Steady.of_blocks rfl rfl ⟨rfl, rfl, rfl⟩).kept rfl
  unfold judgeOrder
  split
  · exact .refl s
  · exact hrefuse _
  · split
    · rename_i u hu
      exact (ho s u hu).trans ((Steady.of_blocks rfl rfl ⟨rfl, rfl, rfl⟩).kept rfl)
    · exact hrefuse _

theorem kept_ownerArgs {α : Type} {kind : Byte} {fit : RoleFit} {f : OrderFrame} {args : Option α}
    {owner : α → State → Verdict} {s t : State} (ho : ∀ a s u, owner a s = .ok u → LawsKept s u)
    (ht : takeOrder kind fit f (withArgs args owner) s = .next t) : LawsKept s t :=
  kept_takeOrder (fun s u hu => by
    obtain ⟨a, -, hu⟩ := withArgs_ok.1 hu
    exact ho a s u hu) ht

theorem kept_startRun (s : State) (hr : s.pcu.run = .stopped) : LawsKept s (startRun s) := fun h => by
  have hwin := h.preparing_of_rest (.inl hr)
  obtain ⟨hpace, hedge, hopen, hnext, harmed, hwork, -, hwait, -, htrav⟩ := h.preparing hwin
  refine ⟨PreparingLaw.lawful h.1 rfl ⟨hpace, hedge, hopen, hnext, harmed, hwork, by simp [startRun, closeSetup], hwait,
    fun _ => by simp [startRun, closeSetup], ?_⟩, fun hc => cutLaw_of_not_cut (hc.supply_ne (by simp [hr])) ?_⟩
  · have hnone : ¬ s.pcu.traversal.isSome = true := fun ht => by simpa [hr, isTraversing] using htrav.2 ht
    exact ⟨by simp [startRun, closeSetup], fun ht => absurd ht hnone⟩
  · simp [startRun, closeSetup]

theorem isTraversing_travRun (d : TravDir) : isTraversing (travRun d) := by
  cases d
  · exact .inl rfl
  · exact .inr rfl

theorem kept_startTraversal (d : TravDir) (k : Nat) (s : State) (hr : s.pcu.run = .stopped) :
    LawsKept s (startTraversal d k s) := fun h => by
  have hwin := h.preparing_of_rest (.inl hr)
  obtain ⟨-, hjoin, hcut, hstopping⟩ := isMoving_not_atRest (isTraversing_moving (isTraversing_travRun d))
  obtain ⟨hpace, hedge, hopen, hnext, harmed, hwork, -, hwait, -, -⟩ := h.preparing hwin
  exact ⟨PreparingLaw.lawful h.1 rfl ⟨hpace, hedge, hopen, hnext, harmed, hwork, hstopping, hwait, fun _ => ⟨hjoin, hcut⟩,
    fun _ => rfl, fun _ => isTraversing_travRun d⟩, fun hc => cutLaw_of_not_cut (hc.supply_ne (by simp [hr])) hcut⟩

theorem kept_ownerRun (a : Unit) (s u : State) (ho : ownerRun a s = .ok u) : LawsKept s u := by
  simp only [ownerRun, require_ok, isStopped, beq_iff_eq, Except.ok.injEq] at ho
  obtain ⟨hstop, -, -, -, rfl⟩ := ho
  exact (kept_startRun s hstop).trans (kept_settle _)

theorem kept_fixUnlessWaiting (s : State) : LawsKept s (fixUnlessWaiting s) := by
  unfold fixUnlessWaiting
  split
  · exact .refl s
  · exact kept_fixTarget s

theorem kept_ownerTraverse (d : TravDir) (k : Nat) (s u : State) (ho : ownerTraverse d k s = .ok u) : LawsKept s u := by
  simp only [ownerTraverse, require_ok, isStopped, beq_iff_eq, Except.ok.injEq] at ho
  obtain ⟨hstop, -, -, -, rfl⟩ := ho
  exact ((kept_startTraversal d k s hstop).trans (kept_fixUnlessWaiting _)).trans (kept_settle _)

/-- R31: STOP leaves a stop pending that is. -/
theorem kept_acceptStop (s : State) : LawsKept s (acceptStop s) := fun h => by
  have hpulse : LawsKept s (startPulse s) := (Steady.of_blocks rfl rfl ⟨rfl, rfl, rfl⟩).kept rfl
  unfold acceptStop
  dsimp only
  split
  · obtain ⟨hs, hwin, hstop, hwait, hrest⟩ := h
    exact ⟨⟨hs, hwin, fun hr => ⟨(hstop hr).1, rfl⟩, fun hw => ⟨(hwait hw).1, rfl⟩, hrest⟩, cutLaw_congr rfl rfl⟩
  · exact hpulse h

theorem kept_ownerStop (a : Unit) (s u : State) (ho : ownerStop a s = .ok u) : LawsKept s u := by
  simp only [ownerStop, require_ok, Except.ok.injEq] at ho
  exact ho.2 ▸ kept_acceptStop s

/-- An update of a block that leaves its work as it stands, beside which only the fault records change. -/
theorem kept_of_block {s u : State} (hk : u.selfTesting = s.selfTesting ∧ u.pcu = s.pcu) (hv : cutView u = cutView s)
    (hm : u.axu.move = s.axu.move) (ht : u.slu.trim = s.slu.trim) (hb : selectorBusy u = true → selectorBusy s = true)
    (hp : u.stu.phase = s.stu.phase) : LawsKept s u :=
  (Steady.of_work hk fun hf => .inl ((workInFlight_iff s).2 (by
    rcases (workInFlight_iff u).1 hf with h | h | h | h
    · exact .inl (hm ▸ h)
    · exact .inr (.inl (ht ▸ h))
    · exact .inr (.inr (.inl (hb h)))
    · exact .inr (.inr (.inr (hp ▸ h)))))).kept hv

theorem kept_leaveHomed (s : State) : LawsKept s (leaveHomed s) := by
  unfold leaveHomed
  split
  · exact kept_raise _ _ _ s
  · exact .refl s

theorem kept_homingSuccess (s : State) : LawsKept s (homingSuccess s) :=
  LawsKept.trans (kept_of_block ⟨rfl, rfl⟩ rfl rfl rfl id rfl) (kept_unlatch .notHomed _)

theorem kept_closeSetup (s : State) : LawsKept s (closeSetup s) := (Steady.of_blocks rfl rfl ⟨rfl, rfl, rfl⟩).kept rfl

theorem kept_ownerHome (closed : Bool) (a : Unit) (s u : State) (ho : ownerHome closed a s = .ok u) : LawsKept s u := by
  simp only [ownerHome, require_ok, Except.ok.injEq] at ho
  obtain ⟨-, -, rfl⟩ := ho
  have hstart : LawsKept s (startHoming closed s) :=
    ((kept_closeSetup s).trans (kept_leaveHomed _)).trans (kept_of_block ⟨rfl, rfl⟩ rfl rfl rfl id rfl)
  split
  · exact hstart.trans (kept_homingSuccess _)
  · exact hstart

theorem kept_movetoEnd (pt st : Int) (s : State) : LawsKept s (movetoEnd pt st s) :=
  kept_of_block ⟨rfl, rfl⟩ rfl rfl rfl id rfl

theorem kept_ownerMoveto (x : Int) (s u : State) (ho : ownerMoveto x s = .ok u) : LawsKept s u := by
  simp only [ownerMoveto, require_ok, Except.ok.injEq] at ho
  obtain ⟨-, -, rfl⟩ := ho
  unfold startMoveto
  dsimp only
  split
  · exact (kept_closeSetup s).trans (kept_movetoEnd _ _ _)
  · exact (kept_closeSetup s).trans (kept_of_block ⟨rfl, rfl⟩ rfl rfl rfl id rfl)

theorem kept_ownerOrigin (a : Unit) (s u : State) (ho : ownerOrigin a s = .ok u) : LawsKept s u := by
  simp only [ownerOrigin, require_ok, Except.ok.injEq] at ho
  exact ho.2.2 ▸ LawsKept.trans (kept_of_block ⟨rfl, rfl⟩ rfl rfl rfl id rfl) (kept_unlatch .originLost _)

theorem kept_loadBobbin (b : Nat) (s : State) : LawsKept s (loadBobbin b s) :=
  LawsKept.trans (LawsKept.trans (kept_of_block ⟨rfl, rfl⟩ rfl rfl rfl id rfl) (kept_unlatch .bobbinLow _))
    (kept_unlatch .bobbinEmpty _)

theorem kept_ownerBobbin (b : Nat) (s u : State) (ho : ownerBobbin b s = .ok u) : LawsKept s u := by
  simp only [ownerBobbin, require_ok, Except.ok.injEq] at ho
  obtain ⟨-, rfl⟩ := ho
  split
  · exact (kept_loadBobbin b s).trans (kept_raise _ _ _ _)
  · exact kept_loadBobbin b s

/-! ### SETSEG, CLEAR, SETUP and the loader (R63, R71, R161, R175) -/

theorem kept_newDesignRole (r : Nat) (s : State) : LawsKept s (newDesignRole r s) := by
  unfold newDesignRole
  split
  · exact kept_of_block ⟨rfl, rfl⟩ rfl rfl rfl id rfl
  · split
    · exact LawsKept.trans (kept_of_block ⟨rfl, rfl⟩ rfl rfl rfl id rfl) (kept_raise .originLost _ _ _)
    · exact .refl s

theorem kept_ownerSetseg (q : SetSeg) (s u : State) (ho : ownerSetseg q s = .ok u) : LawsKept s u := by
  simp only [ownerSetseg, require_ok, isStopped, beq_iff_eq, Except.ok.injEq] at ho
  obtain ⟨hstop, -, -, -, rfl⟩ := ho
  have hseat : LawsKept s (reseat q s) := (Steady.of_blocks rfl rfl ⟨rfl, rfl, rfl⟩).kept rfl
  split
  · refine (hseat.trans (kept_setCursor _ _)).trans ((kept_newDesignRole q.r _).trans (kept_beginAgreement _ ?_))
    rw [(newDesignRole_keeps _ _).2.2.2, setCursor_pcu]
    exact hstop
  · exact hseat

theorem kept_ownerResume (a : Unit) (s u : State) (ho : ownerResume a s = .ok u) : LawsKept s u := by
  simp only [ownerResume, require_ok, Except.ok.injEq] at ho
  obtain ⟨-, rfl⟩ := ho
  have hopen : LawsKept s { s with dld := { s.dld with
      state := .opened, lockReason := .none, waitCause := .none, resend := false } } :=
    (Steady.of_blocks rfl rfl ⟨rfl, rfl, rfl⟩).kept rfl
  unfold resumeLoader
  dsimp only
  split
  · exact hopen.trans (kept_unlatch _ _)
  · exact hopen

theorem kept_forgetSilent (s : State) : LawsKept s (forgetSilent s) := by
  have hpeers : LawsKept s { s with ptb := { s.ptb with
      peers := vmap (fun p => if p.presence = .silent then { p with presence := .absent } else p) s.ptb.peers } } :=
    (Steady.of_blocks rfl rfl ⟨rfl, rfl, rfl⟩).kept rfl
  unfold forgetSilent
  dsimp only
  split
  · exact (hpeers.trans (kept_rosterCheck _)).trans (kept_testAgreement _)
  · exact hpeers

theorem kept_clearFaults (cs : List FaultCode) (s : State) : LawsKept s (clearFaults cs s) := by
  unfold clearFaults
  dsimp only
  split
  · exact (kept_clearList cs s).trans (kept_forgetSilent _)
  · exact kept_clearList cs s

theorem kept_unjam (lines : CodeLines) (s u : State) (hu : unjam lines s = some u) : LawsKept s u := by
  unfold unjam at hu
  split at hu
  · obtain ⟨q, -, rfl⟩ := Option.map_eq_some_iff.1 hu
    exact kept_settleAt q s
  · cases hu

theorem kept_ownerClear (lines : CodeLines) (c : ClearSet) (s u : State) (ho : ownerClear lines c s = .ok u) :
    LawsKept s u := by
  unfold ownerClear at ho
  split at ho
  · split at ho
    · split at ho
      · rename_i t ht
        exact Except.ok.inj ho ▸ (kept_unjam lines s t ht).trans (kept_clearFaults _ _)
      · cases ho
    · exact Except.ok.inj ho ▸ kept_clearFaults _ s
  · split at ho
    · rename_i t ht
      exact Except.ok.inj ho ▸ (kept_unjam lines s t ht).trans (kept_clearFaults _ _)
    · exact Except.ok.inj ho ▸ kept_clearFaults _ s

theorem kept_setupAxis (es : List SetupEntry) (s : State) : LawsKept s (setupAxis es s) := by
  unfold setupAxis
  split
  · exact (kept_leaveHomed s).trans (kept_of_block ⟨rfl, rfl⟩ rfl rfl rfl id rfl)
  · exact .refl s

theorem kept_setupSelector (es : List SetupEntry) (s : State) : LawsKept s (setupSelector es s) := by
  unfold setupSelector
  split
  · exact kept_of_block ⟨rfl, rfl⟩ rfl rfl rfl (by simp [selectorBusy]) rfl
  · exact .refl s

theorem kept_ownerSetup (es : List SetupEntry) (s u : State) (ho : ownerSetup es s = .ok u) : LawsKept s u := by
  simp only [ownerSetup, require_ok, Except.ok.injEq] at ho
  obtain ⟨-, -, -, -, rfl⟩ := ho
  have hp : LawsKept s { s with params := applySetup s.params es } := (Steady.of_blocks rfl rfl ⟨rfl, rfl, rfl⟩).kept rfl
  exact (hp.trans (kept_setupAxis es _)).trans (kept_setupSelector es _)

theorem kept_enterLockout (reason : LockReason) (segNo : Byte) (s : State) : LawsKept s (enterLockout reason segNo s) :=
  LawsKept.trans (kept_of_block ⟨rfl, rfl⟩ rfl rfl rfl id rfl) (kept_raise .loadLockout _ _ _)

theorem kept_ringTest (seg : Segment) (s : State) : LawsKept s (ringTest seg s) := by
  have hprune : LawsKept s { s with drg := prune s.pcu.cursor.n (colorCount seg.records) s.drg } :=
    (Steady.of_blocks rfl rfl ⟨rfl, rfl, rfl⟩).kept rfl
  rcases ringTest_cases seg s with ⟨cause, -, e⟩ | ⟨-, -, e⟩
  · rw [e]
    exact hprune.trans ((Steady.of_blocks (by simp) (by simp) (by simp)).kept (by simp [cutView]))
  · have happ : ∀ t, LawsKept t (appended seg t) := fun t => (Steady.of_blocks rfl rfl ⟨rfl, rfl, rfl⟩).kept rfl
    rw [e, appendSegment_eq]
    exact (hprune.trans (happ _)).trans (kept_settle _)

theorem kept_judgeDesign (body : List Byte) (s : State) : LawsKept s (judgeDesign body s) := by
  unfold judgeDesign
  split
  · exact .refl s
  · split
    · rename_i seg hseg
      rcases judgeSegment_cases seg s with e | ⟨-, e⟩ | ⟨reason, -, e⟩ | ⟨-, -, e⟩
      · rw [e]
        exact .refl s
      · rw [e]
        exact (Steady.of_blocks rfl rfl ⟨rfl, rfl, rfl⟩).kept rfl
      · rw [e]
        exact kept_enterLockout _ _ s
      · rw [e]
        exact kept_ringTest seg s
    · exact .refl s

/-! ### The peer table (R44 to R46) -/

theorem kept_takeBeacon (src : Station) (body : List Byte) (s : State) : LawsKept s (takeBeacon src body s) := by
  unfold takeBeacon
  split
  · exact .refl s
  · unfold dropPeer
    dsimp only
    split
    · exact ((kept_setPeer _ _ s).trans (kept_rosterCheck _)).trans (kept_testAgreement _)
    · exact .refl s
  · have hroster : ∀ b t, LawsKept t (rosterIfChanged b t) := fun b t => by
      cases b
      · exact .refl t
      · exact kept_rosterCheck t
    exact ((kept_setPeer _ _ s).trans (hroster _ _)).trans (kept_testAgreement _)

theorem kept_silencePeer (n : Station) (s : State) : LawsKept s (silencePeer n s) :=
  ((kept_setPeer _ _ s).trans (kept_raisePeerLost _ _ _)).trans ((kept_rosterCheck _).trans (kept_testAgreement _))

end Sys2Proof.Machine

namespace Sys2Proof.Machine

/-! ### Orders that leave the pace unit alone, and the line (R38, R104, R106, R122, R162, R182, R186) -/

theorem kept_ownerRate (r : Nat) (s u : State) (ho : ownerRate r s = .ok u) : LawsKept s u :=
  Except.ok.inj ho ▸ (Steady.of_blocks rfl rfl ⟨rfl, rfl, rfl⟩).kept rfl

theorem kept_ownerSetmap (ps : List (Nat × Nat)) (s u : State) (ho : ownerSetmap ps s = .ok u) : LawsKept s u := by
  simp only [ownerSetmap, require_ok, Except.ok.injEq] at ho
  exact ho.2.2 ▸ kept_of_block ⟨rfl, rfl⟩ rfl rfl rfl id rfl

theorem kept_ownerSetneedle (q : SetNeedle) (s u : State) (ho : ownerSetneedle q s = .ok u) : LawsKept s u := by
  simp only [ownerSetneedle, require_ok, Except.ok.injEq] at ho
  exact ho.2 ▸ kept_of_block ⟨rfl, rfl⟩ rfl rfl rfl id rfl

theorem kept_ownerHead (p : Participation) (a : Unit) (s u : State) (ho : ownerHead p a s = .ok u) : LawsKept s u :=
  Except.ok.inj ho ▸ kept_of_block ⟨rfl, rfl⟩ rfl rfl rfl id rfl

theorem kept_ownerSetaction (q : FaultCode × Action) (s u : State) (ho : ownerSetaction q s = .ok u) : LawsKept s u :=
  Except.ok.inj ho ▸ kept_setFault _ _ s

theorem kept_ownerRestart (mv : Nat) (a : Unit) (s u : State) (ho : ownerRestart mv a s = .ok u) : LawsKept s u :=
  Except.ok.inj ho ▸ kept_restartByOrder mv s

theorem kept_execUnknownOrder {code : Byte} {f : OrderFrame} {s t : State} (ht : execUnknownOrder code f s = .next t) :
    LawsKept s t := by
  unfold execUnknownOrder at ht
  split at ht
  · cases ht
    exact .refl s
  · exact kept_takeOrder (fun _ _ ho => by cases ho) ht

theorem clearFresh_pcu (cs : List FaultCode) (s : State) :
    (clearFresh cs s).pcu = s.pcu ∧ (clearFresh cs s).liu = s.liu := by
  induction cs generalizing s with
  | nil => exact ⟨rfl, rfl⟩
  | cons c cs ih => exact ih _

theorem kept_startTx (tx : Transmission) (s : State) (hr : s.pcu.run ≠ .cut) : LawsKept s (startTx tx s) :=
  kept_line (.of_blocks rfl rfl ⟨rfl, rfl, rfl⟩) rfl fun _ hc => absurd hc hr

theorem kept_execTransmitAttempt {s t : State} (ht : execTransmitAttempt s = .next t) : LawsKept s t := by
  refine kept_onService ?_ ht
  split
  · rename_i hc
    obtain ⟨-, -, hr⟩ := hc
    split
    · refine (kept_clearFresh _ s).trans (kept_startTx _ _ ?_)
      rw [(clearFresh_pcu _ s).1]
      exact hr
    · split
      · split
        · exact kept_startTx _ s hr
        · exact .refl s
      · exact .refl s
  · exact .refl s

/-- R182, R186: what the end of a transmission does to the slots; in CUT none is under way. -/
theorem kept_txEnd {s u : State} {tx : Transmission} (htx : s.liu.tx = some tx)
    (hk : u.selfTesting = s.selfTesting ∧ u.pcu = s.pcu) (hb : u.stu = s.stu ∧ u.slu = s.slu ∧ u.axu = s.axu)
    (hsup : u.flt.supply = s.flt.supply) : LawsKept s u :=
  kept_line (.of_blocks hk.1 (by rw [hk.2]) hb) hsup fun hc hr => absurd (hc.2 hr).1 (by simp [htx])

theorem kept_execArbitrationLost {s t : State} (ht : execArbitrationLost s = .next t) : LawsKept s t := by
  refine kept_onService ?_ ht
  split
  · rename_i tx htx
    exact kept_txEnd htx ⟨rfl, rfl⟩ ⟨rfl, rfl, rfl⟩ rfl
  · exact .refl s

theorem kept_execCollision {s t : State} (ht : execCollision s = .next t) : LawsKept s t := by
  refine kept_onService ?_ ht
  split
  · rename_i tx htx
    dsimp only
    split <;> exact kept_txEnd htx ⟨rfl, rfl⟩ ⟨rfl, rfl, rfl⟩ rfl
  · exact .refl s

theorem kept_execFrameSent {s t : State} (ht : execFrameSent s = .next t) : LawsKept s t := by
  refine kept_onService ?_ ht
  split
  · rename_i tx htx
    have hend : LawsKept s { s with liu := { s.liu with tx := none, framer := .waitIdle, collisions := 0 } } :=
      kept_txEnd htx ⟨rfl, rfl⟩ ⟨rfl, rfl, rfl⟩ rfl
    dsimp only
    split
    · exact hend.trans (kept_deliverFaults _ _)
    · exact kept_txEnd htx ⟨rfl, rfl⟩ ⟨rfl, rfl, rfl⟩ rfl
  · exact .refl s

/-- The framer and the timers of the line are outside the laws. -/
theorem kept_framer {s : State} {l : LineInterface} (hl : l.tx = s.liu.tx ∧ l.beaconDue = s.liu.beaconDue) :
    LawsKept s { s with liu := l } :=
  Steady.kept (s := s) (.of_blocks rfl rfl ⟨rfl, rfl, rfl⟩) (by simp [cutView, hl])

theorem kept_execFrameAbandoned {s t : State} (ht : execFrameAbandoned s = .next t) : LawsKept s t := by
  refine kept_onService ?_ ht
  split
  · exact .refl s
  · exact kept_framer ⟨rfl, rfl⟩

theorem kept_execLineIdle {s t : State} (ht : execLineIdle s = .next t) : LawsKept s t := by
  refine kept_onService ?_ ht
  split
  · exact .refl s
  · exact kept_framer ⟨rfl, rfl⟩

theorem kept_execBeaconTimer {s t : State} (ht : execBeaconTimer s = .next t) : LawsKept s t :=
  kept_onService ((kept_framer (s := s) (l := { s.liu with beaconTimer := .running Config.beaconPeriodUs })
    ⟨rfl, rfl⟩).trans (kept_beaconFallsDue _)) ht

theorem kept_execPeerAgeExpiry {n : Station} {s t : State} (ht : execPeerAgeExpiry n s = .next t) : LawsKept s t := by
  refine kept_onService ?_ ht
  split
  · exact .refl s
  · split
    · exact kept_silencePeer n s
    · exact kept_setPeer _ _ s

theorem kept_execBeaconReceived {src : Station} {body : List Byte} {s t : State}
    (ht : execBeaconReceived src body s = .next t) : LawsKept s t := by
  refine kept_onFrame (fun s => ?_) ht
  split
  · exact .refl s
  · exact kept_takeBeacon src body s

/-! ### The pace unit's events (R23, R32 to R37, R51, R53) -/

theorem kept_execJoiningListenEnd {lines : CodeLines} {s t : State} (ht : execJoiningListenEnd lines s = .next t) :
    LawsKept s t := by
  refine kept_onService ?_ ht
  split
  · rename_i hc
    exact kept_completeJoining lines s hc.1
  · exact .refl s

theorem kept_execCrossing {lines : CodeLines} {s t : State} (ht : execCrossing lines s = .next t) : LawsKept s t := by
  refine kept_onService ?_ ht
  split
  · rename_i hc
    split
    · exact kept_openWindow lines _ s hc.1
    · exact .refl s
  · exact .refl s

theorem kept_execGuardEnd {s t : State} (ht : execGuardEnd s = .next t) : LawsKept s t := by
  refine kept_onService ?_ ht
  split
  · rename_i he
    exact kept_guardEnd s he
  · exact .refl s

theorem kept_execMinAssertionEnd {s t : State} (ht : execMinAssertionEnd s = .next t) : LawsKept s t := by
  refine kept_onService ?_ ht
  split
  · rename_i he
    exact (kept_minAssertion s he).trans (kept_settle _)
  · exact .refl s

/-- An update of the items of the pace unit that the laws do not speak of. -/
theorem kept_pace {s : State} {p : PaceUnit} (hp : lawPart p = lawPart s.pcu) : LawsKept s { s with pcu := p } := by
  have hq : Steady s { s with pcu := p } := .of_blocks rfl hp ⟨rfl, rfl, rfl⟩
  exact hq.kept rfl

theorem kept_execHaltSeenAsserted {s t : State} (ht : execHaltSeenAsserted s = .next t) : LawsKept s t := by
  refine kept_onService ?_ ht
  dsimp only
  have hseen : LawsKept s { s with pcu := { s.pcu with haltSeen := true } } := kept_pace rfl
  split
  · rename_i hm
    exact hseen.trans (kept_haltMoving _ hm)
  · exact hseen

theorem kept_execHaltSeenReleased {s t : State} (ht : execHaltSeenReleased s = .next t) : LawsKept s t :=
  kept_onService ((kept_pace (s := s) (p := { s.pcu with haltSeen := false }) rfl).trans (kept_settle _)) ht

theorem kept_execHaltWaitExpiry {s t : State} (ht : execHaltWaitExpiry s = .next t) : LawsKept s t := by
  refine kept_onService ?_ ht
  split
  · rename_i hc
    intro h
    have hr := h.ready hc.1
    exact kept_enterStopped _ s hr.edge hr.work (isMoving_not_atRest hr.run).2.2.1 h
  · exact .refl s

theorem kept_execHaltPulseEnd {s t : State} (ht : execHaltPulseEnd s = .next t) : LawsKept s t :=
  kept_onService (kept_pace rfl) ht

theorem kept_execStarveTimerExpiry {s t : State} (ht : execStarveTimerExpiry s = .next t) : LawsKept s t := by
  refine kept_onService ?_ ht
  split
  · exact LawsKept.trans (kept_pace rfl) (kept_raise _ _ _ _)
  · exact .refl s

theorem kept_execStallTimerExpiry {s t : State} (ht : execStallTimerExpiry s = .next t) : LawsKept s t := by
  refine kept_onService ?_ ht
  split
  · exact LawsKept.trans (kept_pace rfl) (kept_raise _ _ _ _)
  · exact .refl s

theorem kept_execAgreementTimerExpiry {s t : State} (ht : execAgreementTimerExpiry s = .next t) : LawsKept s t := by
  refine kept_onService ?_ ht
  split
  · exact kept_completeAgreement s
  · exact .refl s

/-! ### The axis (R82, R83, R86, R92, R93, R98) -/

/-- An update of blocks whose work was in flight. -/
theorem kept_working {s u : State} (hk : u.selfTesting = s.selfTesting ∧ u.pcu = s.pcu) (hv : cutView u = cutView s)
    (hw : workInFlight s = true) : LawsKept s u :=
  (Steady.of_work hk fun _ => .inl hw).kept hv

theorem kept_execWindowMoveStep {s t : State} (ht : execWindowMoveStep s = .next t) : LawsKept s t := by
  refine kept_onService ?_ ht
  split
  · exact .refl s
  · rename_i m hm
    have hw : workInFlight s = true := (workInFlight_iff s).2 (.inl (by simp [hm]))
    split
    · exact kept_working ⟨rfl, rfl⟩ rfl hw
    · exact .settle (kept_working ⟨rfl, rfl⟩ rfl hw)

theorem kept_execHomingStep {s t : State} (ht : execHomingStep s = .next t) : LawsKept s t := by
  refine kept_onService ?_ ht
  split
  · split
    · exact kept_of_block ⟨rfl, rfl⟩ rfl rfl rfl id rfl
    · exact .refl s
  · exact .refl s

theorem kept_execHomeSwitchSeenClosed {s t : State} (ht : execHomeSwitchSeenClosed s = .next t) : LawsKept s t := by
  refine kept_onService ?_ ht
  split
  · have hseen : LawsKept s { s with axu := { s.axu with homeSwitch := true } } :=
      kept_of_block ⟨rfl, rfl⟩ rfl rfl rfl id rfl
    dsimp only
    split
    · exact (hseen.trans (kept_homingSuccess _)).trans (kept_settle _)
    · exact hseen
  · exact .refl s

theorem kept_execHomingFail {s t : State} (ht : execHomingFail s = .next t) : LawsKept s t := by
  refine kept_onService ?_ ht
  split
  · split
    · have hfail : LawsKept s { s with axu := { s.axu with homing := .unhomed, op := none } } :=
        kept_of_block ⟨rfl, rfl⟩ rfl rfl rfl id rfl
      exact (hfail.trans (kept_raise _ _ _ _)).trans (kept_settle _)
    · exact .refl s
  · exact .refl s

theorem kept_execMovetoStep {s t : State} (ht : execMovetoStep s = .next t) : LawsKept s t := by
  refine kept_onService ?_ ht
  split
  · split
    · exact kept_of_block ⟨rfl, rfl⟩ rfl rfl rfl id rfl
    · exact (kept_movetoEnd _ _ s).trans (kept_settle _)
  · exact .refl s

theorem kept_execDriveFaultAsserted {s t : State} (ht : execDriveFaultAsserted s = .next t) : LawsKept s t := by
  refine kept_onService ?_ ht
  split
  · exact LawsKept.trans (kept_of_block ⟨rfl, rfl⟩ rfl rfl rfl id rfl) (kept_raise _ _ _ _)
  · exact .refl s

theorem kept_execDriveFaultReleased {s t : State} (ht : execDriveFaultReleased s = .next t) : LawsKept s t := by
  refine kept_onService ?_ ht
  split
  · exact kept_of_block ⟨rfl, rfl⟩ rfl rfl rfl id rfl
  · exact .refl s

end Sys2Proof.Machine

namespace Sys2Proof.Machine

/-! ### The selector (R108 to R113, R118) -/

theorem jam_supply (p : Nat) (s : State) : (jam p s).flt.supply = s.flt.supply := (workKeeps_jam p s).supply

theorem windowSelect_supply (colour : Nat) (lines : CodeLines) (s : State) :
    (windowSelect colour lines s).flt.supply = s.flt.supply := by
  unfold windowSelect
  dsimp only
  split
  · exact (workKeeps_startMove _ _ s).supply
  · rfl

theorem selectAfterTrim_supply (lines : CodeLines) (s : State) : (selectAfterTrim lines s).flt.supply = s.flt.supply := by
  unfold selectAfterTrim
  split
  · split
    · exact windowSelect_supply _ _ s
    · exact windowSelect_supply _ _ s
    · rfl
  · rfl

theorem countDetent_supply (s : State) : (countDetent s).1.flt.supply = s.flt.supply := by
  unfold countDetent
  dsimp only
  generalize (if s.slu.dir == .positive then decide (15 ≤ s.slu.counter) else s.slu.counter == 0) = b
  cases b <;> rfl

theorem detentWhileMoving_supply (p : Nat) (s : State) : (detentWhileMoving p s).flt.supply = s.flt.supply := by
  unfold detentWhileMoving
  dsimp only
  split
  · exact (jam_supply p _).trans (countDetent_supply s)
  · split <;> exact countDetent_supply s

theorem detentWhileConfirming_supply (p : Nat) (s : State) :
    (detentWhileConfirming p s).flt.supply = s.flt.supply := by
  unfold detentWhileConfirming
  dsimp only
  split
  · exact countDetent_supply s
  · exact (jam_supply p _).trans (countDetent_supply s)

theorem settleRead_supply (p : Nat) (lines : CodeLines) (s : State) : (settleRead p lines s).flt.supply = s.flt.supply := by
  unfold settleRead
  split
  · exact jam_supply p s
  · dsimp only
    split
    · rfl
    · split
      · exact jam_supply p _
      · rfl

theorem workInFlight_of_busy {s : State} (h : selectorBusy s = true) : workInFlight s = true :=
  (workInFlight_iff s).2 (.inr (.inr (.inl h)))

theorem kept_execTrimPulseEnd {lines : CodeLines} {s t : State} (ht : execTrimPulseEnd lines s = .next t) :
    LawsKept s t := by
  refine kept_onService ?_ ht
  split
  · rename_i htrim
    refine .settle (kept_working ⟨?_, ?_⟩ ?_ ((workInFlight_iff s).2 (.inr (.inl htrim))))
    · simp
    · simp
    · simp [cutView, selectAfterTrim_supply]
  · exact .refl s

theorem kept_execDetentPulse {s t : State} (ht : execDetentPulse s = .next t) : LawsKept s t := by
  refine kept_onService ?_ ht
  split
  · dsimp only
    split
    · rename_i p hsel
      refine .settle (kept_working ⟨?_, ?_⟩ ?_ (workInFlight_of_busy (by simp [selectorBusy, hsel])))
      · simp
      · simp
      · simp [cutView, detentWhileMoving_supply]
    · rename_i p hsel
      refine .settle (kept_working ⟨?_, ?_⟩ ?_ (workInFlight_of_busy (by simp [selectorBusy, hsel])))
      · simp
      · simp
      · simp [cutView, detentWhileConfirming_supply]
    · exact kept_of_block ⟨rfl, rfl⟩ rfl rfl rfl id rfl
  · exact .refl s

theorem kept_execDetentReleased {s t : State} (ht : execDetentReleased s = .next t) : LawsKept s t := by
  refine kept_onService ?_ ht
  split
  · dsimp only
    split
    · exact .settle (kept_of_block ⟨rfl, rfl⟩ rfl rfl rfl (by simp [selectorBusy]) rfl)
    · exact kept_of_block ⟨rfl, rfl⟩ rfl rfl rfl id rfl
  · exact .refl s

theorem kept_execSelMoveLimitExpiry {s t : State} (ht : execSelMoveLimitExpiry s = .next t) : LawsKept s t := by
  refine kept_onService ?_ ht
  split
  · rename_i p hsel
    split
    · refine .settle (kept_working ⟨?_, ?_⟩ ?_ (workInFlight_of_busy (by simp [selectorBusy, hsel])))
      · simp
      · simp
      · simp [cutView, jam_supply]
    · exact .refl s
  · exact .refl s

theorem kept_execSelSettleExpiry {lines : CodeLines} {s t : State} (ht : execSelSettleExpiry lines s = .next t) :
    LawsKept s t := by
  refine kept_onService ?_ ht
  split
  · rename_i p hsel
    split
    · refine .settle (kept_working ⟨?_, ?_⟩ ?_ (workInFlight_of_busy (by simp [selectorBusy, hsel])))
      · simp
      · simp
      · simp [cutView, settleRead_supply]
    · exact .refl s
  · exact .refl s

/-! ### The stroke unit and the thread monitor (R126 to R134, R136 to R141) -/

theorem updateRuns_supply (k : StrokeClass) (s : State) : (updateRuns k s).flt.supply = s.flt.supply := by
  have hruns : (runsForNeedle s).flt.supply = s.flt.supply := by
    unfold runsForNeedle
    split <;> rfl
  rw [← hruns]
  cases k with
  | breakSuspect =>
    unfold updateRuns countBreak
    dsimp only
    split <;> rfl
  | snagSuspect =>
    unfold updateRuns countSnag
    dsimp only
    split <;> rfl
  | loose =>
    unfold updateRuns countLoose
    dsimp only
    split <;> rfl
  | tight =>
    unfold updateRuns countTight
    dsimp only
    split <;> rfl
  | good => rfl

theorem subtractBobbin_supply (s : State) : (subtractBobbin s).flt.supply = s.flt.supply := by
  unfold subtractBobbin
  split
  · rfl
  · dsimp only
    split <;> split <;> rfl

theorem strokeEnd_supply (s : State) : (strokeEnd s).flt.supply = s.flt.supply := by
  have hdwell : ∀ t : State, (beginDwell t).flt.supply = t.flt.supply := fun t => by
    unfold beginDwell
    split <;> rfl
  rw [strokeEnd, hdwell, subtractBobbin_supply, updateRuns_supply]
  rfl

theorem workInFlight_of_stroke {s : State} (h : s.stu.phase ≠ .idle) : workInFlight s = true :=
  (workInFlight_iff s).2 (.inr (.inr (.inr h)))

theorem kept_strokeEnd {s t : State} (hk : t.selfTesting = s.selfTesting ∧ t.pcu = s.pcu) (hv : cutView t = cutView s)
    (hp : s.stu.phase ≠ .idle) : LawsKept s (settle (strokeEnd t)) := by
  refine .settle (kept_working ⟨?_, ?_⟩ ?_ (workInFlight_of_stroke hp))
  · simp [hk]
  · simp [hk]
  · rw [← hv]
    simp [cutView, strokeEnd_supply]

theorem kept_execNeedleDownSeen {s t : State} (ht : execNeedleDownSeen s = .next t) : LawsKept s t := by
  refine kept_onService ?_ ht
  split
  · dsimp only
    split
    · rename_i hp
      exact kept_working ⟨rfl, rfl⟩ rfl (workInFlight_of_stroke (by simp [hp]))
    · exact kept_of_block ⟨rfl, rfl⟩ rfl rfl rfl id rfl
  · exact .refl s

theorem kept_execNeedleDownReleased {s t : State} (ht : execNeedleDownReleased s = .next t) : LawsKept s t := by
  refine kept_onService ?_ ht
  split
  · exact kept_of_block ⟨rfl, rfl⟩ rfl rfl rfl id rfl
  · exact .refl s

theorem kept_execNeedleUpSeen {s t : State} (ht : execNeedleUpSeen s = .next t) : LawsKept s t := by
  refine kept_onService ?_ ht
  split
  · dsimp only
    split
    · rename_i hp
      have hne : s.stu.phase ≠ .idle := by simp [hp]
      unfold needleReachesTop
      dsimp only
      split
      · exact kept_strokeEnd (s := s) ⟨rfl, rfl⟩ rfl hne
      · exact .settle (kept_working ⟨rfl, rfl⟩ rfl (workInFlight_of_stroke hne))
    · rename_i hp
      exact .settle (kept_working ⟨rfl, rfl⟩ rfl (workInFlight_of_stroke (by simp [hp])))
    · exact .settle (kept_of_block ⟨rfl, rfl⟩ rfl rfl rfl id rfl)
  · exact .refl s

theorem kept_execNeedleUpReleased {s t : State} (ht : execNeedleUpReleased s = .next t) : LawsKept s t := by
  refine kept_onService ?_ ht
  split
  · exact kept_of_block ⟨rfl, rfl⟩ rfl rfl rfl id rfl
  · exact .refl s

theorem kept_execStrokeLimitExpiry {s t : State} (ht : execStrokeLimitExpiry s = .next t) : LawsKept s t := by
  refine kept_onService ?_ ht
  split
  · split
    · rename_i hp
      have hw : workInFlight s = true := workInFlight_of_stroke (by simp [hp])
      split
      · exact .settle (kept_working ⟨rfl, rfl⟩ rfl hw)
      · exact kept_working ⟨rfl, rfl⟩ rfl hw
    · rename_i hp
      exact kept_working ⟨rfl, rfl⟩ rfl (workInFlight_of_stroke (by simp [hp]))
    · exact .refl s
  · exact .refl s

theorem kept_execSampleOneShotEnd {s t : State} (ht : execSampleOneShotEnd s = .next t) : LawsKept s t := by
  refine kept_onService ?_ ht
  split
  · exact kept_of_block ⟨rfl, rfl⟩ rfl rfl rfl id rfl
  · exact .refl s

theorem kept_execConversionEnd {v : BitVec 10} {s t : State} (ht : execConversionEnd v s = .next t) : LawsKept s t := by
  refine kept_onService ?_ ht
  split
  · exact .refl s
  · dsimp only
    split
    · rename_i hp
      exact kept_strokeEnd (s := s) ⟨rfl, rfl⟩ rfl (by simp [hp])
    · exact kept_of_block ⟨rfl, rfl⟩ rfl rfl rfl id rfl

theorem kept_execDwellEnd {s t : State} (ht : execDwellEnd s = .next t) : LawsKept s t := by
  refine kept_onService ?_ ht
  split
  · split
    · rename_i hp
      exact .settle (kept_working ⟨rfl, rfl⟩ rfl (workInFlight_of_stroke (by simp [hp])))
    · exact kept_of_block ⟨rfl, rfl⟩ rfl rfl rfl id rfl
  · exact .refl s

theorem kept_execFeedPulse {s t : State} (ht : execFeedPulse s = .next t) : LawsKept s t := by
  refine kept_onService ?_ ht
  split
  · exact kept_of_block ⟨rfl, rfl⟩ rfl rfl rfl id rfl
  · exact .refl s

theorem kept_execSurge {s t : State} (ht : execSurge s = .next t) : LawsKept s t := by
  refine kept_onService ?_ ht
  split
  · exact kept_of_block ⟨rfl, rfl⟩ rfl rfl rfl id rfl
  · exact .refl s

/-! ### The supply and the self-test (R167 to R169, R177) -/

/-- R167: a change between two supply levels other than CUT. -/
theorem kept_setSupply {level : SupplyLevel} {s : State} (hn : level ≠ .cut) (ho : s.flt.supply ≠ .cut) :
    LawsKept s (setSupply level s) := fun h =>
  ⟨(Steady.of_blocks (s := s) (u := setSupply level s) rfl rfl ⟨rfl, rfl, rfl⟩).lawful h,
    fun hc => cutLaw_of_not_cut hn fun hr => ho (hc.1.2 hr)⟩

theorem kept_execSupplyFallWarn {s t : State} (ht : execSupplyFallWarn s = .next t) : LawsKept s t := by
  refine kept_onService ?_ ht
  split
  · rename_i hs
    exact (kept_setSupply (by simp) (by simp [hs])).trans (kept_raise _ _ _ _)
  · exact .refl s

theorem kept_execSupplyRiseNormal {s t : State} (ht : execSupplyRiseNormal s = .next t) : LawsKept s t := by
  refine kept_onService ?_ ht
  split
  · rename_i hs
    exact kept_setSupply (by simp) (by simp [hs])
  · exact .refl s

theorem kept_execSupplyFallLow {s t : State} (ht : execSupplyFallLow s = .next t) : LawsKept s t := by
  refine kept_onService ?_ ht
  split
  · rename_i hs
    exact (kept_setSupply (by simp) (by simp [hs])).trans (kept_raise _ _ _ _)
  · exact .refl s

theorem kept_execSupplyRiseWarn {s t : State} (ht : execSupplyRiseWarn s = .next t) : LawsKept s t := by
  refine kept_onService ?_ ht
  split
  · rename_i hs
    exact kept_setSupply (by simp) (by simp [hs])
  · exact .refl s

theorem kept_execSupplyFallCut {s t : State} (ht : execSupplyFallCut s = .next t) : LawsKept s t := by
  refine kept_onService ?_ ht
  split
  · exact fun h => ⟨lawful_enterCut _ h.1, fun _ => cutLaw_enterCut _ rfl⟩
  · exact .refl s

theorem kept_execSupplyRecovery {s t : State} (ht : execSupplyRecovery s = .next t) : LawsKept s t := by
  refine kept_onService ?_ ht
  split
  · exact kept_restartFromCut s
  · exact .refl s

/-- R177: with the self-test ended the station is in service in JOINING. -/
theorem lawful_selfTestDone {s : State} (h : paceLaw s) : Lawful { s with selfTesting := false } := by
  obtain ⟨hwin, hstop, hwait, hagr, htrav, hheld, htarget, -⟩ := h
  exact ⟨rfl, hwin, hstop, hwait, hagr, htrav, hheld, htarget, by simp⟩

/-- R167, R177: the end of the self-test keeps the laws, with the supply level taken as the supply stands. -/
theorem laws_endSelfTest (role : Role) (ringFailed roleFailed : Bool) (mv : Nat) {s : State} (h : paceLaw s)
    (hs : s.selfTesting = true) :
    Lawful (endSelfTest role ringFailed roleFailed mv s) ∧ cutLaw (endSelfTest role ringFailed roleFailed mv s) := by
  have hjoin : s.pcu.run = .joining := by
    obtain ⟨-, -, -, -, -, -, -, hself⟩ := h
    exact hself hs
  have hrecorded : Steady { s with selfTesting := false } (recordSelfTest role ringFailed roleFailed s) := by
    unfold recordSelfTest
    dsimp only
    split <;> exact .of_blocks rfl rfl ⟨rfl, rfl, rfl⟩
  have hlaw := hrecorded.lawful (lawful_selfTestDone h)
  have htaken : Steady (recordSelfTest role ringFailed roleFailed s)
      (beginJoining (takeSupply mv (recordSelfTest role ringFailed roleFailed s))) :=
    .of_blocks (by simp [takeSupply]) (by simp [takeSupply, beginJoining, lawPart]) (by simp [takeSupply])
  have hsup : (beginJoining (takeSupply mv (recordSelfTest role ringFailed roleFailed s))).flt.supply = startingLevel mv := by
    simp [takeSupply]
  have hrun := htaken.run_eq.trans (hrecorded.run_eq.trans hjoin)
  unfold endSelfTest
  dsimp only
  split
  · rename_i hcut
    exact ⟨lawful_enterCut _ (htaken.lawful hlaw).1, cutLaw_enterCut _ (hsup.trans hcut)⟩
  · rename_i hcut
    exact ⟨htaken.lawful hlaw, cutLaw_of_not_cut (by rwa [hsup]) (by simp [hrun])⟩

end Sys2Proof.Machine

namespace Sys2Proof.Machine

/-! ### Every command and every step (R19 to R28, R168) -/

/-- R176, R177: out of service no command but RESET and SELF_TEST_END acts. -/
theorem exec_outOfService {c : Instr} {s : State} (hoff : inService s = false)
    (hreset : ∀ number pins, c ≠ .reset number pins) (htest : ∀ ring lines drive mv, c ≠ .selfTestEnd ring lines drive mv) :
    exec c s = .next s := by
  have hne : ¬ inService s = true := by simp [hoff]
  cases c with
  | reset number pins => exact absurd rfl (hreset number pins)
  | selfTestEnd ring lines drive mv => exact absurd rfl (htest ring lines drive mv)
  | unknownOrder code f =>
    have horder : takeOrder code .all f (fun _ => .error .badArg) s = .next s := onService_off _ s hoff
    change execUnknownOrder code f s = .next s
    rw [execUnknownOrder, horder, ite_self]
  | _ => exact congrArg Host.Outcome.next (if_neg hne)

/-- A command other than RESET and SELF_TEST_END keeps the laws at a station in service. -/
theorem kept_exec {c : Instr} {s t : State} (hreset : ∀ number pins, c ≠ .reset number pins)
    (htest : ∀ ring lines drive mv, c ≠ .selfTestEnd ring lines drive mv) (ht : exec c s = .next t) : LawsKept s t := by
  cases c with
  | reset number pins => exact absurd rfl (hreset number pins)
  | selfTestEnd ring lines drive mv => exact absurd rfl (htest ring lines drive mv)
  | joiningListenEnd lines => exact kept_execJoiningListenEnd ht
  | run f => exact kept_ownerArgs kept_ownerRun ht
  | stop f => exact kept_ownerArgs kept_ownerStop ht
  | rate f => exact kept_ownerArgs kept_ownerRate ht
  | back f => exact kept_ownerArgs (kept_ownerTraverse .back) ht
  | forward f => exact kept_ownerArgs (kept_ownerTraverse .forward) ht
  | home f b => exact kept_ownerArgs (kept_ownerHome b) ht
  | moveto f => exact kept_ownerArgs kept_ownerMoveto ht
  | origin f => exact kept_ownerArgs kept_ownerOrigin ht
  | setmap f => exact kept_ownerArgs kept_ownerSetmap ht
  | setneedle f => exact kept_ownerArgs kept_ownerSetneedle ht
  | headOn f => exact kept_ownerArgs (kept_ownerHead .enabled) ht
  | headOff f => exact kept_ownerArgs (kept_ownerHead .off) ht
  | bobbin f => exact kept_ownerArgs kept_ownerBobbin ht
  | setseg f => exact kept_ownerArgs kept_ownerSetseg ht
  | resumeLoad f => exact kept_ownerArgs kept_ownerResume ht
  | clear f lines => exact kept_ownerArgs (kept_ownerClear lines) ht
  | setaction f => exact kept_ownerArgs kept_ownerSetaction ht
  | setup f => exact kept_ownerArgs kept_ownerSetup ht
  | restart f mv => exact kept_ownerArgs (kept_ownerRestart mv) ht
  | unknownOrder code f => exact kept_execUnknownOrder ht
  | designSegment src body => exact kept_onFrame (kept_judgeDesign body) ht
  | beaconReceived src body => exact kept_execBeaconReceived ht
  | urgentReceived src body => exact kept_onFrame LawsKept.refl ht
  | peerAgeExpiry n => exact kept_execPeerAgeExpiry ht
  | beaconTimer => exact kept_execBeaconTimer ht
  | transmitAttempt => exact kept_execTransmitAttempt ht
  | arbitrationLost => exact kept_execArbitrationLost ht
  | collision => exact kept_execCollision ht
  | frameSent => exact kept_execFrameSent ht
  | crossing lines => exact kept_execCrossing ht
  | guardEnd => exact kept_execGuardEnd ht
  | minAssertionEnd => exact kept_execMinAssertionEnd ht
  | haltSeenAsserted => exact kept_execHaltSeenAsserted ht
  | haltSeenReleased => exact kept_execHaltSeenReleased ht
  | haltWaitExpiry => exact kept_execHaltWaitExpiry ht
  | haltPulseEnd => exact kept_execHaltPulseEnd ht
  | starveTimerExpiry => exact kept_execStarveTimerExpiry ht
  | stallTimerExpiry => exact kept_execStallTimerExpiry ht
  | agreementTimerExpiry => exact kept_execAgreementTimerExpiry ht
  | windowMoveStep => exact kept_execWindowMoveStep ht
  | homingStep => exact kept_execHomingStep ht
  | homeSwitchSeenClosed => exact kept_execHomeSwitchSeenClosed ht
  | homingFail => exact kept_execHomingFail ht
  | movetoStep => exact kept_execMovetoStep ht
  | driveFaultAsserted => exact kept_execDriveFaultAsserted ht
  | driveFaultReleased => exact kept_execDriveFaultReleased ht
  | trimPulseEnd lines => exact kept_execTrimPulseEnd ht
  | detentPulse => exact kept_execDetentPulse ht
  | detentReleased => exact kept_execDetentReleased ht
  | selMoveLimitExpiry => exact kept_execSelMoveLimitExpiry ht
  | selSettleExpiry lines => exact kept_execSelSettleExpiry ht
  | needleDownSeen => exact kept_execNeedleDownSeen ht
  | needleDownReleased => exact kept_execNeedleDownReleased ht
  | needleUpSeen => exact kept_execNeedleUpSeen ht
  | needleUpReleased => exact kept_execNeedleUpReleased ht
  | strokeLimitExpiry => exact kept_execStrokeLimitExpiry ht
  | sampleOneShotEnd => exact kept_execSampleOneShotEnd ht
  | conversionEnd v => exact kept_execConversionEnd ht
  | dwellEnd => exact kept_execDwellEnd ht
  | feedPulse => exact kept_execFeedPulse ht
  | surge => exact kept_execSurge ht
  | supplyFallWarn => exact kept_execSupplyFallWarn ht
  | supplyRiseNormal => exact kept_execSupplyRiseNormal ht
  | supplyFallLow => exact kept_execSupplyFallLow ht
  | supplyRiseWarn => exact kept_execSupplyRiseWarn ht
  | supplyFallCut => exact kept_execSupplyFallCut ht
  | supplyRecovery => exact kept_execSupplyRecovery ht
  | frameAbandoned => exact kept_execFrameAbandoned ht
  | lineIdle => exact kept_execLineIdle ht

/-- The laws of the pace unit and, with them, those of CUT pass from one state to another. -/
def LawsPass (s t : State) : Prop := (paceLaw s → paceLaw t) ∧ (paceLaw s → cutLaw s → cutLaw t)

theorem lawsPass_of_kept {s t : State} (h : LawsKept s t) (hs : s.selfTesting = false) : LawsPass s t :=
  ⟨fun hp => (h ⟨hs, hp⟩).1.2, fun hp => (h ⟨hs, hp⟩).2⟩

theorem lawsPass_execSelfTestEnd {ring : Bool} {lines : CodeLines} {drive : Bool} {mv : Nat} {s t : State}
    (ht : execSelfTestEnd ring lines drive mv s = .next t) : LawsPass s t := by
  unfold execSelfTestEnd at ht
  cases ht
  split
  · rename_i role hrole
    split
    · rename_i hs
      exact ⟨fun hp => (laws_endSelfTest role ring _ mv hp hs).1.2, fun hp _ => (laws_endSelfTest role ring _ mv hp hs).2⟩
    · exact ⟨id, fun _ => id⟩
  · exact ⟨id, fun _ => id⟩

theorem lawsPass_exec {c : Instr} {s t : State} (ht : exec c s = .next t) : LawsPass s t := by
  by_cases hreset : ∃ number pins, c = .reset number pins
  · obtain ⟨number, pins, rfl⟩ := hreset
    obtain ⟨hp, hc, -⟩ := lawsHoldAtReset.1 s.pending number (roleOfPins pins)
    cases ht
    exact ⟨fun _ => hp, fun _ _ => hc⟩
  by_cases htest : ∃ ring lines drive mv, c = .selfTestEnd ring lines drive mv
  · obtain ⟨ring, lines, drive, mv, rfl⟩ := htest
    exact lawsPass_execSelfTestEnd ht
  push Not at hreset htest
  cases hs : s.selfTesting with
  | false => exact lawsPass_of_kept (kept_exec hreset htest ht) hs
  | true =>
    rw [exec_outOfService (by simp [inService, hs]) hreset htest] at ht
    cases ht
    exact ⟨id, fun _ => id⟩

/-- Settles O54: each command keeps the laws at a station in service, and out of service only RESET and SELF_TEST_END act. -/
theorem paceAndCutLawsAreKept : Obligations.PaceAndCutLawsAreKept := by
  intro s t ht
  unfold step at ht
  split at ht
  · cases ht
    exact ⟨id, fun _ => id⟩
  · rename_i c rest _
    have hpass : LawsPass { s with pending := rest } t := lawsPass_exec ht
    exact hpass

end Sys2Proof.Machine

namespace Sys2Proof.Machine

/-! ### The orders of the pace unit: RUN, STOP and RATE (R29, R31, R38) -/

section
variable (src : Station) (s : State)

theorem frameTaken_pcu : (frameTaken src s).pcu = s.pcu := by simp

theorem frameTaken_ord : (frameTaken src s).ord = s.ord := by simp

theorem frameTaken_times : (frameTaken src s).params.stallTime = s.params.stallTime ∧
    (frameTaken src s).params.starveLimit = s.params.starveLimit := by simp

@[simp] theorem recAtN_frameTaken : recAtN (frameTaken src s) = recAtN s := by simp [recAtN]

@[simp] theorem atEnd_frameTaken : atEnd (frameTaken src s) = atEnd s := by simp [atEnd]

@[simp] theorem originGiven_frameTaken : originGiven (frameTaken src s) = originGiven s := by simp [originGiven]

@[simp] theorem agreementWaiting_frameTaken : agreementWaiting (frameTaken src s) = agreementWaiting s := by
  simp [agreementWaiting]

@[simp] theorem roleReady_frameTaken : roleReady (frameTaken src s) = roleReady s := by
  simp [roleReady, strokeInFlight, trimming, selectorBusy]

end

theorem originGiven_iff (s : State) : originGiven s = true ↔ isAxis s = false ∨ s.axu.originValid = true := by
  simp [originGiven]

/-- R26: after RUN the station may become READY for the record at N as soon as its blocks are ready and it agrees. -/
theorem mayBecomeReady_startRun (s : State) (hh : s.pcu.haltSeen = false) :
    mayBecomeReady (startRun s) = true ↔ agreementWaiting s = false ∧ s.pcu.edge = .settled ∧ roleReady s = true := by
  rw [mayBecomeReady_iff]
  exact ⟨fun ⟨_, _, _, _, ha, he, hr⟩ => ⟨ha, he, hr⟩, fun ⟨ha, he, hr⟩ => ⟨rfl, rfl, rfl, hh, ha, he, hr⟩⟩

/-- R26, R36: what the READY test makes of a station that has just taken RUN. -/
theorem settle_startRun (s : State) (hh : s.pcu.haltSeen = false) :
    (((settle (startRun s)).pcu.win = .ready ∨ (settle (startRun s)).pcu.win = .preparing) ∧
    ((settle (startRun s)).pcu.win = .ready ↔
      (recAtN s).isSome = true ∧ agreementWaiting s = false ∧ s.pcu.edge = .settled ∧ roleReady s = true)) ∧
    settle (startRun s) = { s with
      pcu := { s.pcu with
        run := .running, preparePending := true, pendingStop := none, win := (settle (startRun s)).pcu.win,
        next := if (settle (startRun s)).pcu.win = .ready then (recAtN s).map (fun r => ⟨.prepare, r⟩) else s.pcu.next,
        pace := if (settle (startRun s)).pcu.win = .ready then false else s.pcu.pace,
        stall := if (settle (startRun s)).pcu.win = .ready then .running (s.params.stallTime * 100000) else .stopped,
        starve := if (recAtN s).isSome then .stopped else .running (s.params.starveLimit * 100000) },
      ord := { s.ord with setupOpen := false } } := by
  have hrec : recAtN (startRun s) = recAtN s := rfl
  have hmay := mayBecomeReady_startRun s hh
  by_cases hm : mayBecomeReady (startRun s) = true
  · cases hr : recAtN s with
    | none =>
      rw [settle_absent hm rfl (hrec.trans hr)]
      exact ⟨by simp [startRun, closeSetup], rfl⟩
    | some r =>
      rw [settle_prepare hm r rfl rfl (hrec.trans hr)]
      exact ⟨by simp [hmay.1 hm], rfl⟩
  · rw [settle_rest _ (fun ⟨h, _⟩ => by cases h) (by simpa using hm)]
    have hno : ¬ (agreementWaiting s = false ∧ s.pcu.edge = .settled ∧ roleReady s = true) := fun h => hm (hmay.2 h)
    cases hr : recAtN s with
    | none =>
      have hstarve : starveAfter (startRun s) = .running (s.params.starveLimit * 100000) := by
        rw [starveAfter, hrec, hr]
        rfl
      rw [hstarve]
      exact ⟨by simp [startRun, closeSetup], rfl⟩
    | some r =>
      rw [starveAfter_stopped _ (.inr (by rw [hrec, hr]; rfl))]
      exact ⟨by simpa [startRun, closeSetup] using hno, rfl⟩

/-- Settles O10: the checks of the pace unit's owner in order, then the READY test over the station that has taken RUN. -/
theorem runOrder : Obligations.RunOrder := by
  refine ⟨fun f s hj hq hrun => ?_, fun f s hj hq hrun hh => ?_, fun f r s hj hq hrun hh hrec hend => ?_,
    fun f s hj hq hrun hh hend hx ho => ?_, fun f s hj hq hrun hh hend ho => ?_⟩
  · exact takeOrder_refused _ _ _ _ _ _ hj (by simp [hq, parseNone, withArgs, ownerRun, isStopped, beq_false_of_ne hrun])
  · exact takeOrder_refused _ _ _ _ _ _ hj (by simp [hq, parseNone, withArgs, ownerRun, isStopped, hrun, hh])
  · have hat : atEnd s = true := by simpa [atEnd, hrec] using hend
    exact takeOrder_refused _ _ _ _ _ _ hj (by simp [hq, parseNone, withArgs, ownerRun, isStopped, hrun, hh, hat])
  · have hno : originGiven s = false := by simp [originGiven, hx, ho]
    exact takeOrder_refused _ _ _ _ _ _ hj (by simp [hq, parseNone, withArgs, ownerRun, isStopped, hrun, hh, hend, hno])
  · have hok := takeOrder_accepted 1 .all f (withArgs (parseNone f.args) ownerRun) s (settle (startRun (frameTaken f.src s)))
      hj (by simp [hq, parseNone, withArgs, ownerRun, isStopped, hrun, hh, hend, (originGiven_iff s).2 ho])
    obtain ⟨⟨hwin, hready⟩, hset⟩ := settle_startRun (frameTaken f.src s) (by simpa using hh)
    simp only [recAtN_frameTaken, agreementWaiting_frameTaken, roleReady_frameTaken, frameTaken_pcu, frameTaken_ord,
      frameTaken_times] at hready hset
    exact ⟨_, hok, hwin, hready, congrArg countAccepted hset⟩

/-- Settles O11: the owner's check and the effect of STOP, and the clamp of RATE. -/
theorem stopAndRateOrders : Obligations.StopAndRateOrders := by
  refine ⟨fun f s hj hq hrun => ?_, fun f s hj hq hjoin hcut => ?_, fun f a b s hj hq => ?_⟩
  · refine takeOrder_refused _ _ _ _ _ _ hj ?_
    rcases hrun with hrun | hrun <;> simp [hq, parseNone, withArgs, ownerStop, hrun]
  · refine (takeOrder_accepted _ _ _ _ _ (acceptStop (frameTaken f.src s)) hj ?_).trans ?_
    · simp [hq, parseNone, withArgs, ownerStop, bne_iff_ne.2 hjoin, bne_iff_ne.2 hcut]
    · congr 2
      unfold acceptStop
      by_cases hm : isMoving s.pcu.run = true
      · simp [hm, startPulse, Config.haltPulseUs]
      · simp [hm, startPulse, Config.haltPulseUs]
  · refine (takeOrder_accepted _ _ _ _ _ _ hj (by simp only [hq, parseU16, withArgs, ownerRate]; rfl)).trans ?_
    simp [clampRate, be16]

end Sys2Proof.Machine

namespace Sys2Proof.Machine

/-! ### The orders BACK and FORWARD (R145, R146, R149 to R151) -/

/-- The order code of a traversal (R189). -/
def travCode : TravDir → Byte
  | .back => 4
  | .forward => 5

/-- BACK or FORWARD as it is taken. -/
def execTraverse (d : TravDir) (f : OrderFrame) (s : State) : Host.Outcome State Fault Refusal :=
  takeOrder (travCode d) .all f (withArgs (parseU16 f.args) (ownerTraverse d)) s

section
variable {d : TravDir} {f : OrderFrame} {a b : Byte} {s : State} (hj : judgedAt .all f s) (hq : f.args = [a, b])
include hj hq

theorem execTraverse_notStopped (hrun : s.pcu.run ≠ .stopped) :
    execTraverse d f s = .next (refuse (travCode d) .notStopped (frameTaken f.src s)) :=
  takeOrder_refused _ _ _ _ _ _ hj (by simp [hq, parseU16, withArgs, ownerTraverse, isStopped, beq_false_of_ne hrun])

theorem execTraverse_halted (hrun : s.pcu.run = .stopped) (hh : s.pcu.haltSeen = true) :
    execTraverse d f s = .next (refuse (travCode d) .halted (frameTaken f.src s)) :=
  takeOrder_refused _ _ _ _ _ _ hj (by simp [hq, parseU16, withArgs, ownerTraverse, isStopped, hrun, hh])

theorem execTraverse_badArg (hrun : s.pcu.run = .stopped) (hh : s.pcu.haltSeen = false)
    (hk : be16 a b = 0 ∨ 4095 < be16 a b) :
    execTraverse d f s = .next (refuse (travCode d) .badArg (frameTaken f.src s)) := by
  have hno : decide (1 ≤ be16 a b ∧ be16 a b ≤ 4095) = false := decide_eq_false (by omega)
  exact takeOrder_refused _ _ _ _ _ _ hj
    (by simp only [hq, parseU16, withArgs, ownerTraverse, isStopped, frameTaken_pcu, hrun, hh, hno]; rfl)

theorem execTraverse_noOrigin (hrun : s.pcu.run = .stopped) (hh : s.pcu.haltSeen = false)
    (hk : 1 ≤ be16 a b ∧ be16 a b ≤ 4095) (hx : isAxis s = true) (ho : s.axu.originValid = false) :
    execTraverse d f s = .next (refuse (travCode d) .noOrigin (frameTaken f.src s)) := by
  have hno : originGiven s = false := by simp [originGiven, hx, ho]
  exact takeOrder_refused _ _ _ _ _ _ hj
    (by simp only [hq, parseU16, withArgs, ownerTraverse, isStopped, frameTaken_pcu, hrun, hh, hk, originGiven_frameTaken, hno]
        rfl)

theorem execTraverse_accepted (hrun : s.pcu.run = .stopped) (hh : s.pcu.haltSeen = false)
    (hk : 1 ≤ be16 a b ∧ be16 a b ≤ 4095) (ho : isAxis s = false ∨ s.axu.originValid = true) :
    execTraverse d f s =
      .next (countAccepted (settle (fixUnlessWaiting (startTraversal d (be16 a b) (frameTaken f.src s))))) := by
  have horigin := (originGiven_iff s).2 ho
  exact takeOrder_accepted _ _ _ _ _ _ hj
    (by simp only [hq, parseU16, withArgs, ownerTraverse, isStopped, frameTaken_pcu, hrun, hh, hk, originGiven_frameTaken,
          horigin]
        rfl)

end

/-- R146: while agreement waits the target stays unfixed. -/
theorem settle_startTraversal_waiting (d : TravDir) (k : Nat) (s : State) (ha : agreementWaiting s = true) :
    settle (fixUnlessWaiting (startTraversal d k s)) = { s with
      pcu := { s.pcu with
        run := travRun d, win := .preparing, pendingStop := none, starve := .stopped
        traversal := some ⟨d, k, none, false⟩ },
      ord := { s.ord with setupOpen := false } } := by
  have hw : agreementWaiting (startTraversal d k s) = true := ha
  have hne : travRun d ≠ .running := by cases d <;> simp [travRun]
  rw [fixUnlessWaiting, if_pos hw, settle_rest _ (fun ⟨h, _⟩ => by cases h)
    ((mayBecomeReady_eq_false_iff _).2 (.inr (.inr (.inr (.inr (.inl hw)))))), starveAfter_stopped _ (.inl hne)]
  rfl

/-- R146: the station with its target fixed at once. -/
abbrev aimed (d : TravDir) (k : Nat) (t : Cursor) (lim : Bool) (s : State) : State :=
  { startTraversal d k s with pcu := { (startTraversal d k s).pcu with traversal := some ⟨d, k, some t, lim⟩ } }

theorem fixUnlessWaiting_start (d : TravDir) (k : Nat) (t : Cursor) (lim : Bool) (s : State)
    (ha : agreementWaiting s = false) (ht : targetOf ⟨d, k, none, false⟩ s.drg s.pcu.cursor = (t, lim)) :
    fixUnlessWaiting (startTraversal d k s) =
      if t = s.pcu.cursor then enterStopped (if lim then .designEnd else .traverseDone) (aimed d k t lim s)
      else aimed d k t lim s := by
  have hw : ¬ agreementWaiting (startTraversal d k s) = true := by simpa [agreementWaiting, startTraversal, closeSetup] using ha
  rw [fixUnlessWaiting, if_neg hw, fixTarget_unfixed ⟨d, k, none, false⟩ _ rfl rfl]
  have ht' : targetOf ⟨d, k, none, false⟩ (startTraversal d k s).drg (startTraversal d k s).pcu.cursor = (t, lim) := ht
  rw [ht']
  rfl

theorem mayBecomeReady_aimed (d : TravDir) (k : Nat) (t : Cursor) (lim : Bool) (s : State) (hh : s.pcu.haltSeen = false)
    (ha : agreementWaiting s = false) :
    mayBecomeReady (aimed d k t lim s) = true ↔ s.pcu.edge = .settled ∧ roleReady s = true := by
  rw [mayBecomeReady_iff]
  exact ⟨fun ⟨_, _, _, _, _, he, hr⟩ => ⟨he, hr⟩,
    fun ⟨he, hr⟩ => ⟨rfl, isTraversing_moving (isTraversing_travRun d), rfl, hh, ha, he, hr⟩⟩

/-- R26, R150, R151: a traversal with records to go is READY for the first at once where its blocks are. -/
theorem settle_aimed (d : TravDir) (k : Nat) (t : Cursor) (lim : Bool) (s : State) (hh : s.pcu.haltSeen = false)
    (ha : agreementWaiting s = false) (ho : isAxis s = false ∨ s.axu.originValid = true)
    (ht : targetOf ⟨d, k, none, false⟩ s.drg s.pcu.cursor = (t, lim)) (hne : t ≠ s.pcu.cursor) :
    (((settle (aimed d k t lim s)).pcu.win = .ready ∨ (settle (aimed d k t lim s)).pcu.win = .preparing) ∧
    ((settle (aimed d k t lim s)).pcu.win = .ready ↔ s.pcu.edge = .settled ∧ roleReady s = true)) ∧
    settle (aimed d k t lim s) = { s with
      pcu := { s.pcu with
        run := travRun d, win := (settle (aimed d k t lim s)).pcu.win
        next := if (settle (aimed d k t lim s)).pcu.win = .ready then windowTowards d s.drg s.pcu.cursor else s.pcu.next
        pace := if (settle (aimed d k t lim s)).pcu.win = .ready then false else s.pcu.pace
        stall := if (settle (aimed d k t lim s)).pcu.win = .ready then .running (s.params.stallTime * 100000) else s.pcu.stall
        pendingStop := none, starve := .stopped, traversal := some ⟨d, k, some t, lim⟩ },
      ord := { s.ord with setupOpen := false } } := by
  have hrun : (aimed d k t lim s).pcu.run ≠ .running := by cases d <;> simp [startTraversal, closeSetup, travRun]
  have hmay := mayBecomeReady_aimed d k t lim s hh ha
  by_cases hm : mayBecomeReady (aimed d k t lim s) = true
  · obtain ⟨w, hw⟩ := windowTowards_of_target (t := ⟨d, k, none, false⟩) (r := s.drg) (c := s.pcu.cursor) (by rw [ht]; exact hne)
    have hwin : traversalWindow (aimed d k t lim s) = some w := by
      rw [traversalWindow_eq _ ⟨d, k, some t, lim⟩ rfl, if_pos ⟨rfl, by simpa [startTraversal, closeSetup] using hne, ho⟩]
      exact hw
    rw [settle_traversal hm hrun, hwin, hw]
    exact ⟨by simp [hmay.1 hm], rfl⟩
  · rw [settle_rest _ (fun ⟨h, _⟩ => by cases h) (by simpa using hm), starveAfter_stopped _ (.inl hrun)]
    have hno : ¬ (s.pcu.edge = .settled ∧ roleReady s = true) := fun h => hm (hmay.2 h)
    exact ⟨by simpa [startTraversal, closeSetup] using hno, rfl⟩

end Sys2Proof.Machine

namespace Sys2Proof.Machine

section
variable {d : TravDir} {f : OrderFrame} {a b : Byte} {s : State} (hj : judgedAt .all f s) (hq : f.args = [a, b])
  (hrun : s.pcu.run = .stopped) (hh : s.pcu.haltSeen = false) (hk : 1 ≤ be16 a b ∧ be16 a b ≤ 4095)
  (ho : isAxis s = false ∨ s.axu.originValid = true)
include hj hq hrun hh hk ho

theorem execTraverse_waiting (ha : agreementWaiting s = true) :
    execTraverse d f s = .next { frameTaken f.src s with
      pcu := { s.pcu with
        run := travRun d, win := .preparing, pendingStop := none, starve := .stopped
        traversal := some ⟨d, be16 a b, none, false⟩ },
      ord := { s.ord with counter := s.ord.counter + 1, setupOpen := false } } := by
  rw [execTraverse_accepted hj hq hrun hh hk ho, settle_startTraversal_waiting _ _ _ (by simpa using ha), frameTaken_pcu,
    frameTaken_ord]
  rfl

theorem execTraverse_aims (ha : agreementWaiting s = false) {t : Cursor} {lim : Bool}
    (ht : targetOf ⟨d, be16 a b, none, false⟩ s.drg s.pcu.cursor = (t, lim)) (hne : t ≠ s.pcu.cursor) :
    ∃ u, execTraverse d f s = .next u ∧
      (u.pcu.win = .ready ∨ u.pcu.win = .preparing) ∧ (u.pcu.win = .ready ↔ s.pcu.edge = .settled ∧ roleReady s = true) ∧
      u = { frameTaken f.src s with
        pcu := { s.pcu with
          run := travRun d, win := u.pcu.win
          next := if u.pcu.win = .ready then windowTowards d s.drg s.pcu.cursor else s.pcu.next
          pace := if u.pcu.win = .ready then false else s.pcu.pace
          stall := if u.pcu.win = .ready then .running (s.params.stallTime * 100000) else s.pcu.stall
          pendingStop := none, starve := .stopped, traversal := some ⟨d, be16 a b, some t, lim⟩ },
        ord := { s.ord with counter := s.ord.counter + 1, setupOpen := false } } := by
  have hdrg : (frameTaken f.src s).drg = s.drg := by simp
  have hpos : isAxis (frameTaken f.src s) = false ∨ (frameTaken f.src s).axu.originValid = true := by simpa using ho
  have hfix := fixUnlessWaiting_start d (be16 a b) t lim (frameTaken f.src s) (by simpa using ha)
    (by rw [hdrg, frameTaken_pcu]; exact ht)
  obtain ⟨⟨hwin, hready⟩, hset⟩ := settle_aimed d (be16 a b) t lim (frameTaken f.src s) (by simpa using hh)
    (by simpa using ha) hpos (by rw [hdrg, frameTaken_pcu]; exact ht) (by simpa using hne)
  rw [frameTaken_pcu, if_neg hne] at hfix
  rw [execTraverse_accepted hj hq hrun hh hk ho, hfix]
  simp only [roleReady_frameTaken, frameTaken_pcu, frameTaken_ord, windowTowards, frameTaken_keeps] at hready hset
  refine ⟨_, rfl, hwin, hready, (congrArg countAccepted hset).trans ?_⟩
  ext1 <;> simp [countAccepted, windowTowards]

/-- R149: a traversal whose target is the cursor stops the station at once. -/
theorem execTraverse_stops (ha : agreementWaiting s = false) {lim : Bool}
    (ht : targetOf ⟨d, be16 a b, none, false⟩ s.drg s.pcu.cursor = (s.pcu.cursor, lim)) :
    ∃ u, execTraverse d f s = .next u ∧ u.pcu.run = .stopped ∧
      u.pcu.stopReason = (if lim then .designEnd else .traverseDone) ∧ u.pcu.haltPulse = .running 50 ∧
      u.pcu.cursor = s.pcu.cursor ∧ u.pcu.traversal = none ∧ u.pcu.win = .preparing ∧ u.pcu.pace = true ∧
      u.pcu.preparePending = false ∧ u.pcu.setRate = s.pcu.setRate ∧ u.pcu.workRate = s.pcu.workRate ∧
      u = { frameTaken f.src s with
        pcu := u.pcu, ptb := u.ptb, liu := (beaconFallsDue (frameTaken f.src s)).liu
        ord := { s.ord with counter := s.ord.counter + 1, setupOpen := false } } := by
  have hdrg : (frameTaken f.src s).drg = s.drg := by simp
  have hfix := fixUnlessWaiting_start d (be16 a b) s.pcu.cursor lim (frameTaken f.src s) (by simpa using ha)
    (by rw [hdrg, frameTaken_pcu]; exact ht)
  rw [frameTaken_pcu, if_pos rfl] at hfix
  have hcut : (frameTaken f.src s).pcu.run ≠ .cut := by simp [hrun]
  have hliu := (enterStopped_liu (if lim then .designEnd else .traverseDone)
    (aimed d (be16 a b) s.pcu.cursor lim (frameTaken f.src s))).trans (beaconFallsDue_liu (frameTaken f.src s) hcut).symm
  have hpcu := enterStopped_pcu (if lim then .designEnd else .traverseDone)
    (aimed d (be16 a b) s.pcu.cursor lim (frameTaken f.src s))
  rw [execTraverse_accepted hj hq hrun hh hk ho, hfix, settle_enterStopped]
  refine ⟨_, rfl, ?_⟩
  simp only [countAccepted_keeps, hpcu, startTraversal, closeSetup, frameTaken_pcu, Option.getD_none, Option.map_some,
    if_true, true_and]
  ext1 <;> simp [countAccepted, hliu, hpcu, startTraversal, closeSetup]

end

/-- Settles O12: the checks, the target unfixed, and the target fixed elsewhere or at the cursor, toward the start. -/
theorem backOrder : Obligations.BackOrder := by
  refine ⟨fun f a b s hj hq => execTraverse_notStopped (d := .back) hj hq, fun f a b s hj hq => execTraverse_halted (d := .back) hj hq,
    fun f a b s hj hq => execTraverse_badArg (d := .back) hj hq,
    fun f a b s hj hq hrun hh hlo hhi => execTraverse_noOrigin (d := .back) hj hq hrun hh ⟨hlo, hhi⟩,
    fun f a b s hj hq hrun hh hlo hhi ho => execTraverse_waiting (d := .back) hj hq hrun hh ⟨hlo, hhi⟩ ho,
    fun f a b s t lim hj hq hrun hh hlo hhi ho ha ht => execTraverse_aims (d := .back) hj hq hrun hh ⟨hlo, hhi⟩ ho ha ht,
    fun f a b s lim hj hq hrun hh hlo hhi ho ha ht => execTraverse_stops (d := .back) hj hq hrun hh ⟨hlo, hhi⟩ ho ha ht⟩

/-- Settles O13: the checks, the target unfixed, and the target fixed elsewhere or at the cursor, toward the end. -/
theorem forwardOrder : Obligations.ForwardOrder := by
  refine ⟨fun f a b s hj hq => execTraverse_notStopped (d := .forward) hj hq,
    fun f a b s hj hq => execTraverse_halted (d := .forward) hj hq,
    fun f a b s hj hq => execTraverse_badArg (d := .forward) hj hq,
    fun f a b s hj hq hrun hh hlo hhi => execTraverse_noOrigin (d := .forward) hj hq hrun hh ⟨hlo, hhi⟩,
    fun f a b s hj hq hrun hh hlo hhi ho => execTraverse_waiting (d := .forward) hj hq hrun hh ⟨hlo, hhi⟩ ho,
    fun f a b s t lim hj hq hrun hh hlo hhi ho ha ht => execTraverse_aims (d := .forward) hj hq hrun hh ⟨hlo, hhi⟩ ho ha ht,
    fun f a b s lim hj hq hrun hh hlo hhi ho ha ht => execTraverse_stops (d := .forward) hj hq hrun hh ⟨hlo, hhi⟩ ho ha ht⟩

end Sys2Proof.Machine

namespace Sys2Proof.Machine

/-! ### HALT, its wait and its pulse (R21, R26, R32 to R35) -/

/-- R21: the station once HALT is seen released, before the READY test. -/
def unhalted (s : State) : State := { s with pcu := { s.pcu with haltSeen := false } }

section
variable {s : State} (hi : inService s = true)
include hi

theorem exec_haltSeenAsserted :
    exec .haltSeenAsserted s = .next
      (if isMoving s.pcu.run then haltMoving { s with pcu := { s.pcu with haltSeen := true } }
      else { s with pcu := { s.pcu with haltSeen := true } }) := by
  simp [exec, execHaltSeenAsserted, onService_on _ _ hi]

theorem exec_haltSeenReleased : exec .haltSeenReleased s = .next (settle (unhalted s)) := by
  simp [exec, execHaltSeenReleased, onService_on _ _ hi, unhalted]

theorem exec_haltWaitExpiry :
    exec .haltWaitExpiry s = .next
      (if s.pcu.win = .ready ∧ isRunning s.pcu.haltWait = true then enterStopped .halted s else s) := by
  simp [exec, execHaltWaitExpiry, onService_on _ _ hi]

end

/-- R26: a station in PREPARING that HALT alone holds may become READY. -/
theorem mayBecomeReady_unhalted {s : State} (hw : s.pcu.win = .preparing) (hm : isMoving s.pcu.run = true)
    (hp : s.pcu.pendingStop = none) (ha : agreementWaiting s = false) (he : s.pcu.edge = .settled) (hr : roleReady s = true) :
    mayBecomeReady (unhalted s) = true :=
  (mayBecomeReady_iff _).2 ⟨hw, hm, hp, rfl, ha, he, hr⟩

/-- R36: where HALT is not all that holds the station, its release may move the starve timer alone. -/
theorem settle_unhalted_rest {s : State}
    (h : s.pcu.win ≠ .preparing ∨ isMoving s.pcu.run = false ∨ s.pcu.pendingStop ≠ none ∨ agreementWaiting s = true ∨
      s.pcu.edge ≠ .settled ∨ roleReady s = false)
    (hends : s.pcu.win = .opened → s.pcu.edge ≠ .settled ∨ workInFlight s = true) :
    settle (unhalted s) = { unhalted s with pcu := { (unhalted s).pcu with starve := starveAfter (unhalted s) } } := by
  have hmay : mayBecomeReady (unhalted s) = false := by
    refine (mayBecomeReady_eq_false_iff _).2 ?_
    rcases h with hw | hm | hp | ha | he | hr
    · exact .inl hw
    · exact .inr (.inl hm)
    · exact .inr (.inr (.inl hp))
    · exact .inr (.inr (.inr (.inr (.inl ha))))
    · exact .inr (.inr (.inr (.inr (.inr (.inl he)))))
    · exact .inr (.inr (.inr (.inr (.inr (.inr hr)))))
  refine settle_rest _ (fun ⟨hw, he, hwork⟩ => ?_) hmay
  rcases hends hw with hne | hf
  · exact hne he
  · exact Bool.false_ne_true (hwork.symm.trans hf)

/-- Settles O42: HALT by the window state, and its release by the READY test over the station that it frees. -/
theorem haltStopsTheStation : Obligations.HaltStopsTheStation := by
  refine ⟨fun s hi hm => ?_, fun s hi hm hw => ?_, fun s hi hm hw => ?_, fun s hi hm hw => ?_, fun s hi h hends => ?_,
    fun r s hi hrun hw hp ha he hr hpp hrec => ?_, fun r k s hi hrun hw hp ha he hr hpp hrec hk => ?_,
    fun r s hi hrun hw hp ha he hr hpp hrec hk => ?_, fun r s hi hrun hw hp ha he hr hpp hrec hk => ?_,
    fun s hi hrun hw hp ha he hr hrec => ?_, fun tv s hi hw hp ha he hr hrun htv => ?_, fun s hi hw hh hc => ?_,
    fun s hi h => ?_, fun s hi => ?_⟩
  · rw [exec_haltSeenAsserted hi, if_neg (by simp [hm])]
  · rw [exec_haltSeenAsserted hi, if_pos hm]
    simp [haltMoving, hw, pendHalted]
  · rw [exec_haltSeenAsserted hi, if_pos hm]
    simp [haltMoving, hw, pendHalted, Config.haltWaitUs]
  · obtain ⟨hpcu, hpeers, hjoined, hliu⟩ := enterStopped_over .halted (s := s)
      (w := pendHalted { s with pcu := { s.pcu with haltSeen := true } }) rfl rfl rfl
    rw [exec_haltSeenAsserted hi, if_pos hm]
    simp only [haltMoving, hw]
    refine ⟨_, rfl, hpcu.trans ?_, hpeers, hjoined, hliu, ?_⟩
    · simp [pendHalted]
    · rw [enterStopped_frame]
      rfl
  · rw [exec_haltSeenReleased hi, settle_unhalted_rest h hends]
    rfl
  · have hm := mayBecomeReady_unhalted hw (by simp [hrun, isMoving]) hp ha he hr
    rw [exec_haltSeenReleased hi, settle_prepare hm r hrun hpp hrec]
    rfl
  · have hm := mayBecomeReady_unhalted hw (by simp [hrun, isMoving]) hp ha he hr
    rw [exec_haltSeenReleased hi, settle_window hm r k hrun hpp hrec ((windowFor_eq _ _).trans hk)]
    rfl
  · have hm := mayBecomeReady_unhalted hw (by simp [hrun, isMoving]) hp ha he hr
    rw [exec_haltSeenReleased hi, settle_stop hm r hrun hpp hrec (recKind_stop hk)]
    obtain ⟨hpcu, hpeers, hjoined, hliu⟩ := enterStopped_over .programmedStop (s := s)
      (w := setCursor ⟨s.pcu.cursor.n + 1, .first⟩ (unhalted s)) (by simp [unhalted]) (by simp [unhalted]) (by simp [unhalted])
    obtain ⟨hdrg, hdld⟩ := setCursor_congr ⟨s.pcu.cursor.n + 1, .first⟩ (u := unhalted s) (s := s) rfl rfl rfl rfl
    refine ⟨_, rfl, hpcu.trans ?_, hpeers, hjoined, hliu, ?_⟩
    · simp [setCursor_pcu, unhalted, hp]
    · rw [enterStopped_frame, ← hdrg, ← hdld]
      ext1 <;> simp [unhalted]
  · have hm := mayBecomeReady_unhalted hw (by simp [hrun, isMoving]) hp ha he hr
    rw [exec_haltSeenReleased hi, settle_end hm r hrun hpp hrec (recKind_end hk)]
    obtain ⟨hpcu, hpeers, hjoined, hliu⟩ := enterStopped_over .designEnd (w := unhalted s) (s := s) rfl rfl rfl
    refine ⟨_, rfl, hpcu.trans ?_, hpeers, hjoined, hliu, ?_⟩
    · simp [unhalted, hp]
    · rw [enterStopped_frame]
      rfl
  · have hm := mayBecomeReady_unhalted hw (by simp [hrun, isMoving]) hp ha he hr
    rw [exec_haltSeenReleased hi, settle_absent hm hrun hrec]
    rfl
  · have hm := mayBecomeReady_unhalted hw (isTraversing_moving hrun) hp ha he hr
    have hne : s.pcu.run ≠ .running := by rcases hrun with h | h <;> simp [h]
    rw [exec_haltSeenReleased hi, settle_traversal hm hne, traversalWindow_eq (unhalted s) tv htv]
    exact ⟨_, rfl, rfl, rfl⟩
  · obtain ⟨hpcu, hpeers, hjoined, hliu⟩ := enterStopped_over .halted (s := s) (w := s) rfl rfl rfl
    rw [exec_haltWaitExpiry hi, if_pos ⟨hw, hh⟩]
    exact ⟨_, rfl, hpcu, hpeers, hjoined, hliu, enterStopped_frame _ _⟩
  · have hno : ¬ (s.pcu.win = .ready ∧ isRunning s.pcu.haltWait = true) := by
      rintro ⟨hw, hh⟩
      rcases h with h | h
      · exact h hw
      · exact Bool.false_ne_true (h.symm.trans hh)
    rw [exec_haltWaitExpiry hi, if_neg hno]
  · simp [exec, execHaltPulseEnd, onService_on _ _ hi]

end Sys2Proof.Machine

namespace Sys2Proof.Machine

/-! ### Events that only raise faults (R36, R37, R98, R160) -/

/-- R160: the record that a cause leaves, field by field. -/
theorem raisedRec_eq (d1 d2 : Byte) (r : FaultRec) :
    raisedRec r.action d1 d2 r =
      { action := r.action, count := if r.count < 255 then r.count + 1 else 255, d1 := d1, d2 := d2,
        latched := if r.action = .ignore then r.latched else true,
        pending := if r.action = .ignore then r.pending else true,
        fresh := if r.action = .ignore then r.fresh else true } := by
  have hcount : min 255 (r.count + 1) = if r.count < 255 then r.count + 1 else 255 := by
    split <;> omega
  rw [← hcount]
  cases h : r.action <;> simp [raisedRec, h]

/-- Raising a fault over a change beside the fault unit: its record, the others, the marks and the rest of the station. -/
theorem raise_over (c : FaultCode) (d1 d2 : Byte) {s w : State} (hf : w.flt = s.flt) :
    raisedIn c d1 d2 s (raise c d1 d2 w) ∧ (∀ e : FaultCode, e ≠ c → faultRec e (raise c d1 d2 w) = faultRec e s) ∧
    (raise c d1 d2 w).flt.supply = s.flt.supply ∧ (raise c d1 d2 w).flt.axisMark = s.flt.axisMark ∧
    raise c d1 d2 w = { w with flt := (raise c d1 d2 w).flt } := by
  refine ⟨?_, fun e he => ?_, ?_, ?_, rfl⟩
  · rw [raisedIn, faultRec_raise_self, faultRec_congr hf]
  · rw [faultRec_raise_ne c e d1 d2 w he, faultRec_congr hf]
  · rw [← hf]
    rfl
  · rw [← hf]
    rfl

/-- R37: a peer holds the machine up. -/
def holds (p : Station × Peer) : Bool := p.2.ready == false || p.2.run == .stopped

theorem holdingPeers_eq (s : State) : holdingPeers s = ((pacingPeers s).filter holds).map Prod.fst := by
  rw [holdingPeers]
  generalize pacingPeers s = ps
  induction ps with
  | nil => rfl
  | cons p ps ih =>
    have hp : (p.2.ready = false ∨ p.2.run = .stopped) ↔ holds p = true := by simp [holds]
    by_cases h : holds p = true
    · simp [h, hp, ih]
    · simp [h, hp, ih]

theorem holdingPeers_length (s : State) :
    (holdingPeers s).length = (pacingPeers s).countP fun p => p.2.ready == false || p.2.run == .stopped := by
  rw [holdingPeers_eq, List.length_map, ← List.countP_eq_length_filter]
  rfl

theorem lowestHolder_eq (s : State) :
    lowestHolder s = (((pacingPeers s).find? fun p => p.2.ready == false || p.2.run == .stopped).map fun p =>
      BitVec.ofNat 8 p.1.val).getD 0xFF := by
  have hfind : (pacingPeers s).find? holds = ((pacingPeers s).filter holds).head? := List.head?_filter.symm
  change _ = (((pacingPeers s).find? holds).map fun p => BitVec.ofNat 8 p.1.val).getD 0xFF
  rw [lowestHolder, holdingPeers_eq, hfind]
  cases (pacingPeers s).filter holds <;> rfl

/-- Settles O43: each of these events is one raise over a timer or an input, and a raise changes one record. -/
theorem eventsThatOnlyRaiseFaults : Obligations.EventsThatOnlyRaiseFaults := by
  refine ⟨fun s hi h => ?_, fun s hi h => ?_, fun s hi h => ?_, fun s hi h => ?_, fun s hi hx => ?_, fun s hi hx => ?_,
    fun s hi hx => ?_, fun s hi hx => ?_, fun c d1 d2 s u => ?_, fun c d1 d2 s => ?_⟩
  · obtain ⟨hself, hne, hsup, hmark, hrest⟩ := raise_over .starved (BitVec.ofNat 8 (s.pcu.cursor.n / 256))
      (BitVec.ofNat 8 s.pcu.cursor.n) (s := s) (w := { s with pcu := { s.pcu with starve := .expired } }) rfl
    exact ⟨_, by simp [exec, execStarveTimerExpiry, onService_on _ _ hi, h], hself, hne, hsup, hmark, hrest⟩
  · simp [exec, execStarveTimerExpiry, onService_on _ _ hi, h]
  · obtain ⟨hself, hne, hsup, hmark, hrest⟩ := raise_over .stall (octetSat (holdingPeers s).length)
      (lowestHolder s) (s := s) (w := { s with pcu := { s.pcu with stall := .expired } }) rfl
    rw [← holdingPeers_length, ← lowestHolder_eq]
    exact ⟨_, by simp [exec, execStallTimerExpiry, onService_on _ _ hi, h], hself, hne, hsup, hmark, hrest⟩
  · simp [exec, execStallTimerExpiry, onService_on _ _ hi, h]
  · obtain ⟨hself, hne, hsup, hmark, hrest⟩ := raise_over .driveFail (if s.axu.move.isSome ∨ s.axu.op.isSome then 1 else 0) 0
      (s := s) (w := { s with axu := { s.axu with driveFault := true } }) rfl
    refine ⟨_, ?_, hself, hne, hsup, hmark, ?_, hrest⟩
    · simp [exec, execDriveFaultAsserted, onService_on _ _ hi, hx, axisInFlight]
    · simpa [condition, isAxis] using hx
  · exact ⟨{ s with axu := { s.axu with driveFault := false } },
      by simp [exec, execDriveFaultReleased, onService_on _ _ hi, hx], by simp [condition], rfl⟩
  · simp [exec, execDriveFaultAsserted, onService_on _ _ hi, hx]
  · simp [exec, execDriveFaultReleased, onService_on _ _ hi, hx]
  · rw [raisedIn, raisedRec_eq]
  · obtain ⟨hself, hne, -⟩ := raise_over c d1 d2 (s := s) (w := s) rfl
    exact ⟨hself, hne, rfl⟩

end Sys2Proof.Machine

namespace Sys2Proof.Machine

/-! ### Reports of the blocks to the pace unit (R25, R26) -/

/-- What an event at the axis, selector, stroke or thread unit leaves alone before the pace unit takes its report. -/
def Reports (s w : State) : Prop :=
  w = { s with axu := w.axu, slu := w.slu, stu := w.stu, thm := w.thm, flt := w.flt, free := w.free }

theorem Reports.pcu {s w : State} (h : Reports s w) : w.pcu = s.pcu := by
  rw [h]

theorem Reports.inService {s w : State} (h : Reports s w) : inService w = inService s := by
  rw [h]
  rfl

theorem Reports.recAtN {s w : State} (h : Reports s w) : recAtN w = recAtN s := by
  rw [h]
  rfl

theorem Reports.starveAfter {s w : State} (h : Reports s w) : starveAfter w = starveAfter s := by
  rw [h]
  rfl

/-- R25, R26: the station follows a report as the pace unit's test has it. -/
theorem followsReport_settle {s w : State} (h : Reports s w) (hi : inService s = true) : followsReport s (settle w) := by
  have hw : ({ s with
      axu := (settle w).axu, slu := (settle w).slu, stu := (settle w).stu, thm := (settle w).thm, flt := (settle w).flt,
      free := (settle w).free } : State) = w := by
    simp only [settle_keeps]
    exact h.symm
  simp only [followsReport, hw]
  by_cases he : s.pcu.edge = .settled
  · rw [if_pos he]
    exact goesOnTo_of_settled w (h.inService.trans hi) (by rw [h.pcu, he])
  · have hmay : mayBecomeReady w = false :=
      (mayBecomeReady_eq_false_iff w).2 (.inr (.inr (.inr (.inr (.inr (.inl (by rwa [h.pcu])))))))
    rw [if_neg he, settle_rest w (fun ⟨_, hs, _⟩ => he (h.pcu ▸ hs)) hmay, h.starveAfter, h.pcu]
    conv_lhs => rw [h]
    rfl

/-- R25, R26: what the READY test leaves alone. -/
theorem settle_frame (w : State) :
    settle w = { w with
      pcu := (settle w).pcu, ptb := (settle w).ptb, liu := (settle w).liu, drg := (settle w).drg, dld := (settle w).dld } := by
  ext1 <;> simp

/-- R25: in an open window that has work or is not over, the READY test changes nothing but a starve timer. -/
theorem settle_open {w : State} (hw : w.pcu.win = .opened) (hs : w.pcu.starve = .stopped)
    (h : w.pcu.edge ≠ .settled ∨ workInFlight w = true) : settle w = w := by
  have hends : ¬ windowEnds w := by
    rintro ⟨-, he, hf⟩
    rcases h with h | h
    · exact h he
    · exact Bool.false_ne_true (hf.symm.trans h)
  have hstarve : starveAfter w = w.pcu.starve := by
    unfold starveAfter
    split
    · exact hs.symm
    · simp [hw]
  rw [settle_rest w hends (by simp [mayBecomeReady, hw]), hstarve]

/-- R25, R36: in STOPPED the READY test stops a starve timer and changes nothing else. -/
theorem settle_atRest {w : State} (hr : w.pcu.run = .stopped) (hw : w.pcu.win = .preparing) :
    settle w = { w with pcu := { w.pcu with starve := .stopped } } := by
  rw [settle_rest w (fun ⟨h, _⟩ => by simp [hw] at h) (by simp [mayBecomeReady, hr, isMoving]),
    starveAfter_stopped w (.inl (by simp [hr]))]

/-- R22, R35: with a stop pending the station stops where a report ends the work of its window. -/
theorem settle_report_stopped {s w : State} (h : Reports s w) (r : StopReason) (hw : s.pcu.win = .opened)
    (he : s.pcu.edge = .settled) (hp : s.pcu.pendingStop = some r) (hwork : workInFlight w = false) :
    (settle w).pcu = { s.pcu with
      run := .stopped, win := .preparing, openW := none, next := none, preparePending := false, pendingStop := none
      stopReason := r, starve := .stopped, stall := .stopped, haltWait := .stopped, pace := true, armed := true
      traversal := none, joinAgreement := false, cursor := s.pcu.cursor
      haltPulse := if s.pcu.traversal.map Traversal.target = some (some s.pcu.cursor) then .running 50 else s.pcu.haltPulse
      agreement := if (pacingPeers s).isEmpty then .stopped else .running 100000 } ∧
    (∀ i : Station, (settle w).ptb.peers[i] = { s.ptb.peers[i] with qualified := false }) ∧
    (settle w).ptb.joined = s.ptb.joined ∧
    (settle w).liu = (if s.liu.tx.any (fun t => t.slot == .beacon) then
      { s.liu with tx := s.liu.tx.map fun t => { t with again := true } } else { s.liu with beaconDue := true }) ∧
    settle w = { w with pcu := (settle w).pcu, ptb := (settle w).ptb, liu := (settle w).liu } := by
  have hnum : w.number = s.number ∧ w.ptb = s.ptb ∧ w.liu = s.liu := by
    rw [h]
    exact ⟨rfl, rfl, rfl⟩
  obtain ⟨hn, hptb, hliu⟩ := hnum
  obtain ⟨hpcu, hpeers, hjoined, hline⟩ := enterStopped_over .halted hn hptb hliu
  rw [settle_stopped w ⟨by rwa [h.pcu], by rwa [h.pcu], hwork⟩ r (by rwa [h.pcu])]
  refine ⟨hpcu.trans ?_, hpeers, hjoined, hline, enterStopped_frame _ _⟩
  rw [h.pcu]
  simp [hp]

/-- R24, R26: where a report ends the work of its window, a station in RUNNING is READY for the window of the record at N. -/
theorem settle_report_ready {s w : State} (h : Reports s w) (r : Rec) (k : Window) (hw : s.pcu.win = .opened)
    (he : s.pcu.edge = .settled) (hwork : workInFlight w = false) (hp : s.pcu.pendingStop = none)
    (hh : s.pcu.haltSeen = false) (ha : agreementWaiting s = false) (hr : roleReady w = true) (hrun : s.pcu.run = .running)
    (hpp : s.pcu.preparePending = false) (hrec : recAtN s = some r) (hk : windowFor r s.pcu.cursor = some k) :
    settle w = { w with pcu := { s.pcu with
      win := .ready, openW := none, next := some ⟨k, r⟩, pace := false, stall := .running (s.params.stallTime * 100000)
      starve := .stopped } } := by
  have hpcu := h.pcu
  have hparams : w.params = s.params := by rw [h]
  have hagr : agreementWaiting (windowLeft w) = false := by simpa [agreementWaiting, windowLeft, hpcu] using ha
  have hm : mayBecomeReady (windowLeft w) = true :=
    (mayBecomeReady_iff _).2 ⟨rfl, by simp [windowLeft, hpcu, hrun, isMoving], by simpa [windowLeft, hpcu] using hp,
      by simpa [windowLeft, hpcu] using hh, hagr, by simpa [windowLeft, hpcu] using he, hr⟩
  have hready := settle_window hm r k (by simpa [windowLeft, hpcu] using hrun) (by simpa [windowLeft, hpcu] using hpp)
    (by simpa [Machine.recAtN, windowLeft] using h.recAtN.trans hrec) (by simpa [windowLeft, hpcu] using hk)
  rw [settle_windowLeft w (by rwa [hpcu]) (by rwa [hpcu]) (.inr ⟨by rwa [hpcu], hwork⟩), hready]
  simp [windowLeft, hpcu, hw, hparams]

end Sys2Proof.Machine

namespace Sys2Proof.Machine

/-! ### The steps of an axis (R82, R83, R86, R92, R93) -/

theorem reports_endMove (pcNew pt st : Int) (s : State) : Reports s (endMove pcNew pt st s) := rfl

theorem reports_movetoEnd (pt st : Int) (s : State) : Reports s (movetoEnd pt st s) := rfl

/-- R82: the axis at its home switch. -/
def homed (s : State) : State := homingSuccess { s with axu := { s.axu with homeSwitch := true } }

theorem reports_homed (s : State) : Reports s (homed s) := rfl

/-- R83: the axis whose home switch was not met. -/
def homeMissed (s : State) : State :=
  raise .homeFail (BitVec.ofNat 8 s.params.homeDir) 0 { s with axu := { s.axu with homing := .unhomed, op := none } }

theorem reports_homeMissed (s : State) : Reports s (homeMissed s) := rfl

/-- R82: at the home switch NOT-HOMED is unlatched and no other fault record changes. -/
theorem faultRec_homed (s : State) :
    faultRec .notHomed (homed s) = { faultRec .notHomed s with latched := false } ∧
    ∀ c : FaultCode, c ≠ .notHomed → faultRec c (homed s) = faultRec c s := by
  refine ⟨?_, fun c hc => ?_⟩
  · rw [homed, homingSuccess, faultRec_unlatch_self]
    rfl
  · rw [homed, homingSuccess, faultRec_unlatch_ne _ _ _ hc]
    rfl

theorem homed_axu (s : State) :
    (homed s).axu = { s.axu with
      homeSwitch := true, homing := .homed, op := none, pf := s.params.homeOffset
      sPos := s.params.homeOffset * s.params.p / 100, excursion := true } := rfl

section
variable {s : State} (hi : inService s = true)
include hi

theorem exec_windowMoveStep_last {m : AxisMove} (hm : s.axu.move = some m) (hk : m.delta.natAbs ≤ m.issued + 1) :
    exec .windowMoveStep s = .next (settle (endMove m.pcNew m.pt m.st s)) := by
  simp [exec, execWindowMoveStep, onService_on _ _ hi, hm, Nat.not_lt.2 hk]

theorem exec_movetoStep_last {pt st d : Int} {k : Nat} (ho : s.axu.op = some (.moveto pt st d k)) (hk : d.natAbs ≤ k + 1) :
    exec .movetoStep s = .next (settle (movetoEnd pt st s)) := by
  simp [exec, execMovetoStep, onService_on _ _ hi, ho, Nat.not_lt.2 hk]

theorem exec_homeSwitchSeenClosed_homing {k : Nat} (hx : isAxis s = true) (ho : s.axu.op = some (.homing k)) :
    exec .homeSwitchSeenClosed s = .next (settle (homed s)) := by
  simp [exec, execHomeSwitchSeenClosed, onService_on _ _ hi, hx, ho, homed]

theorem exec_homingFail_end {k : Nat} (ho : s.axu.op = some (.homing k)) (hk : s.params.homeTravel ≤ k) :
    exec .homingFail s = .next (settle (homeMissed s)) := by
  simp [exec, execHomingFail, onService_on _ _ hi, ho, hk, homeMissed]

end

/-- R26: an axis without a move or an operation is ready. -/
theorem roleReady_axis {s : State} (hx : isAxis s = true) (hm : s.axu.move = none) (ho : s.axu.op = none) :
    roleReady s = true := by
  simp [roleReady, isHead_eq_false_of_isAxis hx, hm, ho]

/-- R82, R83: a homing step counts up to HOME_TRAVEL and no further. -/
theorem exec_homingStep {s : State} {k : Nat} (hi : inService s = true) (ho : s.axu.op = some (.homing k)) :
    exec .homingStep s = .next { s with
      axu := { s.axu with op := some (.homing (min (k + 1) (max k s.params.homeTravel))) } } := by
  by_cases hk : k < s.params.homeTravel
  · have hmin : min (k + 1) (max k s.params.homeTravel) = k + 1 := by omega
    rw [hmin]
    simp [exec, execHomingStep, onService_on _ _ hi, ho, hk]
  · have hmin : min (k + 1) (max k s.params.homeTravel) = k := by omega
    rw [hmin]
    simp only [exec, execHomingStep, onService_on _ _ hi, ho, hk, if_false]
    rw [← ho]

/-- Settles O44: a step counts or ends its operation, and what an end leaves is a report to the pace unit. -/
theorem stepsOfAnAxis : Obligations.StepsOfAnAxis := by
  refine ⟨fun s hi hm => ?_, fun m s hi hm hk => ?_, fun m s hi hm hk => ?_, fun m s hi hm hk => ?_,
    fun m s hi hm hk hw he hst => ?_, fun m s r hi hx hm hk hw he hp hc hwork => ?_,
    fun m s r k hi hx hm hk hw he hwork ho hp hh ha hrun hpp hrec hwin => ?_,
    fun pt st d k s hi ho hk => ?_, fun pt st d k s hi ho hk => ?_, fun pt st d k s hi ho hk => ?_,
    fun pt st d k s hi ho hk hrun hw => ?_, fun k s hi ho => exec_homingStep hi ho, fun k s hi hx ho => ?_,
    fun k s hi hx ho => ?_, fun k s hi hx ho hrun hw => ?_, fun k s hi ho hk => ?_, fun k s hi ho hk => ?_,
    fun k s hi ho hk hrun hw => ?_, fun k s hi ho hk => ?_, fun s hi ho => ?_, fun s hi ho => ?_, fun s hi ho => ?_,
    fun s hi hx ho => ?_, fun s hi hx => ?_, fun pt st d k s hi hx ho => ?_, fun pt st d k s hi ho => ?_,
    fun pt st d k s hi ho => ?_, fun k s hi ho => ?_⟩
  · simp [exec, execWindowMoveStep, onService_on _ _ hi, hm]
  · simp [exec, execWindowMoveStep, onService_on _ _ hi, hm, hk]
  · exact ⟨_, exec_windowMoveStep_last hi hm hk, by simp [endMove], by simp, by simp only [settle_keeps]; exact settle_frame _⟩
  · exact ⟨_, exec_windowMoveStep_last hi hm hk, followsReport_settle (reports_endMove _ _ _ s) hi⟩
  · rw [exec_windowMoveStep_last hi hm hk, settle_open (w := endMove m.pcNew m.pt m.st s) hw hst (.inl he)]
    rfl
  · obtain ⟨hpcu, hpeers, hjoined, hliu, hrest⟩ :=
      settle_report_stopped (reports_endMove m.pcNew m.pt m.st s) r hw he hp hwork
    exact ⟨_, exec_windowMoveStep_last hi hm hk, hpcu, hpeers, hjoined, hliu, hrest⟩
  · rw [exec_windowMoveStep_last hi hm hk, settle_report_ready (reports_endMove m.pcNew m.pt m.st s) r k hw he hwork hp hh ha
      (roleReady_axis hx rfl ho) hrun hpp hrec ((windowFor_eq _ _).trans hwin)]
    rfl
  · simp [exec, execMovetoStep, onService_on _ _ hi, ho, hk]
  · exact ⟨_, exec_movetoStep_last hi ho hk, by simp [movetoEnd], by simp, by simp only [settle_keeps]; exact settle_frame _⟩
  · exact ⟨_, exec_movetoStep_last hi ho hk, followsReport_settle (reports_movetoEnd _ _ s) hi⟩
  · rw [exec_movetoStep_last hi ho hk, settle_atRest (w := movetoEnd pt st s) hrun hw]
    rfl
  · obtain ⟨hself, hne⟩ := faultRec_homed s
    have hflt : (settle (homed s)).flt = (homed s).flt := by simp
    refine ⟨_, exec_homeSwitchSeenClosed_homing hi hx ho, ?_, (faultRec_congr hflt _).trans hself,
      fun c hc => (faultRec_congr hflt c).trans (hne c hc), by rw [hflt]; rfl, by rw [hflt]; rfl, ?_⟩
    · simp [homed_axu]
    · simp only [settle_keeps]
      exact settle_frame _
  · exact ⟨_, exec_homeSwitchSeenClosed_homing hi hx ho, followsReport_settle (reports_homed s) hi⟩
  · obtain ⟨hself, hne⟩ := faultRec_homed s
    have hrest := settle_atRest (w := homed s) hrun hw
    exact ⟨_, exec_homeSwitchSeenClosed_homing hi hx ho, by rw [hrest]; exact hself, fun c hc => by rw [hrest]; exact hne c hc,
      by rw [hrest]; rfl, by rw [hrest]; rfl, by rw [hrest]; rfl⟩
  · obtain ⟨hself, hne, hsup, hmark, -⟩ := raise_over .homeFail (BitVec.ofNat 8 s.params.homeDir) 0 (s := s)
      (w := { s with axu := { s.axu with homing := .unhomed, op := none } }) rfl
    have hflt : (settle (homeMissed s)).flt = (homeMissed s).flt := by simp
    refine ⟨_, exec_homingFail_end hi ho hk, ?_, (faultRec_congr hflt _).trans hself,
      fun c hc => (faultRec_congr hflt c).trans (hne c hc), (congrArg FaultUnit.supply hflt).trans hsup,
      (congrArg FaultUnit.axisMark hflt).trans hmark, ?_⟩
    · simp [homeMissed]
    · simp only [settle_keeps]
      exact settle_frame _
  · exact ⟨_, exec_homingFail_end hi ho hk, followsReport_settle (reports_homeMissed s) hi⟩
  · obtain ⟨hself, hne, hsup, hmark, -⟩ := raise_over .homeFail (BitVec.ofNat 8 s.params.homeDir) 0 (s := s)
      (w := { s with axu := { s.axu with homing := .unhomed, op := none } }) rfl
    have hrest := settle_atRest (w := homeMissed s) hrun hw
    exact ⟨_, exec_homingFail_end hi ho hk, by rw [hrest]; exact hself, fun c hc => by rw [hrest]; exact hne c hc,
      by rw [hrest]; exact hsup, by rw [hrest]; exact hmark, by rw [hrest]; rfl⟩
  · simp [exec, execHomingFail, onService_on _ _ hi, ho, Nat.not_le.2 hk]
  · simp [exec, execHomingFail, onService_on _ _ hi, ho]
  · simp [exec, execHomingStep, onService_on _ _ hi, ho]
  · simp [exec, execMovetoStep, onService_on _ _ hi, ho]
  · simp [exec, execHomeSwitchSeenClosed, onService_on _ _ hi, hx, ho]
  · simp [exec, execHomeSwitchSeenClosed, onService_on _ _ hi, hx]
  · simp [exec, execHomeSwitchSeenClosed, onService_on _ _ hi, hx, ho]
  · simp [exec, execHomingStep, onService_on _ _ hi, ho]
  · simp [exec, execHomingFail, onService_on _ _ hi, ho]
  · simp [exec, execMovetoStep, onService_on _ _ hi, ho]

end Sys2Proof.Machine

namespace Sys2Proof.Machine

/-! ### The look-up and the selector's moves (R110 to R114) -/

/-- R113: what a jam leaves of the fault unit and of the selector. -/
theorem jam_over (p : Nat) {s w : State} (hf : w.flt = s.flt) :
    raisedIn .selectorJam (BitVec.ofNat 8 p) (BitVec.ofNat 8 (w.slu.lastCode.getD 0)) s (jam p w) ∧
    (∀ c : FaultCode, c ≠ .selectorJam → faultRec c (jam p w) = faultRec c s) ∧
    (jam p w).flt.supply = s.flt.supply ∧ (jam p w).flt.axisMark = s.flt.axisMark ∧
    (jam p w).slu = { w.slu with sel := .jammed, moveLimit := .stopped, settle := .stopped } := by
  obtain ⟨hself, hne, hsup, hmark, -⟩ := raise_over .selectorJam (BitVec.ofNat 8 p)
    (BitVec.ofNat 8 (w.slu.lastCode.getD 0)) (s := s)
    (w := { w with slu := { w.slu with sel := .jammed, moveLimit := .stopped, settle := .stopped } }) hf
  exact ⟨hself, hne, hsup, hmark, rfl⟩

theorem windowSelect_unusable (colour : Nat) (lines : CodeLines) (t : State)
    (h : needleUsable (mapNeedle colour t) t = false) :
    windowSelect colour lines t = raise .needleUnmapped (BitVec.ofNat 8 colour) (BitVec.ofNat 8 (mapNeedle colour t)) t :=
  if_neg (by simp [h])

theorem windowSelect_usable (colour : Nat) (lines : CodeLines) (t : State)
    (h : needleUsable (mapNeedle colour t) t = true) :
    windowSelect colour lines t = startMove (mapNeedle colour t) lines t :=
  if_pos h

/-- R110: where a move starts elsewhere than at its target, the selector drives there. -/
theorem startMove_drives (p q : Nat) (lines : CodeLines) (t : State) (hq : selectorStart lines t = some q) (hne : q ≠ p) :
    startMove p lines t = { t with slu := { t.slu with
      sel := .moving p, counter := q, dir := if q < p then .positive else .negative, settle := .stopped, reMoved := false
      stepPulses := 1, moveLimit := .running (((p - q) + (q - p)) * (t.params.selLimit * 10000))
      lastCode := if t.slu.sel = .unknown then some q else none } } := by
  unfold selectorStart at hq
  unfold startMove
  cases hsel : t.slu.sel with
  | settled r =>
    have hr : r = q := by simpa [hsel] using hq
    subst hr
    simp [hne, driveFrom, pitches, tensMsUs]
  | unknown =>
    rw [hsel] at hq
    simp only at hq
    simp [hq, hne, driveFrom, pitches, tensMsUs]
  | jammed => simp [hsel] at hq
  | moving r => simp [hsel] at hq
  | confirming r => simp [hsel] at hq

/-- R110, R113: the cases of a move to a target that is found. -/
theorem startMove_cases (p : Nat) (lines : CodeLines) (t : State) :
    (if t.slu.sel = .settled p then (startMove p lines t).flt = t.flt ∧ (startMove p lines t).slu = { t.slu with counter := p }
    else if t.slu.sel = .jammed then (startMove p lines t).flt = t.flt ∧ (startMove p lines t).slu = t.slu
    else if t.slu.sel = .unknown ∧ readCode t.params.needles t.slu.detent lines = none then
      raisedIn .selectorJam (BitVec.ofNat 8 p) 0 t (startMove p lines t) ∧
      (∀ c : FaultCode, c ≠ .selectorJam → faultRec c (startMove p lines t) = faultRec c t) ∧
      (startMove p lines t).slu = { t.slu with
        sel := .jammed, reMoved := false, lastCode := none, stepPulses := 0, moveLimit := .stopped, settle := .stopped }
    else if t.slu.sel = .unknown ∧ readCode t.params.needles t.slu.detent lines = some p then
      (startMove p lines t).flt = t.flt ∧ (startMove p lines t).slu = { t.slu with
        sel := .settled p, counter := p, reMoved := false, lastCode := some p, stepPulses := 0 }
    else (startMove p lines t).flt = t.flt) := by
  unfold startMove
  cases hsel : t.slu.sel with
  | settled q =>
    by_cases hq : q = p
    · simp [hq]
    · simp [hq, driveFrom]
  | unknown =>
    cases hcode : readCode t.params.needles t.slu.detent lines with
    | none =>
      obtain ⟨hself, hne, -, -, hslu⟩ := jam_over p (s := t)
        (w := { t with slu := { t.slu with reMoved := false, lastCode := none, stepPulses := 0 } }) rfl
      simp only [reduceCtorEq, if_false, true_and, if_true]
      exact ⟨hself, hne, hslu⟩
    | some q =>
      by_cases hq : q = p
      · simp [hq]
      · simp [hq, driveFrom]
  | jammed => simp
  | moving q => simp
  | confirming q => simp

/-- R115, R116: after the trim the window's colour is looked up. -/
theorem selectAfterTrim_of_colour {w : WindowRec} {colour : Nat} (lines : CodeLines) {t : State} (hw : t.pcu.openW = some w)
    (hc : colourOfWindow w t = some colour) : selectAfterTrim lines t = windowSelect colour lines t := by
  unfold colourOfWindow at hc
  unfold selectAfterTrim
  rw [hw]
  cases hk : w.kind with
  | prepare =>
    rw [hk] at hc
    cases hc
    simp only [hk]
    rfl
  | change n =>
    rw [hk] at hc
    cases hc
    simp only [hk]
  | _ => simp [hk] at hc

theorem selectAfterTrim_of_none (lines : CodeLines) {t : State} (h : t.pcu.openW.bind (colourOfWindow · t) = none) :
    selectAfterTrim lines t = t := by
  unfold selectAfterTrim
  cases hw : t.pcu.openW with
  | none => rfl
  | some w =>
    rw [hw] at h
    simp only [Option.bind_some] at h
    unfold colourOfWindow at h
    cases hk : w.kind with
    | prepare => simp [hk] at h
    | change n => simp [hk] at h
    | _ => simp only [hk]

/-! ### The position counter (R108) -/

/-- The selector with a detent pulse seen. -/
def detented (s : State) : State := { s with slu := { s.slu with detent := true } }

theorem countDetent_up {s : State} (hd : s.slu.dir = .positive) (hc : s.slu.counter < 15) :
    countDetent s = ({ s with slu := { s.slu with counter := s.slu.counter + 1 } },
      decide (s.slu.counter + 1 ≤ s.params.needles)) := by
  simp [countDetent, hd, Nat.not_le.2 hc]

theorem countDetent_past {s : State} (hd : s.slu.dir = .positive) (hc : s.slu.counter = 15) :
    countDetent s =
      ({ s with slu := { s.slu with counter := (Config.counterOutOfRange s.free).val }, free := s.free + 1 },
        decide (16 ≤ s.params.needles)) := by
  simp [countDetent, hd, hc]

theorem countDetent_down {s : State} (hd : s.slu.dir = .negative) (hc : s.slu.counter ≠ 0) :
    countDetent s = ({ s with slu := { s.slu with counter := s.slu.counter - 1 } },
      decide (2 ≤ s.slu.counter ∧ s.slu.counter - 1 ≤ s.params.needles)) := by
  simp [countDetent, hd, hc]

theorem countDetent_below {s : State} (hd : s.slu.dir = .negative) (hc : s.slu.counter = 0) :
    countDetent s =
      ({ s with slu := { s.slu with counter := (Config.counterOutOfRange s.free).val }, free := s.free + 1 }, false) := by
  simp [countDetent, hd, hc]

/-! ### Detent pulses (R108, R111, R112) -/

section
variable {s : State} {p : Nat} (hi : inService s = true)
include hi

section
variable (hh : isHead s = true)
include hh

theorem exec_detentPulse_moving (hsel : s.slu.sel = .moving p) :
    exec .detentPulse s = .next (settle (detentWhileMoving p (detented s))) := by
  simp [exec, execDetentPulse, onService_on _ _ hi, hh, hsel, detented]

theorem exec_detentPulse_confirming (hsel : s.slu.sel = .confirming p) :
    exec .detentPulse s = .next (settle (detentWhileConfirming p (detented s))) := by
  simp [exec, execDetentPulse, onService_on _ _ hi, hh, hsel, detented]

/-- R111, R112: a count that leaves 1..NEEDLES jams the selector, moving or confirming. -/
theorem exec_detentPulse_jams (hsel : selectorTarget s.slu.sel = some p) {w : State}
    (hout : countDetent (detented s) = (w, false)) : exec .detentPulse s = .next (settle (jam p w)) := by
  cases hs : s.slu.sel with
  | moving q =>
    have hq : q = p := by simpa [selectorTarget, hs] using hsel
    rw [exec_detentPulse_moving hi hh (hq ▸ hs), detentWhileMoving, hout]
    rfl
  | confirming q =>
    have hq : q = p := by simpa [selectorTarget, hs] using hsel
    rw [exec_detentPulse_confirming hi hh (hq ▸ hs), detentWhileConfirming, hout]
    rfl
  | _ => simp [selectorTarget, hs] at hsel

theorem exec_detentReleased_settled (hsel : s.slu.sel = .settled p) :
    exec .detentReleased s = .next (settle { s with slu := { s.slu with detent := false, sel := .unknown } }) := by
  simp [exec, execDetentReleased, onService_on _ _ hi, hh, hsel]

end

theorem exec_selMoveLimitExpiry_moving (hsel : s.slu.sel = .moving p) (hl : isRunning s.slu.moveLimit = true) :
    exec .selMoveLimitExpiry s = .next (settle (jam p s)) := by
  simp [exec, execSelMoveLimitExpiry, onService_on _ _ hi, hsel, hl]

theorem exec_selSettleExpiry_confirming (lines : CodeLines) (hsel : s.slu.sel = .confirming p)
    (hl : isRunning s.slu.settle = true) :
    exec (.selSettleExpiry lines) s = .next (settle (settleRead p lines s)) := by
  simp [exec, execSelSettleExpiry, onService_on _ _ hi, hsel, hl]

/-- The head once its trim pulse has ended (R118). -/
def trimmed (s : State) : State :=
  { s with slu := { s.slu with trim := .stopped }, stu := { s.stu with tail := false } }

theorem exec_trimPulseEnd (lines : CodeLines) (ht : isRunning s.slu.trim = true) :
    exec (.trimPulseEnd lines) s = .next (settle (selectAfterTrim lines (trimmed s))) := by
  simp [exec, execTrimPulseEnd, onService_on _ _ hi, trimming, ht, trimmed]

end

/-- R25: while the selector is busy in an open window, the READY test changes nothing but a starve timer. -/
theorem settle_busy {w : State} (hw : w.pcu.win = .opened) (hs : w.pcu.starve = .stopped) (hb : selectorBusy w = true) :
    settle w = w :=
  settle_open hw hs (.inr (workInFlight_of_busy hb))

/-- R113: a jam over changes at the selector alone, and the READY test over it. -/
theorem settle_jam (p : Nat) {s w : State} (hw : w = { s with slu := w.slu, free := w.free }) :
    (settle (jam p w)).flt.axisMark = s.flt.axisMark ∧
    raisedIn .selectorJam (BitVec.ofNat 8 p) (BitVec.ofNat 8 (w.slu.lastCode.getD 0)) s (settle (jam p w)) ∧
    (∀ c : FaultCode, c ≠ .selectorJam → faultRec c (settle (jam p w)) = faultRec c s) ∧
    (settle (jam p w)).flt.supply = s.flt.supply ∧ (settle (jam p w)).stu = s.stu ∧ (settle (jam p w)).thm = s.thm ∧
    (settle (jam p w)).axu = s.axu ∧
    (settle (jam p w)).slu = { w.slu with sel := .jammed, moveLimit := .stopped, settle := .stopped } ∧
    (settle (jam p w)).free = w.free := by
  obtain ⟨hfw, hst, hth, hax⟩ : w.flt = s.flt ∧ w.stu = s.stu ∧ w.thm = s.thm ∧ w.axu = s.axu := by
    rw [hw]
    exact ⟨rfl, rfl, rfl, rfl⟩
  obtain ⟨hself, hne, hsup, hmark, hslu⟩ := jam_over p hfw
  have hflt : (settle (jam p w)).flt = (jam p w).flt := by simp
  refine ⟨?_, (faultRec_congr hflt _).trans hself, fun c hc => (faultRec_congr hflt c).trans (hne c hc), ?_, ?_, ?_, ?_, ?_, ?_⟩
  · rw [hflt, hmark]
  · rw [hflt, hsup]
  · simp [hst]
  · simp [hth]
  · simp [hax]
  · simp [hslu]
  · simp

end Sys2Proof.Machine

namespace Sys2Proof.Machine

/-! ### The reports of the selector (R25, R108 to R113, R118) -/

theorem reports_jam {s w : State} (p : Nat) (h : Reports s w) : Reports s (jam p w) := by
  unfold Reports at h
  rw [h]
  rfl

theorem reports_detented (s : State) : Reports s (detented s) := rfl

theorem Reports.trans {s t u : State} (h : Reports s t) (k : Reports t u) : Reports s u := by
  unfold Reports at h k ⊢
  rw [k, h]

theorem reports_detentWhileMoving (p : Nat) (s : State) : Reports s (detentWhileMoving p s) := by
  unfold Reports
  ext1 <;> simp

theorem reports_detentWhileConfirming (p : Nat) (s : State) : Reports s (detentWhileConfirming p s) := by
  unfold Reports
  ext1 <;> simp

theorem reports_settleRead (p : Nat) (lines : CodeLines) (s : State) : Reports s (settleRead p lines s) := by
  unfold Reports
  ext1 <;> simp

theorem reports_selectAfterTrim (lines : CodeLines) (s : State) : Reports s (selectAfterTrim lines s) := by
  unfold Reports
  ext1 <;> simp

theorem reports_trimmed (s : State) : Reports s (trimmed s) := rfl

section
variable {s : State} {p : Nat} (hi : inService s = true) (hh : isHead s = true) (hw : s.pcu.win = .opened)
  (hst : s.pcu.starve = .stopped)
include hi hh hw hst

/-- R111: the counter at the target starts the settle wait. -/
theorem exec_detentPulse_arrives (hsel : s.slu.sel = .moving p)
    (hc : countDetent (detented s) = ({ s with slu := { s.slu with detent := true, counter := p } }, true)) :
    exec .detentPulse s = .next { s with slu := { s.slu with
      detent := true, counter := p, sel := .confirming p, moveLimit := .stopped
      settle := .running (s.params.selSettle * 1000) } } := by
  rw [exec_detentPulse_moving hi hh hsel, detentWhileMoving, hc]
  exact congrArg _ ((congrArg settle (if_pos rfl)).trans (settle_busy hw hst rfl))

/-- R111: elsewhere in 1..NEEDLES the next step pulse follows. -/
theorem exec_detentPulse_steps {n : Nat} (hsel : s.slu.sel = .moving p) (hne : n ≠ p)
    (hc : countDetent (detented s) = ({ s with slu := { s.slu with detent := true, counter := n } }, true)) :
    exec .detentPulse s = .next { s with slu := { s.slu with
      detent := true, counter := n, stepPulses := s.slu.stepPulses + 1 } } := by
  rw [exec_detentPulse_moving hi hh hsel, detentWhileMoving, hc]
  refine congrArg _ ((congrArg settle (if_neg hne)).trans (settle_busy hw hst ?_))
  simp [selectorBusy, hsel]

/-- R112: while CONFIRMING the counter follows. -/
theorem exec_detentPulse_confirms {n : Nat} (hsel : s.slu.sel = .confirming p)
    (hc : countDetent (detented s) = ({ s with slu := { s.slu with detent := true, counter := n } }, true)) :
    exec .detentPulse s = .next { s with slu := { s.slu with detent := true, counter := n } } := by
  rw [exec_detentPulse_confirming hi hh hsel, detentWhileConfirming, hc]
  refine congrArg _ (settle_busy hw hst ?_)
  simp [selectorBusy, hsel]

end

theorem countDetent_detented_up {s : State} {n : Nat} (hd : s.slu.dir = .positive) (hc : s.slu.counter < 15)
    (hn : s.slu.counter + 1 = n) (hr : n ≤ s.params.needles) :
    countDetent (detented s) = ({ s with slu := { s.slu with detent := true, counter := n } }, true) := by
  subst hn
  rw [countDetent_up (s := detented s) hd hc]
  exact congrArg _ (decide_eq_true hr)

theorem countDetent_detented_down {s : State} {n : Nat} (hd : s.slu.dir = .negative) (hc : s.slu.counter = n + 1)
    (h1 : 1 ≤ n) (hr : n ≤ s.params.needles) :
    countDetent (detented s) = ({ s with slu := { s.slu with detent := true, counter := n } }, true) := by
  have hn : s.slu.counter - 1 = n := by omega
  rw [countDetent_down (s := detented s) hd (by rw [show (detented s).slu.counter = n + 1 from hc]; simp), ← hn]
  exact congrArg _ (decide_eq_true ⟨by rw [show (detented s).slu.counter = n + 1 from hc]; omega,
    by rw [show (detented s).slu.counter - 1 = n from hn]; exact hr⟩)

/-! ### The settle read (R112) -/

theorem settleRead_none (p : Nat) (lines : CodeLines) (s : State) (h : readCode s.params.needles s.slu.detent lines = none) :
    settleRead p lines s = jam p s := by simp [settleRead, h]

theorem settleRead_there (p : Nat) (lines : CodeLines) (s : State)
    (h : readCode s.params.needles s.slu.detent lines = some p) :
    settleRead p lines s = { s with slu := { s.slu with
      sel := .settled p, counter := p, lastCode := some p, settle := .stopped } } := by simp [settleRead, h]

theorem settleRead_again (p q : Nat) (lines : CodeLines) (s : State)
    (h : readCode s.params.needles s.slu.detent lines = some q) (hne : q ≠ p) (hr : s.slu.reMoved = false) :
    settleRead p lines s = { s with slu := { s.slu with
      sel := .moving p, counter := q, lastCode := some q, settle := .stopped, reMoved := true
      stepPulses := s.slu.stepPulses + 1, dir := if q < p then .positive else .negative
      moveLimit := .running (((p - q) + (q - p)) * (s.params.selLimit * 10000)) } } := by
  simp [settleRead, h, hne, hr, driveFrom, pitches, tensMsUs]

theorem settleRead_jams (p q : Nat) (lines : CodeLines) (s : State)
    (h : readCode s.params.needles s.slu.detent lines = some q) (hne : q ≠ p) (hr : s.slu.reMoved = true) :
    settleRead p lines s =
      jam p { s with slu := { s.slu with lastCode := some q, settle := .stopped, counter := q } } := by
  simp [settleRead, h, hne, hr]

/-! ### The look-up after the trim (R114 to R116) -/

/-- R114: a look-up that finds no needle to use moves nothing. -/
theorem settle_unusable {s t : State} (colour : Nat) (lines : CodeLines) (ht : t = trimmed s)
    (h : needleUsable (mapNeedle colour s) s = false) :
    (settle (windowSelect colour lines t)).flt.axisMark = s.flt.axisMark ∧
    (settle (windowSelect colour lines t)).flt.supply = s.flt.supply ∧
    raisedIn .needleUnmapped (BitVec.ofNat 8 colour) (BitVec.ofNat 8 (mapNeedle colour s)) s
      (settle (windowSelect colour lines t)) ∧
    (∀ c : FaultCode, c ≠ .needleUnmapped → faultRec c (settle (windowSelect colour lines t)) = faultRec c s) ∧
    (settle (windowSelect colour lines t)).slu = { s.slu with trim := .stopped } := by
  subst ht
  obtain ⟨hself, hne, hsup, hmark, -⟩ := raise_over .needleUnmapped (BitVec.ofNat 8 colour)
    (BitVec.ofNat 8 (mapNeedle colour s)) (s := s) (w := trimmed s) rfl
  have hsel := windowSelect_unusable colour lines (trimmed s) h
  have hmap : mapNeedle colour (trimmed s) = mapNeedle colour s := rfl
  rw [hmap] at hsel
  rw [hsel]
  have hflt : (settle (raise .needleUnmapped (BitVec.ofNat 8 colour) (BitVec.ofNat 8 (mapNeedle colour s)) (trimmed s))).flt =
      (raise .needleUnmapped (BitVec.ofNat 8 colour) (BitVec.ofNat 8 (mapNeedle colour s)) (trimmed s)).flt := by simp
  refine ⟨by rw [hflt, hmark], by rw [hflt, hsup], (faultRec_congr hflt _).trans hself,
    fun c hc => (faultRec_congr hflt c).trans (hne c hc), ?_⟩
  simp [trimmed]

/-- R110, R113, R118: the cases of the look-up after the trim. -/
theorem settle_afterTrim (colour p : Nat) (lines : CodeLines) (s : State) (hp : mapNeedle colour s = p) :
    if needleUsable p s = false then
      raisedIn .needleUnmapped (BitVec.ofNat 8 colour) (BitVec.ofNat 8 p) s (settle (windowSelect colour lines (trimmed s))) ∧
      (∀ c : FaultCode, c ≠ .needleUnmapped →
        faultRec c (settle (windowSelect colour lines (trimmed s))) = faultRec c s) ∧
      (settle (windowSelect colour lines (trimmed s))).slu = { s.slu with trim := .stopped }
    else if s.slu.sel = .settled p then
      (settle (windowSelect colour lines (trimmed s))).flt = s.flt ∧
      (settle (windowSelect colour lines (trimmed s))).slu = { s.slu with trim := .stopped, counter := p }
    else if s.slu.sel = .jammed then
      (settle (windowSelect colour lines (trimmed s))).flt = s.flt ∧
      (settle (windowSelect colour lines (trimmed s))).slu = { s.slu with trim := .stopped }
    else if s.slu.sel = .unknown ∧ readCode s.params.needles s.slu.detent lines = none then
      raisedIn .selectorJam (BitVec.ofNat 8 p) 0 s (settle (windowSelect colour lines (trimmed s))) ∧
      (∀ c : FaultCode, c ≠ .selectorJam → faultRec c (settle (windowSelect colour lines (trimmed s))) = faultRec c s) ∧
      (settle (windowSelect colour lines (trimmed s))).slu = { s.slu with
        trim := .stopped, sel := .jammed, reMoved := false, lastCode := none, stepPulses := 0, moveLimit := .stopped
        settle := .stopped }
    else if s.slu.sel = .unknown ∧ readCode s.params.needles s.slu.detent lines = some p then
      (settle (windowSelect colour lines (trimmed s))).flt = s.flt ∧
      (settle (windowSelect colour lines (trimmed s))).slu = { s.slu with
        trim := .stopped, sel := .settled p, counter := p, reMoved := false, lastCode := some p, stepPulses := 0 }
    else (settle (windowSelect colour lines (trimmed s))).flt = s.flt := by
  subst hp
  cases hu : needleUsable (mapNeedle colour s) s with
  | false =>
    obtain ⟨-, -, hself, hne, hslu⟩ := settle_unusable colour lines rfl hu
    exact ⟨hself, hne, hslu⟩
  | true =>
    have hsel : windowSelect colour lines (trimmed s) = startMove (mapNeedle colour s) lines (trimmed s) :=
      windowSelect_usable colour lines (trimmed s) hu
    have hmove := startMove_cases (mapNeedle colour s) lines (trimmed s)
    have hflt : (settle (startMove (mapNeedle colour s) lines (trimmed s))).flt =
        (startMove (mapNeedle colour s) lines (trimmed s)).flt := by simp
    have hslu : (settle (startMove (mapNeedle colour s) lines (trimmed s))).slu =
        (startMove (mapNeedle colour s) lines (trimmed s)).slu := by simp
    rw [hsel, hflt, hslu, if_neg (by simp)]
    simp only [raisedIn, faultRec_congr hflt]
    exact hmove

end Sys2Proof.Machine

namespace Sys2Proof.Machine

section
variable {s : State} (hi : inService s = true)
include hi

/-- R115, R116: the end of the trim pulse of a window that asks for a colour. -/
theorem exec_trimPulseEnd_looksUp (lines : CodeLines) {w : WindowRec} {colour : Nat} (ht : isRunning s.slu.trim = true)
    (hw : s.pcu.openW = some w) (hc : colourOfWindow w s = some colour) :
    exec (.trimPulseEnd lines) s = .next (settle (windowSelect colour lines (trimmed s))) := by
  rw [exec_trimPulseEnd hi lines ht, selectAfterTrim_of_colour lines (t := trimmed s) hw hc]

theorem exec_trimPulseEnd_rests (lines : CodeLines) (ht : isRunning s.slu.trim = true)
    (hw : s.pcu.openW.bind (colourOfWindow · s) = none) :
    exec (.trimPulseEnd lines) s = .next (settle (trimmed s)) := by
  rw [exec_trimPulseEnd hi lines ht, selectAfterTrim_of_none lines (t := trimmed s) hw]

/-- R110, R118: after the trim the selector drives to the needle of the window's colour. -/
theorem exec_trimPulseEnd_drives (lines : CodeLines) {w : WindowRec} {colour p q : Nat} (hopen : s.pcu.win = .opened)
    (hst : s.pcu.starve = .stopped) (ht : isRunning s.slu.trim = true) (hw : s.pcu.openW = some w)
    (hc : colourOfWindow w s = some colour) (hp : mapNeedle colour s = p) (hu : needleUsable p s = true)
    (hq : selectorStart lines s = some q) (hne : q ≠ p) :
    exec (.trimPulseEnd lines) s = .next { s with
      stu := { s.stu with tail := false }
      slu := { s.slu with
        trim := .stopped, sel := .moving p, counter := q, dir := if q < p then .positive else .negative
        settle := .stopped, reMoved := false, stepPulses := 1
        moveLimit := .running (((p - q) + (q - p)) * (s.params.selLimit * 10000))
        lastCode := if s.slu.sel = .unknown then some q else none } } := by
  subst hp
  have hsel : windowSelect colour lines (trimmed s) = startMove (mapNeedle colour s) lines (trimmed s) :=
    windowSelect_usable colour lines (trimmed s) hu
  rw [exec_trimPulseEnd_looksUp hi lines ht hw hc, hsel, startMove_drives (mapNeedle colour s) q lines (trimmed s) hq hne]
  exact congrArg _ (settle_busy hopen hst rfl)

end

/-- The report of a selector that is read, or released, without a fault. -/
theorem settle_selector {s w : State} (hw : w = { s with slu := w.slu }) :
    (settle w).slu = w.slu ∧ (settle w).flt = s.flt ∧ (settle w).stu = s.stu ∧ (settle w).thm = s.thm ∧
    (settle w).axu = s.axu := by
  obtain ⟨hf, hst, hth, hax⟩ : w.flt = s.flt ∧ w.stu = s.stu ∧ w.thm = s.thm ∧ w.axu = s.axu := by
    rw [hw]
    exact ⟨rfl, rfl, rfl, rfl⟩
  simp [hf, hst, hth, hax]

theorem selectorBusy_eq_false_iff (s : State) :
    selectorBusy s = false ↔ ∀ p, s.slu.sel ≠ .moving p ∧ s.slu.sel ≠ .confirming p := by
  cases hs : s.slu.sel <;> simp [selectorBusy, hs]

theorem windowSelect_axisMark (colour : Nat) (lines : CodeLines) (s : State) :
    (windowSelect colour lines s).flt.axisMark = s.flt.axisMark := by
  cases hu : needleUsable (mapNeedle colour s) s with
  | false =>
    rw [windowSelect_unusable colour lines s hu]
    rfl
  | true =>
    rw [windowSelect_usable colour lines s hu]
    exact (workKeeps_startMove _ lines s).axisMark

/-- Settles O45: a detent pulse is a count and then a move on or a jam; each timer is one read or one jam; the end of a trim is
a look-up. What each leaves is a report to the pace unit. -/
theorem selectorInputsAndTimers : Obligations.SelectorInputsAndTimers := by
  refine ⟨fun p s hi hh hw hst hsel hd hc hp h15 => ?_, fun p s hi hh hw hst hsel hd hc h1 hp => ?_,
    fun p s hi hh hw hst hsel hd hc hn h15 => ?_, fun p s hi hh hw hst hsel hd hc h2 hn => ?_,
    fun p s hi hh hsel hd hn h15 => ?_, fun p s hi hh hsel hd hc hn => ?_, fun p s hi hh hsel hd hc => ?_,
    fun p s hi hh hsel hd hc => ?_, fun p s hi hh hw hst hsel hd hn h15 => ?_, fun p s hi hh hw hst hsel hd h2 hn => ?_,
    fun s hi hh hb => ?_, fun s hi hh hsel => ?_, fun p s hi hh hsel hrun hw => ?_, fun p s hi hh hsel => ?_,
    fun p s hi hsel hl => ?_, fun s hi hl => ?_, fun lines p s hi hsel hl hcode => ?_, fun lines p s hi hsel hl hcode => ?_,
    fun lines p q s hi hw hst hsel hl hcode hne hr => ?_, fun lines p q s hi hsel hl hcode hne hr => ?_,
    fun lines s hi hl => ?_, fun lines s hi ht => ?_, fun lines n r s hi ht hw => ?_,
    fun lines n r p s hi ht hw hp hu => ?_, fun lines w colour p s hi ht hw hc hp => ?_,
    fun lines n r p q s hi hopen hst ht hw hp hu hq hne =>
      exec_trimPulseEnd_drives hi lines hopen hst ht hw rfl hp hu hq hne,
    fun lines r p q s hi hopen hst ht hw hp hu hq hne =>
      exec_trimPulseEnd_drives hi lines hopen hst ht hw rfl hp hu hq hne,
    fun p s hi hh hsel => ?_, fun p s hi hh hsel => ?_, fun p s hi hsel hl => ?_, fun lines p s hi hsel hl => ?_,
    fun lines s hi ht => ?_, fun s hi hh => ?_, fun s hi hh => ?_, fun s hi hb => ?_, fun p s hi hsel => ?_,
    fun lines s hi hb => ?_, fun lines p s hi hsel => ?_, fun lines s hi ht hw => ?_⟩
  · exact exec_detentPulse_arrives hi hh hw hst hsel (countDetent_detented_up hd h15 hc hp)
  · exact exec_detentPulse_arrives hi hh hw hst hsel (countDetent_detented_down hd hc h1 hp)
  · exact exec_detentPulse_steps hi hh hw hst hsel hc (countDetent_detented_up hd h15 rfl hn)
  · exact exec_detentPulse_steps hi hh hw hst hsel (by omega)
      (countDetent_detented_down hd (by omega : s.slu.counter = s.slu.counter - 1 + 1) (by omega) (by omega))
  · have hout := (countDetent_up (s := detented s) hd h15).trans (congrArg _ (decide_eq_false (Nat.not_le.2 hn)))
    exact ⟨_, exec_detentPulse_jams hi hh hsel hout, settle_jam p rfl⟩
  · have hout := (countDetent_past (s := detented s) hd hc).trans
      (congrArg _ (decide_eq_false (Nat.not_le.2 (Nat.lt_succ_of_le hn))))
    exact ⟨_, exec_detentPulse_jams hi hh hsel hout, settle_jam p rfl⟩
  · have hc' : countDetent (detented s) = ({ s with slu := { s.slu with detent := true, counter := 0 } }, false) := by
      simp [countDetent, detented, hd, hc]
    exact ⟨_, exec_detentPulse_jams hi hh hsel hc', settle_jam p rfl⟩
  · exact ⟨_, exec_detentPulse_jams hi hh hsel (countDetent_below (s := detented s) hd hc), settle_jam p rfl⟩
  · exact exec_detentPulse_confirms hi hh hw hst hsel (countDetent_detented_up hd h15 rfl hn)
  · exact exec_detentPulse_confirms hi hh hw hst hsel
      (countDetent_detented_down hd (by omega : s.slu.counter = s.slu.counter - 1 + 1) (by omega) (by omega))
  · have hno := (selectorBusy_eq_false_iff s).1 hb
    cases hsel : s.slu.sel with
    | moving p => exact absurd hsel (hno p).1
    | confirming p => exact absurd hsel (hno p).2
    | _ => simp [exec, execDetentPulse, onService_on _ _ hi, hh, hsel]
  · cases hs : s.slu.sel with
    | settled p => simp [selectorBusy, hs] at hsel
    | _ => simp [exec, execDetentReleased, onService_on _ _ hi, hh, hs]
  · rw [exec_detentReleased_settled hi hh hsel]
    exact congrArg _ (settle_atRest hrun hw)
  · refine ⟨_, exec_detentReleased_settled hi hh hsel, by simp, ?_⟩
    exact settle_frame _
  · exact ⟨_, exec_selMoveLimitExpiry_moving hi hsel hl, settle_jam p rfl⟩
  · cases hs : s.slu.sel <;> simp [exec, execSelMoveLimitExpiry, onService_on _ _ hi, hs, hl]
  · refine ⟨_, exec_selSettleExpiry_confirming hi lines hsel hl, ?_⟩
    rw [settleRead_none p lines s hcode]
    exact settle_jam p rfl
  · refine ⟨_, exec_selSettleExpiry_confirming hi lines hsel hl, ?_⟩
    rw [settleRead_there p lines s hcode]
    exact settle_selector rfl
  · rw [exec_selSettleExpiry_confirming hi lines hsel hl, settleRead_again p q lines s hcode hne hr]
    exact congrArg _ (settle_busy hw hst rfl)
  · refine ⟨_, exec_selSettleExpiry_confirming hi lines hsel hl, ?_⟩
    rw [settleRead_jams p q lines s hcode hne hr]
    exact settle_jam p rfl
  · cases hs : s.slu.sel <;> simp [exec, execSelSettleExpiry, onService_on _ _ hi, hs, hl]
  · simp [exec, execTrimPulseEnd, onService_on _ _ hi, trimming, ht]
  · exact ⟨_, exec_trimPulseEnd_rests hi lines ht (by rw [hw]; rfl), by simp [trimmed]⟩
  · subst hp
    obtain ⟨hmark, hsup, hself, hne, hslu⟩ := settle_unusable r.o1.toNat lines rfl hu
    rw [BitVec.ofNat_toNat, BitVec.setWidth_eq] at hself
    refine ⟨_, exec_trimPulseEnd_looksUp hi lines ht hw rfl, hmark, hsup, hself, hne, hslu, ?_⟩
    simp [trimmed]
  · refine ⟨_, exec_trimPulseEnd_looksUp hi lines ht hw hc, ?_, ?_, ?_, ?_, settle_afterTrim colour p lines s hp⟩
    · simp [windowSelect_axisMark, trimmed]
    · simp [windowSelect_supply, trimmed]
    · simp [trimmed]
    · ext1 <;> simp [trimmed]
  · cases hs : s.slu.sel with
    | moving q =>
      refine ⟨_, exec_detentPulse_moving hi hh hs, followsReport_settle ?_ hi⟩
      exact (reports_detented s).trans (reports_detentWhileMoving _ _)
    | confirming q =>
      refine ⟨_, exec_detentPulse_confirming hi hh hs, followsReport_settle ?_ hi⟩
      exact (reports_detented s).trans (reports_detentWhileConfirming _ _)
    | _ => simp [selectorTarget, hs] at hsel
  · exact ⟨_, exec_detentReleased_settled hi hh hsel, followsReport_settle rfl hi⟩
  · exact ⟨_, exec_selMoveLimitExpiry_moving hi hsel hl, followsReport_settle (reports_jam p rfl) hi⟩
  · exact ⟨_, exec_selSettleExpiry_confirming hi lines hsel hl, followsReport_settle (reports_settleRead p lines s) hi⟩
  · refine ⟨_, exec_trimPulseEnd hi lines ht, followsReport_settle ?_ hi⟩
    exact (reports_trimmed s).trans (reports_selectAfterTrim lines _)
  · simp [exec, execDetentPulse, onService_on _ _ hi, hh]
  · simp [exec, execDetentReleased, onService_on _ _ hi, hh]
  · have hno := (selectorBusy_eq_false_iff s).1 hb
    cases hs : s.slu.sel with
    | moving p => exact absurd hs (hno p).1
    | _ => simp [exec, execSelMoveLimitExpiry, onService_on _ _ hi, hs]
  · simp [exec, execSelMoveLimitExpiry, onService_on _ _ hi, hsel]
  · have hno := (selectorBusy_eq_false_iff s).1 hb
    cases hs : s.slu.sel with
    | confirming p => exact absurd hs (hno p).2
    | _ => simp [exec, execSelSettleExpiry, onService_on _ _ hi, hs]
  · simp [exec, execSelSettleExpiry, onService_on _ _ hi, hsel]
  · exact ⟨_, exec_trimPulseEnd_rests hi lines ht hw, by simp [trimmed]⟩

end Sys2Proof.Machine

namespace Sys2Proof.Machine

/-! ### The needle inputs and the stroke limit (R126 to R133) -/

/-- R126, R159: the head with NEEDLE-UP seen. -/
def needleSeenUp (s : State) : State := { s with stu := { s.stu with needleUp := true, needleHeld := false } }

theorem reports_needleSeenUp (s : State) : Reports s (needleSeenUp s) := rfl

theorem reports_strokeEnd (s : State) : Reports s (strokeEnd s) := by
  unfold Reports
  ext1 <;> simp

theorem reports_needleReachesTop (s : State) : Reports s (needleReachesTop s) := by
  unfold needleReachesTop
  dsimp only
  split
  · exact Reports.trans (t := { s with stu := { s.stu with strokeLimit := .stopped } }) rfl (reports_strokeEnd _)
  · rfl

theorem reports_driveDidNotTurn (s : State) : Reports s (driveDidNotTurn s) := rfl

/-- R130: NEEDLE-UP before the sample. -/
theorem needleReachesTop_none {s : State} (h : s.thm.sample = none) :
    needleReachesTop s = { s with
      stu := { s.stu with strokeLimit := .stopped, phase := .sampling }
      thm := { s.thm with oneShot := .stopped, conv := if s.thm.conv = .none then .late else s.thm.conv } } := by
  simp [needleReachesTop, h]

section
variable {s : State} (hi : inService s = true)
include hi

section
variable (hh : isHead s = true)
include hh

theorem exec_needleUpSeen_upstroke (hp : s.stu.phase = .upstroke) :
    exec .needleUpSeen s = .next (settle (needleReachesTop (needleSeenUp s))) := by
  simp [exec, execNeedleUpSeen, onService_on _ _ hi, hh, hp, needleSeenUp]

theorem exec_needleUpSeen_stuck (hp : s.stu.phase = .stuck) :
    exec .needleUpSeen s = .next (settle (stuckReleased (needleSeenUp s))) := by
  simp [exec, execNeedleUpSeen, onService_on _ _ hi, hh, hp, needleSeenUp]

theorem exec_needleUpSeen_other (hu : s.stu.phase ≠ .upstroke) (hs : s.stu.phase ≠ .stuck) :
    exec .needleUpSeen s = .next (settle (needleSeenUp s)) := by
  cases hp : s.stu.phase with
  | upstroke => exact absurd hp hu
  | stuck => exact absurd hp hs
  | _ => simp [exec, execNeedleUpSeen, onService_on _ _ hi, hh, hp, needleSeenUp]

end

theorem exec_strokeLimitExpiry_up (hl : isRunning s.stu.strokeLimit = true) (hp : s.stu.phase = .downstroke)
    (hn : s.stu.needleUp = true) : exec .strokeLimitExpiry s = .next (settle (driveDidNotTurn s)) := by
  simp [exec, execStrokeLimitExpiry, onService_on _ _ hi, hl, hp, hn]

theorem exec_strokeLimitExpiry_stuck (hl : isRunning s.stu.strokeLimit = true)
    (hp : s.stu.phase = .upstroke ∨ (s.stu.phase = .downstroke ∧ s.stu.needleUp = false)) :
    exec .strokeLimitExpiry s = .next (needleStuck s) := by
  rcases hp with hp | ⟨hp, hn⟩
  · simp [exec, execStrokeLimitExpiry, onService_on _ _ hi, hl, hp]
  · simp [exec, execStrokeLimitExpiry, onService_on _ _ hi, hl, hp, hn]

/-- R26: with NEEDLE-UP shown a head at rest becomes READY for the PREPARE that it owes. -/
theorem exec_needleUpSeen_prepares (hh : isHead s = true) {r : Rec} (hp : s.stu.phase = .idle) (hrun : s.pcu.run = .running)
    (hw : s.pcu.win = .preparing) (hpend : s.pcu.pendingStop = none) (hhalt : s.pcu.haltSeen = false)
    (ha : agreementWaiting s = false) (he : s.pcu.edge = .settled) (ht : trimming s = false) (hb : selectorBusy s = false)
    (hpp : s.pcu.preparePending = true) (hrec : recAtN s = some r) :
    ∃ u, exec .needleUpSeen s = .next u ∧ u.pcu.win = .ready ∧ u.pcu.next = some ⟨.prepare, r⟩ ∧ u.pcu.pace = false := by
  have hhead : isHead (needleSeenUp s) = true := hh
  have hready : roleReady (needleSeenUp s) = true := by
    rw [roleReady, if_pos hhead]
    simpa [strokeInFlight, needleSeenUp, hp] using ⟨ht, hb⟩
  have hm : mayBecomeReady (needleSeenUp s) = true :=
    (mayBecomeReady_iff _).2 ⟨hw, by simp [needleSeenUp, hrun, isMoving], hpend, hhalt, ha, he, hready⟩
  refine ⟨_, exec_needleUpSeen_other hi hh (by simp [hp]) (by simp [hp]), ?_⟩
  rw [settle_prepare (s := needleSeenUp s) hm r hrun hpp hrec]
  exact ⟨rfl, rfl, rfl⟩

end

theorem condition_needleStuck (s : State) : condition .needleStuck s = s.stu.needleHeld := rfl

/-- Settles O46: the phases of a stroke under the needle inputs, and the two faults of its limit. -/
theorem needleInputs : Obligations.NeedleInputs := by
  refine ⟨fun s hi hh hp => ?_, fun s hi hh hp => ?_, fun s hi hh => ?_, fun s hi hh => ?_,
    fun s hi hh hp hx hw hst => ?_, fun s hi hh hp => ?_, fun s hi hh hu hs => ?_,
    fun r s hi hh hp hrun hw hpend hhalt ha he ht hb hpp hrec =>
      exec_needleUpSeen_prepares hi hh hp hrun hw hpend hhalt ha he ht hb hpp hrec,
    fun s hi hl hp hn => ?_, fun s hi hh => ?_, fun s hi hl hp hn => ?_, fun s hi hl hp => ?_, fun s hi hd hu => ?_,
    fun s hi hh hp hx => ?_, fun s hi hh => ?_, fun s hi hh => ?_, fun s hi hh => ?_, fun s hi hh => ?_, fun s hi hl => ?_⟩
  · by_cases hd : s.params.sampleDelay = 0
    · simp [exec, execNeedleDownSeen, onService_on _ _ hi, hh, hp, needleReachesBottom, hd, tensMsUs]
    · simp [exec, execNeedleDownSeen, onService_on _ _ hi, hh, hp, needleReachesBottom, hd, tensMsUs, tenthsMsUs]
  · simp [exec, execNeedleDownSeen, onService_on _ _ hi, hh, hp]
  · simp [exec, execNeedleDownReleased, onService_on _ _ hi, hh]
  · simp [exec, execNeedleUpReleased, onService_on _ _ hi, hh]
  · rw [exec_needleUpSeen_upstroke hi hh hp, needleReachesTop_none (s := needleSeenUp s) hx]
    exact congrArg _ (settle_open hw hst (.inr (workInFlight_of_stroke (by simp))))
  · refine ⟨_, exec_needleUpSeen_stuck hi hh hp, ?_⟩
    simp [condition_needleStuck, stuckReleased, strokeIdle, needleSeenUp]
  · refine ⟨_, exec_needleUpSeen_other hi hh hu hs, ?_⟩
    simp [condition_needleStuck, needleSeenUp]
  · obtain ⟨hself, hne, hsup, hmark, -⟩ := raise_over .driveFail 1 (BitVec.ofNat 8 s.stu.needle) (s := s)
      (w := strokeIdle { s with thm := { s.thm with oneShot := .stopped, conv := .none } }) rfl
    have hflt : (settle (driveDidNotTurn s)).flt = (driveDidNotTurn s).flt := by simp
    refine ⟨_, exec_strokeLimitExpiry_up hi hl hp hn, (faultRec_congr hflt _).trans hself,
      fun c hc => (faultRec_congr hflt c).trans (hne c hc), by rw [hflt]; exact hsup, by rw [hflt]; exact hmark, ?_⟩
    simp [driveDidNotTurn, strokeIdle]
  · by_cases hu : s.stu.phase = .upstroke
    · refine ⟨_, exec_needleUpSeen_upstroke hi hh hu, followsReport_settle ?_ hi⟩
      exact (reports_needleSeenUp s).trans (reports_needleReachesTop _)
    · by_cases hs : s.stu.phase = .stuck
      · exact ⟨_, exec_needleUpSeen_stuck hi hh hs, followsReport_settle rfl hi⟩
      · exact ⟨_, exec_needleUpSeen_other hi hh hu hs, followsReport_settle rfl hi⟩
  · exact ⟨_, exec_strokeLimitExpiry_up hi hl hp hn, followsReport_settle (reports_driveDidNotTurn s) hi⟩
  · obtain ⟨hself, hne, hsup, hmark, -⟩ := raise_over .needleStuck (BitVec.ofNat 8 s.stu.needle)
      (if s.stu.downSeen then 1 else 0) (s := s)
      (w := { s with
        stu := { s.stu with phase := .stuck, strokeLimit := .stopped, needleHeld := true }
        thm := { s.thm with oneShot := .stopped, conv := .none } }) rfl
    exact ⟨_, exec_strokeLimitExpiry_stuck hi hl hp, hself, hne, hsup, hmark, rfl, rfl⟩
  · cases hp : s.stu.phase with
    | downstroke => exact absurd hp hd
    | upstroke => exact absurd hp hu
    | _ => simp [exec, execStrokeLimitExpiry, onService_on _ _ hi, hp]
  · refine ⟨_, exec_needleUpSeen_upstroke hi hh hp, ?_⟩
    rw [needleReachesTop_none (s := needleSeenUp s) hx]
    simp only [condition_needleStuck, settle_keeps]
    exact ⟨rfl, rfl, rfl, rfl, rfl, rfl⟩
  · simp [exec, execNeedleDownSeen, onService_on _ _ hi, hh]
  · simp [exec, execNeedleDownReleased, onService_on _ _ hi, hh]
  · simp [exec, execNeedleUpSeen, onService_on _ _ hi, hh]
  · simp [exec, execNeedleUpReleased, onService_on _ _ hi, hh]
  · simp [exec, execStrokeLimitExpiry, onService_on _ _ hi, hl]

end Sys2Proof.Machine

namespace Sys2Proof.Machine

/-! ### The runs and counts of a class (R136 to R139) -/

/-- R137: the four runs, with the needle that they count. -/
def withRuns (breaks snags looses tights : Nat) (first : Option Nat) (s : State) : State :=
  { s with thm := { s.thm with
    breakRun := breaks, snagRun := snags, looseRun := looses, tightRun := tights, lastNeedle := s.stu.needle
    firstSuspect := first } }

theorem runsForNeedle_eq (s : State) :
    runsForNeedle s = withRuns (runFrom s.thm.breakRun s) (runFrom s.thm.snagRun s) (runFrom s.thm.looseRun s)
      (runFrom s.thm.tightRun s) s.thm.firstSuspect s := by
  by_cases h : s.stu.needle = s.thm.lastNeedle
  · simp only [runsForNeedle, runFrom, withRuns, if_pos h]
    rw [h]
  · simp only [runsForNeedle, runFrom, withRuns, if_neg h]

theorem updateRuns_good (s : State) : updateRuns .good s = withRuns 0 0 0 0 s.thm.firstSuspect s := by
  rw [updateRuns, runsForNeedle_eq]
  rfl

theorem updateRuns_snag (s : State) :
    updateRuns .snagSuspect s =
      if s.params.snagRun ≤ runFrom s.thm.snagRun s + 1 then
        raise .threadSnag (runDetail s) (octetSat (runFrom s.thm.snagRun s + 1)) (withRuns 0 0 0 0 s.thm.firstSuspect s)
      else withRuns 0 (runFrom s.thm.snagRun s + 1) 0 0 s.thm.firstSuspect s := by
  rw [updateRuns, runsForNeedle_eq]
  rfl

/-- R136: the needle with one more LOOSE stroke. -/
def oneMoreLoose (n : Needle) : Needle := { n with loose := min 255 (n.loose + 1) }

/-- R136: the needle with one more TIGHT stroke. -/
def oneMoreTight (n : Needle) : Needle := { n with tight := min 255 (n.tight + 1) }

/-- R138: the needle with one more thread break. -/
def oneMoreBreak (n : Needle) : Needle := { n with breaks := min 255 (n.breaks + 1) }

theorem updateRuns_loose (s : State) :
    updateRuns .loose s =
      if s.params.looseRun ≤ runFrom s.thm.looseRun s + 1 then
        raise .tensionLoose (runDetail s)
          (octetSat (needleEntry s.stu.needle (modifyNeedle s.stu.needle oneMoreLoose s)).loose)
          (withRuns 0 0 0 0 s.thm.firstSuspect (modifyNeedle s.stu.needle oneMoreLoose s))
      else withRuns 0 0 (runFrom s.thm.looseRun s + 1) 0 s.thm.firstSuspect (modifyNeedle s.stu.needle oneMoreLoose s) := by
  rw [updateRuns, runsForNeedle_eq]
  rfl

theorem updateRuns_tight (s : State) :
    updateRuns .tight s =
      if s.params.tightRun ≤ runFrom s.thm.tightRun s + 1 then
        raise .tensionTight (runDetail s)
          (octetSat (needleEntry s.stu.needle (modifyNeedle s.stu.needle oneMoreTight s)).tight)
          (withRuns 0 0 0 0 s.thm.firstSuspect (modifyNeedle s.stu.needle oneMoreTight s))
      else withRuns 0 0 0 (runFrom s.thm.tightRun s + 1) s.thm.firstSuspect (modifyNeedle s.stu.needle oneMoreTight s) := by
  rw [updateRuns, runsForNeedle_eq]
  rfl

/-- R138: the head once the rewind has set its covered mark. -/
def rewound (s : State) : State :=
  { s with stu := { s.stu with C := (firstSuspectAfter s).getD 0 - s.params.overlap } }

theorem updateRuns_break (s : State) :
    updateRuns .breakSuspect s =
      if s.params.breakRun ≤ runFrom s.thm.breakRun s + 1 then
        raise .threadBreak (runDetail s)
          (octetSat (needleEntry s.stu.needle (modifyNeedle s.stu.needle oneMoreBreak s)).breaks)
          (withRuns 0 0 0 0 (firstSuspectAfter s) (modifyNeedle s.stu.needle oneMoreBreak (rewound s)))
      else withRuns (runFrom s.thm.breakRun s + 1) 0 0 0 (firstSuspectAfter s) s := by
  rw [updateRuns, runsForNeedle_eq]
  rfl

/-- R131: no class changes the tail flag, the sample or the conversion. -/
theorem updateRuns_sample (k : StrokeClass) (s : State) :
    (updateRuns k s).stu.tail = s.stu.tail ∧ (updateRuns k s).thm.sample = s.thm.sample ∧
    (updateRuns k s).thm.conv = s.thm.conv := by
  cases k with
  | good =>
    rw [updateRuns_good]
    exact ⟨rfl, rfl, rfl⟩
  | breakSuspect =>
    rw [updateRuns_break]
    split <;> exact ⟨rfl, rfl, rfl⟩
  | snagSuspect =>
    rw [updateRuns_snag]
    split <;> exact ⟨rfl, rfl, rfl⟩
  | loose =>
    rw [updateRuns_loose]
    split <;> exact ⟨rfl, rfl, rfl⟩
  | tight =>
    rw [updateRuns_tight]
    split <;> exact ⟨rfl, rfl, rfl⟩

/-! ### The bobbin and DWELL (R131, R141) -/

/-- R141: the thread of a stroke leaves the bobbin counter, and no record but the bobbin's changes. -/
theorem subtractBobbin_spec (s : State) :
    (subtractBobbin s).thm = { s.thm with bobbin := s.thm.bobbin.map fun b => b - bobbinThread s.params s.stu.copy } ∧
    (subtractBobbin s).flt.axisMark = s.flt.axisMark ∧ (subtractBobbin s).flt.supply = s.flt.supply ∧
    ∀ c : FaultCode, c ≠ .bobbinLow ∧ c ≠ .bobbinEmpty → faultRec c (subtractBobbin s) = faultRec c s := by
  unfold subtractBobbin
  cases hb : s.thm.bobbin with
  | none =>
    refine ⟨?_, rfl, rfl, fun c _ => rfl⟩
    conv_rhs => rw [Option.map_none, ← hb]
  | some b =>
    dsimp only
    refine ⟨?_, ?_, ?_, fun c hc => ?_⟩
    · split <;> split <;> rfl
    · split <;> split <;> rfl
    · split <;> split <;> rfl
    · split
      · rw [faultRec_raise_ne _ _ _ _ _ hc.2]
        split
        · rw [faultRec_raise_ne _ _ _ _ _ hc.1]
          rfl
        · rfl
      · split
        · rw [faultRec_raise_ne _ _ _ _ _ hc.1]
          rfl
        · rfl

/-- R131: DWELL, or the end of the work where Ts has passed. -/
theorem beginDwell_stu (s : State) :
    (beginDwell s).stu = { s.stu with
      phase := if s.stu.tsWait = .expired then .idle else .dwell
      tsWait := if s.stu.tsWait = .expired then .stopped else s.stu.tsWait
      strokeLimit := if s.stu.tsWait = .expired then .stopped else s.stu.strokeLimit } := by
  unfold beginDwell
  split <;> rfl

/-- R131: the end of a stroke of class `k`, over what the class leaves. -/
theorem strokeEnd_spec {k : StrokeClass} {e : State} (hk : classOfStroke e = k) {w : State}
    (hw : updateRuns k (markStroked e) = w) :
    (strokeEnd e).stu = { w.stu with
      phase := if w.stu.tsWait = .expired then .idle else .dwell
      tsWait := if w.stu.tsWait = .expired then .stopped else w.stu.tsWait
      strokeLimit := if w.stu.tsWait = .expired then .stopped else w.stu.strokeLimit } ∧
    (strokeEnd e).thm = { w.thm with bobbin := w.thm.bobbin.map fun b => b - bobbinThread w.params w.stu.copy } ∧
    (strokeEnd e).slu = w.slu ∧ (strokeEnd e).flt.axisMark = w.flt.axisMark ∧
    (strokeEnd e).flt.supply = w.flt.supply ∧
    ∀ c : FaultCode, c ≠ .bobbinLow ∧ c ≠ .bobbinEmpty → faultRec c (strokeEnd e) = faultRec c w := by
  obtain ⟨hthm, hmark, hsup, hrec⟩ := subtractBobbin_spec w
  have hflt : (beginDwell (subtractBobbin w)).flt = (subtractBobbin w).flt := by simp
  rw [strokeEnd, hk, hw, beginDwell_stu, hflt]
  refine ⟨by simp, by simp [hthm], by simp, hmark, hsup, fun c hc => (faultRec_congr hflt c).trans (hrec c hc)⟩

/-! ### The sample, the feed, the surge and the end of DWELL (R129, R131, R134) -/

theorem reports_strokeIdle (s : State) : Reports s (strokeIdle s) := rfl

/-- R129, R130: the stroke about to end with this sample. -/
def ending (up held : Bool) (limit : Timer) (x : Sample) (conv : Conversion) (s : State) : State :=
  { s with
    stu := { s.stu with needleUp := up, needleHeld := held, strokeLimit := limit }
    thm := { s.thm with sample := some x, conv := conv } }

/-- R130: the stroke that the end of its conversion ends. -/
def converted (v : BitVec 10) (s : State) : State :=
  ending s.stu.needleUp s.stu.needleHeld s.stu.strokeLimit ⟨v.toNat, s.thm.conv == .late⟩ .none s

section
variable {s : State} (hi : inService s = true)
include hi

theorem exec_conversionEnd_ends (v : BitVec 10) (hc : s.thm.conv ≠ .none) (hp : s.stu.phase = .sampling) :
    exec (.conversionEnd v) s = .next (settle (strokeEnd (converted v s))) := by
  simp only [exec, execConversionEnd, onService_on _ _ hi, if_neg hc, if_pos hp]
  rfl

theorem exec_dwellEnd_dwell (ht : isRunning s.stu.tsWait = true) (hp : s.stu.phase = .dwell) :
    exec .dwellEnd s = .next (settle (strokeIdle s)) := by
  simp [exec, execDwellEnd, onService_on _ _ hi, ht, hp]

end

/-- R25: after DWELL a head has no work but a trim or a selector move. -/
theorem workInFlight_strokeIdle {s : State} (hm : s.axu.move = none) (ht : trimming s = false)
    (hb : selectorBusy s = false) : workInFlight (strokeIdle s) = false := by
  rw [Bool.eq_false_iff, ne_eq, workInFlight_iff]
  rintro (h | h | h | h)
  · simp [strokeIdle, hm] at h
  · exact Bool.false_ne_true (ht.symm.trans h)
  · exact Bool.false_ne_true (hb.symm.trans h)
  · exact h rfl

theorem roleReady_strokeIdle {s : State} (hh : isHead s = true) (hn : s.stu.needleUp = true) (ht : trimming s = false)
    (hb : selectorBusy s = false) : roleReady (strokeIdle s) = true := by
  have hhead : isHead (strokeIdle s) = true := hh
  rw [roleReady, if_pos hhead]
  simpa [strokeInFlight, strokeIdle, hn] using ⟨ht, hb⟩

theorem phase_other_needleDrive {s : State} (hd : s.stu.phase ≠ .downstroke) (hu : s.stu.phase ≠ .upstroke) :
    needleDrive s = false := by
  simp [needleDrive, hd, hu]

/-- Settles O47: what the sample, feed and surge inputs note, and the reports of the conversion and of DWELL. -/
theorem sampleFeedSurgeAndDwell : Obligations.SampleFeedSurgeAndDwell := by
  refine ⟨fun s hi h => ?_, fun s hi h => ?_, fun v s hi hc => ?_, fun v s hi hc hp => ?_, fun v s hi hc hp => ?_,
    fun v s hi hc hp => ?_, fun s hi hp => ?_, fun s hi hd hu => ?_, fun s hi hp => ?_, fun s hi hd hu hs => ?_,
    fun s hi ht hp => ?_, fun r s hi hh ht hp hw he hpend hm htr hb => ?_, fun s hi ht hp => ?_,
    fun r k s hi hh ht hp hw he hm htr hb hn hpend hhalt ha hrun hpp hrec hk => ?_, fun s hi ht hp => ?_,
    fun s hi ht => ?_⟩
  · simp [exec, execSampleOneShotEnd, onService_on _ _ hi, h]
  · simp [exec, execSampleOneShotEnd, onService_on _ _ hi, h]
  · simp [exec, execConversionEnd, onService_on _ _ hi, hc]
  · simp [exec, execConversionEnd, onService_on _ _ hi, hc, hp]
  · obtain ⟨hstu, hthm, -⟩ := strokeEnd_spec (e := converted v s) rfl rfl
    obtain ⟨htail, hsample, hconv⟩ := updateRuns_sample (classOfStroke (converted v s)) (markStroked (converted v s))
    refine ⟨_, exec_conversionEnd_ends hi v hc hp, ?_⟩
    simp only [settle_keeps, hstu, hthm, htail, hsample, hconv]
    refine ⟨rfl, ?_, rfl, rfl⟩
    split
    · exact .inr rfl
    · exact .inl rfl
  · refine ⟨_, exec_conversionEnd_ends hi v hc hp, followsReport_settle ?_ hi⟩
    exact Reports.trans (t := converted v s) rfl (reports_strokeEnd _)
  · have hdrive : needleDrive s = true := by simpa [needleDrive] using hp
    simp [exec, execFeedPulse, onService_on _ _ hi, hdrive]
  · simp [exec, execFeedPulse, onService_on _ _ hi, phase_other_needleDrive hd hu]
  · have hwatch : watchesSurge s = true := by simpa [watchesSurge, needleDrive, or_assoc] using hp
    simp [exec, execSurge, onService_on _ _ hi, hwatch]
  · simp [exec, execSurge, onService_on _ _ hi, watchesSurge, phase_other_needleDrive hd hu, hs]
  · exact ⟨_, exec_dwellEnd_dwell hi ht hp, by simp [strokeIdle]⟩
  · obtain ⟨hpcu, -⟩ := settle_report_stopped (reports_strokeIdle s) r hw he hpend (workInFlight_strokeIdle hm htr hb)
    refine ⟨_, exec_dwellEnd_dwell hi ht hp, ?_⟩
    rw [hpcu]
    exact ⟨rfl, rfl, rfl, rfl⟩
  · exact ⟨_, exec_dwellEnd_dwell hi ht hp, followsReport_settle (reports_strokeIdle s) hi⟩
  · rw [exec_dwellEnd_dwell hi ht hp, settle_report_ready (reports_strokeIdle s) r k hw he (workInFlight_strokeIdle hm htr hb)
      hpend hhalt ha (roleReady_strokeIdle hh hn htr hb) hrun hpp hrec ((windowFor_eq _ _).trans hk)]
    rfl
  · simp [exec, execDwellEnd, onService_on _ _ hi, ht, hp]
  · simp [exec, execDwellEnd, onService_on _ _ hi, ht]

end Sys2Proof.Machine

namespace Sys2Proof.Machine

/-! ### The end of a stroke, class by class (R131, R136 to R139) -/

/-- R105: a change of one needle's entry, for the needles that there are. -/
theorem modifyNeedle_needles (n : Nat) (f : Needle → Needle) (s : State) (h1 : 1 ≤ n) (h15 : n ≤ 15) (i : Fin 15) :
    (modifyNeedle n f s).slu.needles[i] = if i.val + 1 = n then f s.slu.needles[i] else s.slu.needles[i] := by
  have hentry : i.val + 1 = n → needleEntry n s = s.slu.needles[i] := fun hi => by
    subst hi
    simp [needleEntry]
  have hget : (modifyNeedle n f s).slu.needles[i] =
      if n - 1 = i.val then f (needleEntry n s) else s.slu.needles[i] := by
    simp [modifyNeedle, Vector.getElem_setIfInBounds]
  rw [hget]
  by_cases hi : i.val + 1 = n
  · rw [if_pos (by omega), if_pos hi, hentry hi]
  · rw [if_neg (by omega), if_neg hi]

theorem needleEntry_modifyNeedle (n : Nat) (f : Needle → Needle) (s : State) (h1 : 1 ≤ n) (h15 : n ≤ 15) :
    needleEntry n (modifyNeedle n f s) = f (needleEntry n s) := by
  have hlt : n - 1 < 15 := by omega
  have hentry : ∀ u : State, needleEntry n u = u.slu.needles[(⟨n - 1, hlt⟩ : Fin 15)] := fun u => by
    simp [needleEntry, hlt]
  rw [hentry, hentry, modifyNeedle_needles n f s h1 h15, if_pos (by simp; omega)]

/-- R131: what the end of a stroke leaves of the units, with the covered mark, the four runs and the first suspect record that its
class gives. -/
structure EndsStroke (e u : State) (covered breaks snags looses tights : Nat) (first : Option Nat) : Prop where
  axisMark : u.flt.axisMark = e.flt.axisMark
  supply : u.flt.supply = e.flt.supply
  stu : u.stu = { e.stu with
    phase := if e.stu.tsWait = .expired then .idle else .dwell
    tsWait := if e.stu.tsWait = .expired then .stopped else e.stu.tsWait
    strokeLimit := if e.stu.tsWait = .expired then .stopped else e.stu.strokeLimit
    tail := true, C := covered }
  thm : u.thm = { e.thm with
    lastNeedle := e.stu.needle, breakRun := breaks, snagRun := snags, looseRun := looses, tightRun := tights
    firstSuspect := first, bobbin := u.thm.bobbin }
  bobbin : u.thm.bobbin = e.thm.bobbin.map fun b => b - bobbinThread e.params e.stu.copy
  frame : u = { e with
    pcu := u.pcu, ptb := u.ptb, liu := u.liu, drg := u.drg, dld := u.dld, stu := u.stu, thm := u.thm, slu := u.slu
    flt := u.flt }

theorem raisedIn_congr {c : FaultCode} {d1 d2 : Byte} {s w u : State} (h : faultRec c u = faultRec c w) :
    raisedIn c d1 d2 s u ↔ raisedIn c d1 d2 s w := by
  simp only [raisedIn, h]

/-- R158: a fault that is raised or not, over a change beside the fault unit. -/
theorem raiseIf_over (c : FaultCode) (d1 d2 : Byte) (p : Prop) [Decidable p] (t r : State) {e w : State}
    (hw : (if p then raise c d1 d2 t else r) = w) (ht : t.flt = e.flt) (hr : r.flt = e.flt) :
    (if p then raisedIn c d1 d2 e w else faultRec c w = faultRec c e) ∧
    (∀ f : FaultCode, f ≠ c → faultRec f w = faultRec f e) ∧ w.flt.axisMark = e.flt.axisMark ∧
    w.flt.supply = e.flt.supply := by
  subst hw
  by_cases hp : p
  · obtain ⟨hself, hne, hsup, hmark, -⟩ := raise_over c d1 d2 ht
    simp only [if_pos hp]
    exact ⟨hself, hne, hmark, hsup⟩
  · simp only [if_neg hp]
    exact ⟨faultRec_congr hr c, fun f _ => faultRec_congr hr f, by rw [hr], by rw [hr]⟩

section
variable {e : State}

/-- R131: the end of a stroke over what its class leaves, and the READY test. -/
theorem endsStroke_of {k : StrokeClass} (hk : classOfStroke e = k) {w : State} (hw : updateRuns k (markStroked e) = w)
    {covered breaks snags looses tights : Nat} {first : Option Nat}
    (hstu : w.stu = { (markStroked e).stu with C := covered })
    (hthm : w.thm = (withRuns breaks snags looses tights first e).thm)
    (hmark : w.flt.axisMark = e.flt.axisMark) (hsup : w.flt.supply = e.flt.supply) :
    EndsStroke e (settle (strokeEnd e)) covered breaks snags looses tights first ∧
    (settle (strokeEnd e)).slu = w.slu ∧
    ∀ c : FaultCode, c ≠ .bobbinLow ∧ c ≠ .bobbinEmpty → faultRec c (settle (strokeEnd e)) = faultRec c w := by
  obtain ⟨hstu', hthm', hslu', hmark', hsup', hrec⟩ := strokeEnd_spec hk hw
  have hflt : (settle (strokeEnd e)).flt = (strokeEnd e).flt := by simp
  have hparams : w.params = e.params := by
    rw [← hw]
    simp
  refine ⟨⟨?_, ?_, ?_, ?_, ?_, ?_⟩, ?_, fun c hc => (faultRec_congr hflt c).trans (hrec c hc)⟩
  · rw [hflt, hmark', hmark]
  · rw [hflt, hsup', hsup]
  · simp only [settle_keeps, hstu', hstu]
    rfl
  · simp only [settle_keeps, hthm', hthm]
    rfl
  · simp only [settle_keeps, hthm', hthm, hparams, hstu]
    rfl
  · ext1 <;> simp
  · simp [hslu']

/-- R137: the end of a stroke whose class raises its fault where its run is long enough: with the fault the runs are 0. -/
theorem endsStroke_run {k : StrokeClass} (hk : classOfStroke e = k) {c : FaultCode}
    (hc : c ≠ .bobbinLow ∧ c ≠ .bobbinEmpty) {d1 d2 : Byte} {p : Prop} [Decidable p] {t r : State}
    (hw : updateRuns k (markStroked e) = if p then raise c d1 d2 t else r)
    {reached covered breaks snags looses tights : Nat} {first : Option Nat} (ht : t.flt = e.flt) (hr : r.flt = e.flt)
    (htstu : t.stu = { (markStroked e).stu with C := reached })
    (hrstu : r.stu = { (markStroked e).stu with C := covered })
    (htthm : t.thm = (withRuns 0 0 0 0 first e).thm)
    (hrthm : r.thm = (withRuns breaks snags looses tights first e).thm) :
    EndsStroke e (settle (strokeEnd e)) (if p then reached else covered) (if p then 0 else breaks)
      (if p then 0 else snags) (if p then 0 else looses) (if p then 0 else tights) first ∧
    (settle (strokeEnd e)).slu = (if p then t.slu else r.slu) ∧
    (if p then raisedIn c d1 d2 e (settle (strokeEnd e))
    else faultRec c (settle (strokeEnd e)) = faultRec c e) ∧
    ∀ f : FaultCode, f ≠ c ∧ f ≠ .bobbinLow ∧ f ≠ .bobbinEmpty → faultRec f (settle (strokeEnd e)) = faultRec f e := by
  obtain ⟨hself, hne, hmark, hsup⟩ := raiseIf_over c d1 d2 p t r hw.symm ht hr
  have hstu : (updateRuns k (markStroked e)).stu =
      { (markStroked e).stu with C := if p then reached else covered } := by
    rw [hw]
    split
    · exact htstu
    · exact hrstu
  have hthm : (updateRuns k (markStroked e)).thm = (withRuns (if p then 0 else breaks) (if p then 0 else snags)
      (if p then 0 else looses) (if p then 0 else tights) first e).thm := by
    rw [hw]
    split
    · exact htthm
    · exact hrthm
  have hslu : (updateRuns k (markStroked e)).slu = if p then t.slu else r.slu := by
    rw [hw]
    split <;> rfl
  obtain ⟨hends, hslu', hrec⟩ := endsStroke_of hk rfl hstu hthm hmark hsup
  refine ⟨hends, hslu'.trans hslu, ?_, fun f hf => (hrec f hf.2).trans (hne f hf.1)⟩
  rw [raisedIn_congr (hrec c hc), hrec c hc]
  exact hself

theorem ends_good (hk : classOfStroke e = .good) :
    EndsStroke e (settle (strokeEnd e)) (e.stu.recNo + 1) 0 0 0 0 e.thm.firstSuspect ∧
    (settle (strokeEnd e)).slu = e.slu ∧
    ∀ c : FaultCode, c ≠ .bobbinLow ∧ c ≠ .bobbinEmpty → faultRec c (settle (strokeEnd e)) = faultRec c e := by
  obtain ⟨hends, hslu, hrec⟩ := endsStroke_of hk (updateRuns_good (markStroked e)) rfl rfl rfl rfl
  exact ⟨hends, hslu, hrec⟩

theorem ends_snag (hk : classOfStroke e = .snagSuspect) {d : Byte} (hd : runDetail e = d) :
    EndsStroke e (settle (strokeEnd e)) (e.stu.recNo + 1) 0
      (if e.params.snagRun ≤ runFrom e.thm.snagRun e + 1 then 0 else runFrom e.thm.snagRun e + 1) 0 0 e.thm.firstSuspect ∧
    (settle (strokeEnd e)).slu = e.slu ∧
    (if e.params.snagRun ≤ runFrom e.thm.snagRun e + 1 then
      raisedIn .threadSnag d (octetSat (runFrom e.thm.snagRun e + 1)) e (settle (strokeEnd e))
    else faultRec .threadSnag (settle (strokeEnd e)) = faultRec .threadSnag e) ∧
    ∀ c : FaultCode, c ≠ .threadSnag ∧ c ≠ .bobbinLow ∧ c ≠ .bobbinEmpty →
      faultRec c (settle (strokeEnd e)) = faultRec c e := by
  subst hd
  obtain ⟨hends, hslu, hrec⟩ := endsStroke_run hk (by simp)
    (updateRuns_snag (markStroked e)) (reached := e.stu.recNo + 1) (covered := e.stu.recNo + 1) (breaks := 0)
    (snags := runFrom e.thm.snagRun e + 1) (looses := 0) (tights := 0) (first := e.thm.firstSuspect) rfl rfl rfl rfl rfl rfl
  simp only [ite_self] at hends
  exact ⟨hends, hslu.trans (ite_self _), hrec⟩

theorem ends_loose (hk : classOfStroke e = .loose) {d : Byte} (hd : runDetail e = d) (h1 : 1 ≤ e.stu.needle)
    (h15 : e.stu.needle ≤ 15) :
    EndsStroke e (settle (strokeEnd e)) (e.stu.recNo + 1) 0 0
      (if e.params.looseRun ≤ runFrom e.thm.looseRun e + 1 then 0 else runFrom e.thm.looseRun e + 1) 0 e.thm.firstSuspect ∧
    (∀ i : Fin 15, (settle (strokeEnd e)).slu.needles[i] =
      if i.val + 1 = e.stu.needle then oneMoreLoose e.slu.needles[i] else e.slu.needles[i]) ∧
    (settle (strokeEnd e)).slu = { e.slu with needles := (settle (strokeEnd e)).slu.needles } ∧
    (if e.params.looseRun ≤ runFrom e.thm.looseRun e + 1 then
      raisedIn .tensionLoose d (octetSat (min 255 ((needleEntry e.stu.needle e).loose + 1))) e (settle (strokeEnd e))
    else faultRec .tensionLoose (settle (strokeEnd e)) = faultRec .tensionLoose e) ∧
    ∀ c : FaultCode, c ≠ .tensionLoose ∧ c ≠ .bobbinLow ∧ c ≠ .bobbinEmpty →
      faultRec c (settle (strokeEnd e)) = faultRec c e := by
  subst hd
  have hw := updateRuns_loose (markStroked e)
  rw [needleEntry_modifyNeedle (markStroked e).stu.needle _ _ h1 h15] at hw
  obtain ⟨hends, hslu, hrec⟩ := endsStroke_run hk (by simp) hw
    (reached := e.stu.recNo + 1) (covered := e.stu.recNo + 1) (breaks := 0) (snags := 0)
    (looses := runFrom e.thm.looseRun e + 1) (tights := 0) (first := e.thm.firstSuspect) rfl rfl rfl rfl rfl rfl
  simp only [ite_self] at hends
  have hslu' : (settle (strokeEnd e)).slu = (modifyNeedle e.stu.needle oneMoreLoose e).slu := hslu.trans (ite_self _)
  exact ⟨hends, fun i => by rw [hslu', modifyNeedle_needles _ _ _ h1 h15], by rw [hslu']; rfl, hrec⟩

theorem ends_tight (hk : classOfStroke e = .tight) {d : Byte} (hd : runDetail e = d) (h1 : 1 ≤ e.stu.needle)
    (h15 : e.stu.needle ≤ 15) :
    EndsStroke e (settle (strokeEnd e)) (e.stu.recNo + 1) 0 0 0
      (if e.params.tightRun ≤ runFrom e.thm.tightRun e + 1 then 0 else runFrom e.thm.tightRun e + 1) e.thm.firstSuspect ∧
    (∀ i : Fin 15, (settle (strokeEnd e)).slu.needles[i] =
      if i.val + 1 = e.stu.needle then oneMoreTight e.slu.needles[i] else e.slu.needles[i]) ∧
    (settle (strokeEnd e)).slu = { e.slu with needles := (settle (strokeEnd e)).slu.needles } ∧
    (if e.params.tightRun ≤ runFrom e.thm.tightRun e + 1 then
      raisedIn .tensionTight d (octetSat (min 255 ((needleEntry e.stu.needle e).tight + 1))) e (settle (strokeEnd e))
    else faultRec .tensionTight (settle (strokeEnd e)) = faultRec .tensionTight e) ∧
    ∀ c : FaultCode, c ≠ .tensionTight ∧ c ≠ .bobbinLow ∧ c ≠ .bobbinEmpty →
      faultRec c (settle (strokeEnd e)) = faultRec c e := by
  subst hd
  have hw := updateRuns_tight (markStroked e)
  rw [needleEntry_modifyNeedle (markStroked e).stu.needle _ _ h1 h15] at hw
  obtain ⟨hends, hslu, hrec⟩ := endsStroke_run hk (by simp) hw
    (reached := e.stu.recNo + 1) (covered := e.stu.recNo + 1) (breaks := 0) (snags := 0)
    (looses := 0) (tights := runFrom e.thm.tightRun e + 1) (first := e.thm.firstSuspect) rfl rfl rfl rfl rfl rfl
  simp only [ite_self] at hends
  have hslu' : (settle (strokeEnd e)).slu = (modifyNeedle e.stu.needle oneMoreTight e).slu := hslu.trans (ite_self _)
  exact ⟨hends, fun i => by rw [hslu', modifyNeedle_needles _ _ _ h1 h15], by rw [hslu']; rfl, hrec⟩

theorem ends_break (hk : classOfStroke e = .breakSuspect) {d : Byte} (hd : runDetail e = d) (h1 : 1 ≤ e.stu.needle)
    (h15 : e.stu.needle ≤ 15) :
    EndsStroke e (settle (strokeEnd e))
      (if e.params.breakRun ≤ runFrom e.thm.breakRun e + 1 then (firstSuspectAfter e).getD 0 - e.params.overlap
      else e.stu.recNo + 1)
      (if e.params.breakRun ≤ runFrom e.thm.breakRun e + 1 then 0 else runFrom e.thm.breakRun e + 1) 0 0 0
      (firstSuspectAfter e) ∧
    (∀ i : Fin 15, (settle (strokeEnd e)).slu.needles[i] =
      if i.val + 1 = e.stu.needle then
        (if e.params.breakRun ≤ runFrom e.thm.breakRun e + 1 then oneMoreBreak e.slu.needles[i] else e.slu.needles[i])
      else e.slu.needles[i]) ∧
    (settle (strokeEnd e)).slu = { e.slu with needles := (settle (strokeEnd e)).slu.needles } ∧
    (if e.params.breakRun ≤ runFrom e.thm.breakRun e + 1 then
      raisedIn .threadBreak d (octetSat (min 255 ((needleEntry e.stu.needle e).breaks + 1))) e (settle (strokeEnd e))
    else faultRec .threadBreak (settle (strokeEnd e)) = faultRec .threadBreak e) ∧
    ∀ c : FaultCode, c ≠ .threadBreak ∧ c ≠ .bobbinLow ∧ c ≠ .bobbinEmpty →
      faultRec c (settle (strokeEnd e)) = faultRec c e := by
  subst hd
  have hw := updateRuns_break (markStroked e)
  rw [needleEntry_modifyNeedle (markStroked e).stu.needle _ _ h1 h15] at hw
  obtain ⟨hends, hslu, hrec⟩ := endsStroke_run hk (by simp) hw
    (reached := (firstSuspectAfter e).getD 0 - e.params.overlap) (covered := e.stu.recNo + 1)
    (breaks := runFrom e.thm.breakRun e + 1) (snags := 0) (looses := 0) (tights := 0) (first := firstSuspectAfter e)
    rfl rfl rfl rfl rfl rfl
  simp only [ite_self] at hends
  refine ⟨hends, fun i => ?_, ?_, hrec⟩
  · by_cases hp : e.params.breakRun ≤ runFrom e.thm.breakRun e + 1
    · rw [hslu.trans (if_pos hp), if_pos hp]
      exact modifyNeedle_needles e.stu.needle oneMoreBreak e h1 h15 i
    · rw [hslu.trans (if_neg hp), if_neg hp]
      exact (ite_self _).symm
  · rw [hslu]
    split <;> rfl

end

/-- R131: the head whose NEEDLE-UP ends its stroke. -/
def atTop (s : State) : State :=
  { s with stu := { s.stu with needleUp := true, needleHeld := false, strokeLimit := .stopped } }

theorem classOfStroke_atTop {t : Nat} {late : Bool} {s : State} (hx : s.thm.sample = some ⟨t, late⟩) {k : StrokeClass}
    (hk : strokeClass (feedClass s.params s.stu.copy s.thm.feed) (tensionClass s.params t s.thm.surge) = k) :
    classOfStroke (atTop s) = k := by
  rw [← hk, classOfStroke]
  simp [atTop, hx]

theorem runDetail_atTop {t : Nat} {late : Bool} {s : State} (hx : s.thm.sample = some ⟨t, late⟩) :
    runDetail (atTop s) = BitVec.ofNat 8 (s.stu.needle + if late then 128 else 0) := by
  simp [runDetail, atTop, hx]

theorem EndsStroke.stu_stopped {e u : State} {covered breaks snags looses tights : Nat} {first : Option Nat}
    (h : EndsStroke e u covered breaks snags looses tights first) (hl : e.stu.strokeLimit = .stopped) :
    u.stu = { e.stu with
      phase := if e.stu.tsWait = .expired then .idle else .dwell
      tsWait := if e.stu.tsWait = .expired then .stopped else e.stu.tsWait
      tail := true, C := covered } := by
  rw [h.stu, ← hl, ite_self]

theorem runDetail_converted (v : BitVec 10) (s : State) :
    runDetail (converted v s) = BitVec.ofNat 8 (s.stu.needle + if s.thm.conv = .late then 128 else 0) := by
  simp [runDetail, converted, ending]

theorem exec_needleUpSeen_ends {s : State} {x : Sample} (hi : inService s = true) (hh : isHead s = true)
    (hp : s.stu.phase = .upstroke) (hx : s.thm.sample = some x) :
    exec .needleUpSeen s = .next (settle (strokeEnd (atTop s))) := by
  rw [exec_needleUpSeen_upstroke hi hh hp]
  simp [needleReachesTop, needleSeenUp, hx, atTop]

/-- Settles O48: each class of stroke by its own part, at NEEDLE-UP with the sample taken and at the end of the conversion. -/
theorem strokeEnds : Obligations.StrokeEnds := by
  refine ⟨fun x s hi hh hp hx => ?_, fun v s hi hp hc => ?_,
    fun t late s hi hh hp hx hk => ?_, fun t late s hi hh hp hx hk h1 h15 => ?_, fun t late s hi hh hp hx hk => ?_,
    fun t late s hi hh hp hx hk h1 h15 => ?_, fun t late s hi hh hp hx hk h1 h15 => ?_,
    fun v s hi hp hc hk => ?_, fun v s hi hp hc hk h1 h15 => ?_, fun v s hi hp hc hk => ?_,
    fun v s hi hp hc hk h1 h15 => ?_, fun v s hi hp hc hk h1 h15 => ?_⟩
  · refine ⟨_, exec_needleUpSeen_ends hi hh hp hx, followsReport_settle ?_ hi⟩
    exact Reports.trans (t := atTop s) rfl (reports_strokeEnd _)
  · refine ⟨_, exec_conversionEnd_ends hi v hc hp, followsReport_settle ?_ hi⟩
    exact Reports.trans (t := converted v s) rfl (reports_strokeEnd _)
  · obtain ⟨h, hslu, hrec⟩ := ends_good (classOfStroke_atTop hx hk)
    exact ⟨_, exec_needleUpSeen_ends hi hh hp hx, h.axisMark, h.supply, h.stu_stopped rfl,
      h.thm, hslu, h.frame, h.bobbin, hrec⟩
  · obtain ⟨h, hneedle, hslu, hrec⟩ := ends_break (classOfStroke_atTop hx hk) (runDetail_atTop hx) h1 h15
    exact ⟨_, exec_needleUpSeen_ends hi hh hp hx, h.axisMark, h.supply, h.stu_stopped rfl,
      h.thm, hneedle, hslu, h.frame, h.bobbin, hrec⟩
  · obtain ⟨h, hslu, hrec⟩ := ends_snag (classOfStroke_atTop hx hk) (runDetail_atTop hx)
    exact ⟨_, exec_needleUpSeen_ends hi hh hp hx, h.axisMark, h.supply, h.stu_stopped rfl,
      h.thm, hslu, h.frame, h.bobbin, hrec⟩
  · obtain ⟨h, hneedle, hslu, hrec⟩ := ends_loose (classOfStroke_atTop hx hk) (runDetail_atTop hx) h1 h15
    exact ⟨_, exec_needleUpSeen_ends hi hh hp hx, h.axisMark, h.supply, h.stu_stopped rfl,
      h.thm, hneedle, hslu, h.frame, h.bobbin, hrec⟩
  · obtain ⟨h, hneedle, hslu, hrec⟩ := ends_tight (classOfStroke_atTop hx hk) (runDetail_atTop hx) h1 h15
    exact ⟨_, exec_needleUpSeen_ends hi hh hp hx, h.axisMark, h.supply, h.stu_stopped rfl,
      h.thm, hneedle, hslu, h.frame, h.bobbin, hrec⟩
  · obtain ⟨h, hslu, hrec⟩ := ends_good (e := converted v s) hk
    exact ⟨_, exec_conversionEnd_ends hi v hc hp, h.axisMark, h.supply, h.stu, h.thm, hslu, h.frame, h.bobbin, hrec⟩
  · obtain ⟨h, hneedle, hslu, hrec⟩ := ends_break (e := converted v s) hk (runDetail_converted v s) h1 h15
    exact ⟨_, exec_conversionEnd_ends hi v hc hp, h.axisMark, h.supply, h.stu, h.thm, hneedle, hslu, h.frame, h.bobbin,
      hrec⟩
  · obtain ⟨h, hslu, hrec⟩ := ends_snag (e := converted v s) hk (runDetail_converted v s)
    exact ⟨_, exec_conversionEnd_ends hi v hc hp, h.axisMark, h.supply, h.stu, h.thm, hslu, h.frame, h.bobbin, hrec⟩
  · obtain ⟨h, hneedle, hslu, hrec⟩ := ends_loose (e := converted v s) hk (runDetail_converted v s) h1 h15
    exact ⟨_, exec_conversionEnd_ends hi v hc hp, h.axisMark, h.supply, h.stu, h.thm, hneedle, hslu, h.frame, h.bobbin,
      hrec⟩
  · obtain ⟨h, hneedle, hslu, hrec⟩ := ends_tight (e := converted v s) hk (runDetail_converted v s) h1 h15
    exact ⟨_, exec_conversionEnd_ends hi v hc hp, h.axisMark, h.supply, h.stu, h.thm, hneedle, hslu, h.frame, h.bobbin,
      hrec⟩

end Sys2Proof.Machine

namespace Sys2Proof.Machine

/-! ### Selector and trimmer at a window's opening (R115 to R118) -/

/-- R23, R25: the station `t` that a head's opening leaves before its work. -/
structure OpensFrom (s t : State) : Prop where
  slu : t.slu = applyPendingNeedles s.slu
  stu : t.stu = { s.stu with participation := s.stu.pendingPart.getD s.stu.participation, pendingPart := none }
  thm : t.thm = s.thm
  axu : t.axu = s.axu
  params : t.params = s.params

theorem opensFrom_openingOf (w : WindowRec) (s : State) : OpensFrom s (openingOf w s) := by
  have h := openingOf_frame w s
  generalize openingOf w s = t at h
  rw [h]
  exact ⟨rfl, rfl, rfl, rfl, rfl⟩

theorem OpensFrom.mapNeedle {s t : State} (h : OpensFrom s t) (colour : Nat) : mapNeedle colour t = mapNeedle colour s := by
  simp [Machine.mapNeedle, h.slu, h.params, applyPendingNeedles]

theorem OpensFrom.selectorStart {s t : State} (h : OpensFrom s t) (lines : CodeLines) :
    selectorStart lines t = selectorStart lines s := by
  simp [Machine.selectorStart, h.slu, h.params, applyPendingNeedles]

theorem OpensFrom.trimDue_iff {s t : State} (h : OpensFrom s t) :
    trimDue t = true ↔ s.stu.pendingPart.getD s.stu.participation = .enabled ∧ s.stu.tail = true := by
  simp [trimDue, h.stu]

theorem exec_crossing_head {lines : CodeLines} {w : WindowRec} {s : State} (hi : inService s = true)
    (hh : isHead s = true) (hr : s.pcu.win = .ready) (ha : s.pcu.armed = true) (hn : s.pcu.next = some w) :
    exec (.crossing lines) s = .next (headWork lines w (openingOf w s)) := by
  rw [exec_crossing lines w s hi hr ha hn, openWindow_head lines w s hh]

theorem headWork_rests {w : WindowRec} (lines : CodeLines) (h : restsHead w.kind = true) (t : State) :
    headWork lines w t = t := by
  unfold headWork
  cases hk : w.kind <;> simp_all [restsHead]

/-- R115 to R117: where a trim is due, the windows that may trim do nothing else. -/
theorem headWork_trims {w : WindowRec} (lines : CodeLines) (h : trimWindow w.kind = true) {t : State}
    (ht : trimDue t = true) : headWork lines w t = fireTrim t := by
  unfold headWork
  cases hk : w.kind with
  | prepare => exact if_pos ht
  | change n => exact if_pos ht
  | trim n => exact if_pos ht
  | _ => simp [hk, trimWindow] at h

/-- R115, R116: where none is due, the window's colour is looked up. -/
theorem headWork_selects {w : WindowRec} {colour : Nat} (lines : CodeLines) {t : State}
    (hc : colourOfWindow w t = some colour) (ht : ¬ trimDue t = true) :
    headWork lines w t = windowSelect colour lines t := by
  unfold colourOfWindow at hc
  unfold headWork
  cases hk : w.kind with
  | prepare =>
    rw [hk] at hc
    cases hc
    exact if_neg ht
  | change n =>
    rw [hk] at hc
    cases hc
    exact if_neg ht
  | _ => simp [hk] at hc

theorem cursor_le_of_trimWindow {w : WindowRec} (h : trimWindow w.kind = true) (c : Cursor) :
    c.n ≤ (cursorAfter w c).n := by
  apply cursor_le_cursorAfter
  cases hk : w.kind <;> simp_all [trimWindow, restsAxis]

theorem trimWindow_of_colour {w : WindowRec} {s : State} {colour : Nat} (h : colourOfWindow w s = some colour) :
    trimWindow w.kind = true := by
  unfold colourOfWindow at h
  cases hk : w.kind <;> simp_all [trimWindow]

/-- R12, R23: PREPARE leaves the cursor and the trail, so the colour in force is the one before the opening. -/
theorem colourOfWindow_openingOf {w : WindowRec} {s : State} (hF : s.drg.F ≤ s.pcu.cursor.n) :
    colourOfWindow w (openingOf w s) = colourOfWindow w s := by
  unfold colourOfWindow
  cases hk : w.kind with
  | prepare =>
    have hcur : cursorAfter w s.pcu.cursor = s.pcu.cursor := (cursorAfter_eq w s.pcu.cursor).1 hk
    have hdrg := (openingOf_place_kept w s (by rwa [hcur])).1
    rw [openingOf_cursor, hcur] at *
    simp only [hdrg, setCursor]
    rfl
  | _ => rfl

/-- R118: the trimmer's pulse, unless one runs. -/
theorem fireTrim_eq (t : State) :
    fireTrim t = { t with slu := { t.slu with
      trim := if isRunning t.slu.trim then t.slu.trim else .running (t.params.trimPulse * 1000) } } := by
  unfold fireTrim trimming
  split <;> rfl

theorem workKeeps_windowSelect (colour : Nat) (lines : CodeLines) (t : State) :
    WorkKeeps t (windowSelect colour lines t) := by
  unfold windowSelect
  dsimp only
  split
  · exact workKeeps_startMove _ _ _
  · exact workKeeps_raise _ _ _ _ (by simp)

theorem needleUsable_windowSelect (n colour : Nat) (lines : CodeLines) (t : State) :
    needleUsable n (windowSelect colour lines t) = needleUsable n t := by
  simp only [needleUsable, needleEntry, (workKeeps_windowSelect colour lines t).needles]

/-- R106: a selector that the opening alone has changed. -/
theorem OpensFrom.selector {s t : State} (h : OpensFrom s t) {v : SelectorUnit} (hv : v = t.slu) :
    v = { s.slu with needles := v.needles, pendingNeedles := v.pendingNeedles } := by
  rw [hv, h.slu]
  rfl

theorem raisedIn_from {c : FaultCode} {d1 d2 : Byte} {s t u : State} (h : t.flt = s.flt) :
    raisedIn c d1 d2 t u ↔ raisedIn c d1 d2 s u := by
  simp only [raisedIn, faultRec_congr h]

section
variable {s t : State} (h : OpensFrom s t) (hflt : t.flt = s.flt) {lines : CodeLines} {colour n : Nat}
  (hm : mapNeedle colour s = n)
include h hflt hm

/-- R110, R113, R114: what the look-up of an opening makes of the selector and of the fault records. -/
theorem windowSelect_outcome {u : State} (hu : windowSelect colour lines t = u) :
    if needleUsable n u = false then
      u.slu = { s.slu with needles := u.slu.needles, pendingNeedles := u.slu.pendingNeedles } ∧
      raisedIn .needleUnmapped (BitVec.ofNat 8 colour) (BitVec.ofNat 8 n) s u ∧
      ∀ c : FaultCode, c ≠ .needleUnmapped → faultRec c u = faultRec c s
    else if s.slu.sel = .settled n then
      u.flt = s.flt ∧
      u.slu = { s.slu with needles := u.slu.needles, pendingNeedles := u.slu.pendingNeedles, counter := n }
    else if s.slu.sel = .jammed then
      u.flt = s.flt ∧ u.slu = { s.slu with needles := u.slu.needles, pendingNeedles := u.slu.pendingNeedles }
    else if s.slu.sel = .unknown ∧ readCode s.params.needles s.slu.detent lines = none then
      raisedIn .selectorJam (BitVec.ofNat 8 n) 0 s u ∧
      (∀ c : FaultCode, c ≠ .selectorJam → faultRec c u = faultRec c s) ∧ u.slu.sel = .jammed
    else if s.slu.sel = .unknown ∧ readCode s.params.needles s.slu.detent lines = some n then
      u.flt = s.flt ∧ u.slu.sel = .settled n ∧ u.slu.counter = n
    else u.flt = s.flt := by
  obtain ⟨hsel, hdet⟩ : t.slu.sel = s.slu.sel ∧ t.slu.detent = s.slu.detent := by
    rw [h.slu]
    exact ⟨rfl, rfl⟩
  rw [← h.mapNeedle] at hm
  subst hm
  have hentry := needleUsable_windowSelect (mapNeedle colour t) colour lines t
  rw [hu] at hentry
  rw [hentry]
  by_cases hn : needleUsable (mapNeedle colour t) t = false
  · rw [if_pos hn, ← hu, windowSelect_unusable colour lines t hn]
    obtain ⟨hself, hne, -⟩ := raise_over .needleUnmapped (BitVec.ofNat 8 colour) (BitVec.ofNat 8 (mapNeedle colour t)) hflt
    exact ⟨h.selector (by simp), hself, hne⟩
  · rw [if_neg hn, ← hu, windowSelect_usable colour lines t (by simpa using hn)]
    have hcases := startMove_cases (mapNeedle colour t) lines t
    rw [hsel, hdet, h.params] at hcases
    split_ifs at hcases ⊢
    · obtain ⟨hf, hs⟩ := hcases
      refine ⟨hf.trans hflt, ?_⟩
      rw [hs, h.slu]
      rfl
    · obtain ⟨hf, hs⟩ := hcases
      exact ⟨hf.trans hflt, h.selector hs⟩
    · obtain ⟨hself, hne, hs⟩ := hcases
      exact ⟨(raisedIn_from hflt).1 hself, fun c hc => (hne c hc).trans (faultRec_congr hflt c), by rw [hs]⟩
    · obtain ⟨hf, hs⟩ := hcases
      exact ⟨hf.trans hflt, by rw [hs], by rw [hs]⟩
    · exact hcases.trans hflt

end

/-- Settles O40: the head's work over the opening's station, by what the window asks for. -/
theorem selectorAndTrimmerAtAWindow : Obligations.SelectorAndTrimmerAtAWindow := by
  refine ⟨fun lines w s hi hh hr ha hn hk => ?_, fun lines w s hi hh hr ha hF hn hk ht => ?_,
    fun lines n r s hi hh hr ha hF hn ht => ?_, fun lines colour n s hi hh hr ha hF ht hc hm => ?_,
    fun lines colour n q s hi hh hr ha hF ht hc hm hq hne => ?_⟩
  · have h := opensFrom_openingOf w s
    obtain ⟨hsup, hmark⟩ := openingOf_marks w s
    refine ⟨_, exec_crossing_head hi hh hr ha hn, ?_⟩
    rw [headWork_rests lines hk]
    refine ⟨hmark, hsup, h.selector rfl, h.thm, h.stu, h.axu, fun hF => ?_, faultRec_openingOf_ne w s⟩
    rw [openingOf_cursor] at hF
    exact (openingOf_place_kept w s hF).2.2
  · have h := opensFrom_openingOf w s
    have hflt := (openingOf_place_kept w s (hF.trans (cursor_le_of_trimWindow hk _))).2.2
    refine ⟨_, exec_crossing_head hi hh hr ha hn, ?_⟩
    rw [headWork_trims lines hk (h.trimDue_iff.2 ht), fireTrim_eq]
    refine ⟨?_, hflt, h.thm, ?_⟩
    · simp only [h.slu, h.params]
      rfl
    · rw [h.stu, ht.1]
  · have h := opensFrom_openingOf ⟨.trim n, r⟩ s
    have hflt := (openingOf_place_kept ⟨.trim n, r⟩ s (hF.trans (cursor_le_of_trimWindow rfl _))).2.2
    have hwork : headWork lines ⟨.trim n, r⟩ (openingOf ⟨.trim n, r⟩ s) = openingOf ⟨.trim n, r⟩ s :=
      if_neg fun hd => ht (h.trimDue_iff.1 hd)
    refine ⟨_, exec_crossing_head hi hh hr ha hn, ?_⟩
    rw [hwork]
    exact ⟨h.selector rfl, hflt, h.thm, by rw [h.stu]⟩
  · obtain ⟨w, hn, hc⟩ := Option.bind_eq_some_iff.1 hc
    have h := opensFrom_openingOf w s
    have hflt := (openingOf_place_kept w s (hF.trans (cursor_le_of_trimWindow (trimWindow_of_colour hc) _))).2.2
    have hkeep := workKeeps_windowSelect colour lines (openingOf w s)
    refine ⟨_, exec_crossing_head hi hh hr ha hn, ?_⟩
    rw [headWork_selects lines ((colourOfWindow_openingOf hF).trans hc) fun hd => ht (h.trimDue_iff.1 hd)]
    refine ⟨?_, ?_, by simp [h.thm], ?_, windowSelect_outcome h hflt hm rfl⟩
    · rw [hkeep.axisMark, hflt]
    · rw [hkeep.supply, hflt]
    · simp [h.stu]
  · obtain ⟨w, hn, hc⟩ := Option.bind_eq_some_iff.1 hc
    have h := opensFrom_openingOf w s
    have hflt := (openingOf_place_kept w s (hF.trans (cursor_le_of_trimWindow (trimWindow_of_colour hc) _))).2.2
    refine ⟨_, exec_crossing_head hi hh hr ha hn, ?_⟩
    rw [headWork_selects lines ((colourOfWindow_openingOf hF).trans hc) fun hd => ht (h.trimDue_iff.1 hd),
      needleUsable_windowSelect, ← hm, ← h.mapNeedle]
    intro hu
    rw [windowSelect_usable colour lines _ hu,
      startMove_drives _ q lines _ ((h.selectorStart lines).trans hq) (by rwa [h.mapNeedle, hm])]
    refine ⟨hflt, rfl, ?_⟩
    simp only [h.slu, h.params]
    rfl

end Sys2Proof.Machine

namespace Sys2Proof.Machine

/-! ### Step positions and move times (R39, R79, R90 to R92) -/

theorem toSteps_eq_iff (ps : Params) (x st : Int) :
    toSteps ps x = st ↔ st * 100 ≤ x * ps.p ∧ x * ps.p < (st + 1) * 100 := by
  unfold toSteps
  omega

/-- R79: the step positions of the frame positions. -/
theorem toSteps_bounds {ps : Params} {x : Int} (hp : ps.p ≤ 65535) (hlo : -32768 ≤ x) (hhi : x ≤ 32767) :
    -21474509 ≤ toSteps ps x ∧ toSteps ps x ≤ 21473853 := by
  have hp' : (ps.p : Int) ≤ 65535 := by exact_mod_cast hp
  have hp0 : (0 : Int) ≤ ps.p := by omega
  have hlow : -32768 * 65535 ≤ x * ps.p := by nlinarith
  have hhigh : x * ps.p ≤ 32767 * 65535 := by nlinarith
  unfold toSteps
  omega

theorem ceilDiv_le_iff {a b t : Nat} (hb : 1 ≤ b) : ceilDiv a b ≤ t ↔ a ≤ t * b := by
  rw [ceilDiv, ← Nat.ceilDiv_eq_add_pred_div, ceilDiv_le_iff_le_mul hb, Nat.mul_comm]

/-- R91: the move time is the least that the base time and the two rates allow. -/
theorem moveDuration_le_iff {ps : Params} {base : Nat} {e : Bool} {d : Int} {t : Nat} (hv : 1 ≤ ps.vmax)
    (hr : 1 ≤ ps.homeRate) :
    moveDuration ps base e d ≤ t ↔
      base ≤ t ∧ d.natAbs * 1000 ≤ t * ps.vmax ∧ (e = true → d.natAbs * 1000 ≤ t * ps.homeRate) := by
  unfold moveDuration
  rw [Nat.max_le, Nat.max_le, ceilDiv_le_iff hv]
  cases e with
  | true => simp [ceilDiv_le_iff hr]
  | false => simp

/-- R90, R91: at 400 steps per ms at most, a move has a microsecond for each of its steps. -/
theorem natAbs_le_moveDuration {ps : Params} {base : Nat} {e : Bool} {d : Int} (hv : 1 ≤ ps.vmax) (hmax : ps.vmax ≤ 400) :
    d.natAbs ≤ moveDuration ps base e d := by
  have hceil : ceilDiv (d.natAbs * 1000) ps.vmax ≤ moveDuration ps base e d :=
    (Nat.le_max_left _ _).trans (Nat.le_max_right _ _)
  have hrate : d.natAbs * 1000 ≤ moveDuration ps base e d * ps.vmax := (ceilDiv_le_iff hv).1 hceil
  have hvmax : moveDuration ps base e d * ps.vmax ≤ moveDuration ps base e d * 400 := Nat.mul_le_mul_left _ hmax
  omega

/-- R92: with a microsecond for each, no two steps fall at one. -/
theorem moveStepTime_lt {T j k : Nat} {d : Int} (hd : d ≠ 0) (hT : d.natAbs ≤ T) (hjk : j < k) :
    moveStepTime T d j < moveStepTime T d k := by
  have hpos : 0 < d.natAbs := Int.natAbs_pos.2 hd
  have hstep : j * T + d.natAbs ≤ k * T := by
    calc j * T + d.natAbs ≤ j * T + T := Nat.add_le_add_left hT _
      _ = (j + 1) * T := (Nat.succ_mul j T).symm
      _ ≤ k * T := Nat.mul_le_mul_right T hjk
  calc moveStepTime T d j < j * T / d.natAbs + 1 := Nat.lt_succ_self _
    _ = (j * T + d.natAbs) / d.natAbs := (Nat.add_div_right _ hpos).symm
    _ ≤ k * T / d.natAbs := Nat.div_le_div_right hstep

/-- Settles O52: the bounds of the step positions, the least move time and the steps' even spread. -/
theorem stepsAndMoveTimes : Obligations.StepsAndMoveTimes := by
  refine ⟨fun ps x y hp hp1 hxlo hxhi hylo hyhi => ?_, fun ps base e d t hv hr => moveDuration_le_iff hv hr,
    fun ps base e d j k hv hmax hd hjk => ?_, fun rate share => ⟨rfl, rfl, Nat.sub_add_eq_max _ _⟩⟩
  · obtain ⟨hxl, hxh⟩ := toSteps_bounds hp hxlo hxhi
    obtain ⟨hyl, hyh⟩ := toSteps_bounds hp hylo hyhi
    exact ⟨toSteps_eq_iff ps x, hxl, hxh, by omega⟩
  · exact ⟨moveStepTime_lt hd (natAbs_le_moveDuration hv hmax) hjk,
      Nat.mul_div_cancel_left _ (Int.natAbs_pos.2 hd)⟩

end Sys2Proof.Machine

namespace Sys2Proof.Machine

/-! ### The choice of agreement (R51, R53) -/

/-- R53: `a` goes before `b` in the choice over the group `cs`. -/
def Outranks (cs : List Cursor) (a b : Cursor) : Prop :=
  holders cs b < holders cs a ∨ (holders cs b = holders cs a ∧ cursorLt a b = true)

theorem cursorLt_iff (a b : Cursor) :
    cursorLt a b = true ↔ a.n < b.n ∨ (a.n = b.n ∧ a.step = .first ∧ b.step = .stroke) := by
  simp [cursorLt, and_assoc]

/-- R4: of two cursors one is before the other. -/
theorem cursorLt_total {a b : Cursor} (h : a ≠ b) : cursorLt a b = true ∨ cursorLt b a = true := by
  obtain ⟨n, x⟩ := a
  obtain ⟨m, y⟩ := b
  rw [cursorLt_iff, cursorLt_iff]
  rcases Nat.lt_trichotomy n m with hlt | rfl | hgt
  · exact .inl (.inl hlt)
  · cases x <;> cases y <;> simp_all
  · exact .inr (.inl hgt)

theorem cursorLt_trans {a b c : Cursor} (hab : cursorLt a b = true) (hbc : cursorLt b c = true) : cursorLt a c = true := by
  rw [cursorLt_iff] at *
  grind

theorem Outranks.trans {cs : List Cursor} {a b c : Cursor} (hab : Outranks cs a b) (hbc : Outranks cs b c) :
    Outranks cs a c := by
  rcases hab with hab | ⟨hab, hlt⟩ <;> rcases hbc with hbc | ⟨hbc, hlt'⟩
  · exact .inl (hbc.trans hab)
  · exact .inl (hbc ▸ hab)
  · exact .inl (hab ▸ hbc)
  · exact .inr ⟨hbc.trans hab, cursorLt_trans hlt hlt'⟩

theorem outranks_total (cs : List Cursor) {a b : Cursor} (h : a ≠ b) : Outranks cs a b ∨ Outranks cs b a := by
  rcases Nat.lt_trichotomy (holders cs a) (holders cs b) with hlt | heq | hgt
  · exact .inr (.inl hlt)
  · exact (cursorLt_total h).imp (fun hl => .inr ⟨heq.symm, hl⟩) fun hl => .inr ⟨heq, hl⟩
  · exact .inl (.inl hgt)

/-- R53: one turn of the choice takes the cursor that goes before. -/
theorem chooseFrom_cons (cs l : List Cursor) (c best : Cursor) :
    (Outranks cs c best ∧ chooseFrom cs (c :: l) best = chooseFrom cs l c) ∨
      (¬ Outranks cs c best ∧ chooseFrom cs (c :: l) best = chooseFrom cs l best) := by
  rw [chooseFrom]
  split
  · exact .inl ⟨‹_›, rfl⟩
  · exact .inr ⟨‹_›, rfl⟩

/-- R53: the choice goes before every other cursor it was made from. -/
theorem chooseFrom_outranks (cs l : List Cursor) (best : Cursor) :
    ∀ d ∈ best :: l, d ≠ chooseFrom cs l best → Outranks cs (chooseFrom cs l best) d := by
  induction l generalizing best with
  | nil => simp [chooseFrom]
  | cons c l ih =>
    -- `x` is kept, and the cursor `y` it was held against comes after it.
    have hkeep : ∀ x y : Cursor, (y = x ∨ Outranks cs x y) → ∀ d, d = y ∨ d ∈ x :: l → d ≠ chooseFrom cs l x →
        Outranks cs (chooseFrom cs l x) d := by
      rintro x y hxy d (rfl | hd) hne
      · by_cases hx : x = chooseFrom cs l x
        · rw [← hx]
          exact hxy.resolve_left (hx ▸ hne)
        · have hbest := ih x x List.mem_cons_self hx
          exact hxy.elim (fun e => e ▸ hbest) hbest.trans
      · exact ih x d hd hne
    intro d hd hne
    rcases chooseFrom_cons cs l c best with ⟨hc, heq⟩ | ⟨hc, heq⟩ <;> rw [heq] at hne ⊢
    · exact hkeep c best (.inr hc) d (by simpa using hd) hne
    · have hxy : c = best ∨ Outranks cs best c :=
        or_iff_not_imp_left.2 fun h => (outranks_total cs h).resolve_left hc
      exact hkeep best c hxy d (by simpa [or_left_comm] using hd) hne

/-- Settles O7: the choice is of the group (`chooseCursor_mem`) and goes before every other of it. -/
theorem joiningAndAgreementChoice : Obligations.JoiningAndAgreementChoice := by
  refine fun c cs => ⟨chooseCursor_mem c cs, fun d hd hne => ?_⟩
  have h := chooseFrom_outranks (c :: cs) cs c d hd hne
  rwa [Outranks, holders_eq_count, holders_eq_count, cursorLt_iff] at h

end Sys2Proof.Machine

namespace Sys2Proof.Machine

/-! ### Destinations (R172, R189) -/

/-- R172: a station number speaks to that station, the three group values to those whose role they name. -/
theorem reach_some (fit : RoleFit) (d : Byte) (s : State) :
    reach fit (some d) s =
      if d.toNat = s.number.val then (if fitsRole fit s then .judged else .wrongRole)
      else if fitsRole fit s ∧ (d = 0x40 ∨ (d = 0x41 ∧ isHead s) ∨ (d = 0x42 ∧ isAxis s)) then .judged
      else .ignored := by
  have hnum : s.number.val < 32 := s.number.isLt
  rw [reach]
  by_cases hd : d.toNat < 32
  · have hne : ∀ g : Byte, 32 ≤ g.toNat → d ≠ g := by
      rintro _ hg rfl
      omega
    simp [hd, hne]
  · have hown : ¬ d.toNat = s.number.val := by omega
    rw [if_neg hd, if_neg hown]
    by_cases h40 : d = 0x40#8
    · simp [h40]
    by_cases h41 : d = 0x41#8
    · simp [h41, and_comm]
    by_cases h42 : d = 0x42#8
    · simp [h42, and_comm]
    simp [h40, h41, h42]

/-- R189: a code outside the catalogue is UNKNOWN_ORDER. -/
theorem orderOf_unknown (x : Sampled) {code : Byte} (f : OrderFrame) (h : inCatalogue code = false) :
    orderOf x code f = .unknownOrder code f := by
  unfold orderOf
  split <;> simp_all [inCatalogue]

/-- R189: every order code is taken by the order decoder, for the stations its catalogue row fits. -/
theorem exec_orderOf (x : Sampled) (code : Byte) (f : OrderFrame) :
    ∃ owner : State → Verdict, ∀ s, exec (orderOf x code f) s = takeOrder code (fitOfCode code) f owner s := by
  by_cases hcat : inCatalogue code = true
  · obtain ⟨k, hk⟩ : ∃ k, code.toNat = k := ⟨_, rfl⟩
    have hcode : code = BitVec.ofNat 8 k := by simp [← hk]
    obtain ⟨hlo, hhi⟩ : 1 ≤ k ∧ k ≤ 19 := by simpa [inCatalogue, hk] using hcat
    subst hcode
    interval_cases k <;> exact ⟨_, fun _ => rfl⟩
  · have hout : ¬ (1 ≤ code.toNat ∧ code.toNat ≤ 19) := by simpa [inCatalogue] using hcat
    have hfit : fitOfCode code = .all := by
      rw [fitOfCode, if_neg (by omega), if_neg (by omega)]
    refine ⟨fun _ => .error .badArg, fun s => ?_⟩
    rw [orderOf_unknown x f (by simpa using hcat), hfit]
    simp [exec, execUnknownOrder, hcat]

/-- Settles O8: the table of destinations, and what the order decoder makes of an order it does not judge. -/
theorem destinationsReachStations : Obligations.DestinationsReachStations := by
  refine ⟨fun fit s => ⟨rfl, fun d => reach_some fit d s⟩, fun x code f s hs => ?_⟩
  obtain ⟨owner, howner⟩ := exec_orderOf x code f
  rw [howner]
  exact ⟨takeOrder_ignored _ _ _ _ _ hs, takeOrder_wrongRole _ _ _ _ _ hs⟩

end Sys2Proof.Machine

namespace Sys2Proof.Machine

/-! ### One record of the peer table changes (R43 to R48, R53) -/

theorem setPeer_peers (n i : Station) (p : Peer) (s : State) :
    (setPeer n p s).ptb.peers[i] = if i = n then p else s.ptb.peers[i] := by
  by_cases h : i = n
  · subst h
    simp [setPeer]
  · simp [setPeer, h, Ne.symm h, Fin.val_inj]

/-- R44: the frame of another station sets its age to 0. -/
theorem frameTaken_other (src : Station) (s : State) (h : src ≠ s.number) :
    frameTaken src s =
      setPeer src { s.ptb.peers[src] with age := 0 } { s with liu := { s.liu with framer := .waitIdle } } := by
  simp [frameTaken, h]

/-- R49: the frame of a foreign station with the own number. -/
theorem frameTaken_own (s : State) :
    frameTaken s.number s = raise .duplicateNumber 1 0 { s with liu := { s.liu with framer := .waitIdle } } := by
  simp [frameTaken]

theorem frameTaken_peers (src i : Station) (s : State) (h : src ≠ s.number) :
    (frameTaken src s).ptb.peers[i] = if i = src then { s.ptb.peers[i] with age := 0 } else s.ptb.peers[i] := by
  rw [frameTaken_other src s h, setPeer_peers]
  by_cases hi : i = src
  · subst hi
    simp
  · simp [hi]

/-- R44: a record written after the frame that brought it. -/
theorem setPeer_frameTaken (src : Station) (p : Peer) (s : State) (h : src ≠ s.number) :
    setPeer src p (frameTaken src s) =
      { frameTaken src s with ptb := { s.ptb with peers := s.ptb.peers.set src p } } := by
  rw [frameTaken_other src s h]
  simp [setPeer]

/-- R43: the pacing peers are the other stations' PRESENT records. -/
theorem mem_pacingPeers_iff {s : State} {p : Station × Peer} :
    p ∈ pacingPeers s ↔ p.1 ≠ s.number ∧ s.ptb.peers[p.1].presence = .present ∧ p.2 = s.ptb.peers[p.1] := by
  obtain ⟨i, q⟩ := p
  simp only [pacingPeers, List.mem_filterMap, List.mem_finRange, true_and, Option.ite_none_right_eq_some,
    Option.some.injEq, Prod.mk.injEq]
  constructor
  · rintro ⟨j, ⟨hj, hp⟩, rfl, rfl⟩
    exact ⟨hj, hp, rfl⟩
  · rintro ⟨hi, hp, hq⟩
    exact ⟨i, ⟨hi, hp⟩, rfl, hq.symm⟩

/-- `u` differs from `s` in no peer record but that of station `n`, and in neither number nor agreement timer. -/
structure PeerChanged (n : Station) (s u : State) : Prop where
  number : u.number = s.number
  agreement : u.pcu.agreement = s.pcu.agreement
  other : ∀ i : Station, i ≠ n → u.ptb.peers[i] = s.ptb.peers[i]

theorem PeerChanged.waiting {n : Station} {s u : State} (h : PeerChanged n s u) :
    agreementWaiting u = agreementWaiting s := by
  rw [agreementWaiting, h.agreement, agreementWaiting]

theorem PeerChanged.mem_pacingPeers_iff {n : Station} {s u : State} (h : PeerChanged n s u) {p : Station × Peer}
    (hp : p.1 ≠ n) : p ∈ pacingPeers u ↔ p ∈ pacingPeers s := by
  rw [Machine.mem_pacingPeers_iff, Machine.mem_pacingPeers_iff, h.number, h.other _ hp]

/-! ### The test of agreement completion (R53) -/

theorem allQualified_iff (s : State) : allQualified s = true ↔ ∀ p ∈ pacingPeers s, p.2.qualified = true := by
  simp only [allQualified, List.all_eq_true]

/-- R53: no agreement waits, or a pacing peer has not qualified. -/
theorem testAgreement_idle (s : State)
    (h : agreementWaiting s = false ∨ ∃ p ∈ pacingPeers s, p.2.qualified = false) : testAgreement s = s := by
  refine if_neg fun hc => ?_
  obtain ⟨hw, hq⟩ := Bool.and_eq_true_iff.1 hc
  rcases h with h | ⟨p, hp, hnot⟩
  · exact absurd hw (by simp [h])
  · exact absurd ((allQualified_iff s).1 hq p hp) (by simp [hnot])

/-- R53: the last peer has qualified, and agreement completes as at its timer. -/
theorem testAgreement_completes (s : State) (hi : inService s = true) (hw : agreementWaiting s = true)
    (hq : ∀ p ∈ pacingPeers s, p.2.qualified = true) :
    .next (testAgreement s) = exec .agreementTimerExpiry s := by
  rw [exec_agreementTimerExpiry s hi hw, testAgreement, if_pos]
  simp [hw, (allQualified_iff s).2 hq]

/-- R53: agreement goes on waiting for a station that the change does not concern. -/
theorem PeerChanged.testAgreement_idle {n : Station} {s u : State} (h : PeerChanged n s u)
    (hs : agreementWaiting s = false ∨ ∃ p ∈ pacingPeers s, p.1 ≠ n ∧ p.2.qualified = false) :
    testAgreement u = u := by
  refine Machine.testAgreement_idle u ?_
  rw [h.waiting]
  exact hs.imp_right fun ⟨p, hp, hn, hq⟩ => ⟨p, (h.mem_pacingPeers_iff hn).2 hp, hq⟩

/-- R53: every other station has qualified, and so has the one whose record changed, if it is a pacing peer. -/
theorem PeerChanged.testAgreement_completes {n : Station} {s u : State} (h : PeerChanged n s u) (hi : inService u = true)
    (hw : agreementWaiting s = true) (hs : ∀ p ∈ pacingPeers s, p.1 ≠ n → p.2.qualified = true)
    (hn : u.ptb.peers[n].presence = .present → u.ptb.peers[n].qualified = true) :
    .next (testAgreement u) = exec .agreementTimerExpiry u := by
  refine Machine.testAgreement_completes u hi (h.waiting.trans hw) fun p hp => ?_
  by_cases hpn : p.1 = n
  · obtain ⟨-, hpres, hrec⟩ := Machine.mem_pacingPeers_iff.1 hp
    rw [hrec]
    subst hpn
    exact hn hpres
  · exact hs p ((h.mem_pacingPeers_iff hpn).1 hp) hpn

/-! ### The roster check at a change of the peer table (R48) -/

/-- R48: what the roster check at the end of an event from `s` leaves in `u`, once joined. -/
abbrev RosterChecked (s u : State) : Prop :=
  if s.ptb.joined then
    (if rosterRight u then faultRec .frameRoster u = { faultRec .frameRoster s with latched := false }
    else raisedIn .frameRoster (octetSat (rosterCount .axisX u)) (octetSat (rosterCount .axisY u)) s u)
  else faultRec .frameRoster u = faultRec .frameRoster s

@[simp] theorem rosterCount_rosterCheck (r : Role) (s : State) : rosterCount r (rosterCheck s) = rosterCount r s :=
  rosterCount_congr r (by simp) (by simp) fun i => by simp

@[simp] theorem rosterRight_rosterCheck (s : State) : rosterRight (rosterCheck s) = rosterRight s := by
  simp only [rosterRight, rosterCount_rosterCheck]

theorem rosterChecked_rosterCheck {s w : State} (hj : w.ptb.joined = s.ptb.joined)
    (hf : faultRec .frameRoster w = faultRec .frameRoster s) : RosterChecked s (rosterCheck w) := by
  simp only [RosterChecked, raisedIn, rosterCount_rosterCheck, rosterRight_rosterCheck, ← hj, ← hf]
  split
  · rename_i h
    rw [rosterCheck_joined w h]
    split
    · exact faultRec_unlatch_self _ w
    · exact faultRec_raise_self _ _ _ w
  · rename_i h
    rw [rosterCheck, if_neg h]

/-- R48: the roster check leaves every block but the fault unit alone. -/
theorem rosterCheck_frame (s : State) : rosterCheck s = { s with flt := (rosterCheck s).flt } := by
  ext1 <;> simp

theorem rosterCheck_ptb (s : State) : (rosterCheck s).ptb = s.ptb := by simp

theorem PeerChanged.rosterCheck {n : Station} {s u : State} (h : PeerChanged n s u) :
    PeerChanged n s (rosterCheck u) :=
  ⟨by simp [h.number], by simp [h.agreement], fun i hi => by simpa using h.other i hi⟩

theorem peerChanged_setPeer_frameTaken (src : Station) (p : Peer) (s : State) (h : src ≠ s.number) :
    PeerChanged src s (setPeer src p (frameTaken src s)) :=
  ⟨by simp, by simp, fun i hi => by rw [setPeer_peers, if_neg hi, frameTaken_peers src i s h, if_neg hi]⟩

/-! ### Frames that only refresh -/

theorem exec_urgentReceived (src : Station) (body : List Byte) (s : State) (h : hearsFrames s) :
    exec (.urgentReceived src body) s = .next (frameTaken src s) :=
  onFrame_heard src id s h

theorem exec_beaconReceived_eq (src : Station) (body : List Byte) (s : State) :
    exec (.beaconReceived src body) s = onFrame src (fun s => if src = s.number then s else takeBeacon src body s) s := rfl

theorem exec_beaconReceived_own (body : List Byte) (s : State) (h : hearsFrames s) :
    exec (.beaconReceived s.number body) s = .next (frameTaken s.number s) := by
  rw [exec_beaconReceived_eq, onFrame_heard _ _ s h]
  simp

theorem exec_beaconReceived (src : Station) (body : List Byte) (s : State) (h : hearsFrames s) (hsrc : src ≠ s.number) :
    exec (.beaconReceived src body) s = .next (takeBeacon src body (frameTaken src s)) := by
  rw [exec_beaconReceived_eq, onFrame_heard _ _ s h]
  simp [hsrc]

theorem dropPeer_absent (src : Station) (s : State) (h : s.ptb.peers[src].presence ≠ .present) : dropPeer src s = s :=
  if_neg h

/-- R45: the station once a beacon has made a PRESENT peer ABSENT, before the roster check. -/
def peerDropped (src : Station) (s : State) : State :=
  setPeer src { s.ptb.peers[src] with presence := .absent, age := 0 } (frameTaken src s)

theorem exec_beaconReceived_drops (src : Station) (body : List Byte) (s : State) (h : hearsFrames s)
    (hsrc : src ≠ s.number) (hc : classifyBeacon body = .otherRole) (hp : s.ptb.peers[src].presence = .present) :
    exec (.beaconReceived src body) s = .next (testAgreement (rosterCheck (peerDropped src s))) := by
  have hrec : (frameTaken src s).ptb.peers[src] = { s.ptb.peers[src] with age := 0 } := by
    rw [frameTaken_peers src src s hsrc, if_pos rfl]
  rw [exec_beaconReceived src body s h hsrc, takeBeacon, hc]
  simp only [dropPeer, hrec, hp, if_true]
  rfl

theorem peerChanged_peerDropped (src : Station) (s : State) (h : src ≠ s.number) : PeerChanged src s (peerDropped src s) :=
  peerChanged_setPeer_frameTaken src _ s h

theorem peerDropped_peers (src i : Station) (s : State) (h : src ≠ s.number) :
    (peerDropped src s).ptb.peers[i] =
      if i = src then { s.ptb.peers[i] with presence := .absent, age := 0 } else s.ptb.peers[i] := by
  rw [peerDropped, setPeer_peers, frameTaken_peers src i s h]
  by_cases hi : i = src
  · subst hi
    simp
  · simp [hi]

theorem peerDropped_frame (src : Station) (s : State) (h : src ≠ s.number) :
    peerDropped src s = { frameTaken src s with
      ptb := { s.ptb with
        peers := s.ptb.peers.set src { s.ptb.peers[src] with presence := .absent, age := 0 } } } :=
  setPeer_frameTaken src _ s h

theorem peerDropped_flt (src : Station) (s : State) (h : src ≠ s.number) : (peerDropped src s).flt = s.flt := by
  rw [peerDropped_frame src s h, frameTaken_other src s h]
  rfl

/-- R180: an order that could not have begun changes nothing. -/
theorem exec_orderOf_unheard (x : Sampled) (code : Byte) (f : OrderFrame) (s : State) (h : listening s = false) :
    exec (orderOf x code f) s = .next s := by
  obtain ⟨owner, howner⟩ := exec_orderOf x code f
  rw [howner]
  exact onFrame_unheard _ _ s h

theorem listening_eq_false {s : State} (h : s.liu.tx.isSome = true ∨ s.liu.framer = .waitIdle) : listening s = false := by
  rcases h with h | h
  · simp [listening, Option.isSome_iff_ne_none.1 h]
  · simp [listening, h]

/-- Settles O26: the frame's own trace, the beacons that add nothing, and the peer that a beacon drops. -/
theorem framesThatOnlyRefresh : Obligations.FramesThatOnlyRefresh := by
  refine ⟨fun src body s hs hsrc => ?_, fun src body s hs hsrc => ?_, fun src body s hs hcase => ?_,
    fun src body s hs hsrc hc hp hw => ?_, fun src body s hs hsrc hc hp hw hq => ?_, fun x code f src body s h => ?_⟩
  · refine ⟨_, exec_urgentReceived src body s hs, fun i => frameTaken_peers src i s hsrc, ?_⟩
    rw [frameTaken_other src s hsrc]
    rfl
  · subst hsrc
    refine ⟨_, exec_urgentReceived _ body s hs, ?_⟩
    rw [frameTaken_own]
    exact ⟨faultRec_raise_self _ _ _ _, fun c hc => faultRec_raise_ne _ _ _ _ _ hc, rfl, rfl, rfl⟩
  · rw [exec_urgentReceived src body s hs]
    by_cases hsrc : src = s.number
    · subst hsrc
      exact exec_beaconReceived_own body s hs
    rw [exec_beaconReceived src body s hs hsrc, takeBeacon]
    rcases hcase.resolve_left hsrc with hc | ⟨hc, hp⟩ <;> rw [hc]
    exact congrArg _ (dropPeer_absent src _ (by rwa [frameTaken_presence]))
  · have hflt := peerDropped_flt src s hsrc
    have hrec := faultRec_congr hflt
    refine ⟨_, exec_beaconReceived_drops src body s hs hsrc hc hp, ?_⟩
    rw [(peerChanged_peerDropped src s hsrc).rosterCheck.testAgreement_idle hw]
    refine ⟨fun i => ?_, rosterChecked_rosterCheck (frameTaken_joined src s) (hrec _),
      fun c hne => (faultRec_rosterCheck_ne c _ hne).trans (hrec c), by simp [hflt], by simp [hflt], ?_⟩
    · rw [rosterCheck_ptb]
      exact peerDropped_peers src i s hsrc
    · rw [rosterCheck_frame, peerDropped_frame src s hsrc]
  · rw [exec_beaconReceived_drops src body s hs hsrc hc hp, ← peerDropped_frame src s hsrc]
    refine (peerChanged_peerDropped src s hsrc).rosterCheck.testAgreement_completes ?_ hw hq fun hpres => ?_
    · simpa [inService, peerDropped] using hs.1
    · rw [rosterCheck_ptb, peerDropped_peers src src s hsrc, if_pos rfl] at hpres
      cases hpres
  · have hl := listening_eq_false h
    refine ⟨exec_orderOf_unheard x code f s hl, ?_, onFrame_unheard _ _ s hl,
      (exec_beaconReceived_eq src body s).trans (onFrame_unheard _ _ s hl), onFrame_unheard _ _ s hl⟩
    simp only [exec, execUnknownOrder]
    split
    · rfl
    · exact onFrame_unheard _ _ s hl

end Sys2Proof.Machine

namespace Sys2Proof.Machine

/-! ### A beacon that is recorded (R44, R45, R52, R53) -/

/-- R44: the record of a station after its recorded beacon, whose frame has set the age to 0. -/
def beaconRecord (src : Station) (v : BeaconView) (s : State) : Peer :=
  recordedPeer (agreementWaiting s) v { s.ptb.peers[src] with age := 0 }

/-- The station once the beacon is recorded, before the roster check. -/
def beaconRecorded (src : Station) (v : BeaconView) (s : State) : State :=
  setPeer src (beaconRecord src v s) (frameTaken src s)

theorem exec_beaconReceived_records (src : Station) (body : List Byte) (v : BeaconView) (s : State) (h : hearsFrames s)
    (hsrc : src ≠ s.number) (hc : classifyBeacon body = .pacing v) :
    exec (.beaconReceived src body) s = .next (testAgreement
      (if s.ptb.peers[src].presence = .present ∧ s.ptb.peers[src].role = v.role then beaconRecorded src v s
      else rosterCheck (beaconRecorded src v s))) := by
  have hrec : (frameTaken src s).ptb.peers[src] = { s.ptb.peers[src] with age := 0 } := by
    rw [frameTaken_peers src src s hsrc, if_pos rfl]
  have hw : agreementWaiting (frameTaken src s) = agreementWaiting s := by simp [agreementWaiting]
  rw [exec_beaconReceived src body s h hsrc, takeBeacon, hc]
  have hb : (s.ptb.peers[src].presence != .present || s.ptb.peers[src].role != v.role) = true ↔
      ¬ (s.ptb.peers[src].presence = .present ∧ s.ptb.peers[src].role = v.role) := by
    simp [imp_iff_not_or]
  simp only [recordBeacon, hrec, hw, rosterIfChanged, hb, ite_not]
  rfl

theorem peerChanged_beaconRecorded (src : Station) (v : BeaconView) (s : State) (h : src ≠ s.number) :
    PeerChanged src s (beaconRecorded src v s) :=
  peerChanged_setPeer_frameTaken src _ s h

theorem beaconRecorded_peers (src i : Station) (v : BeaconView) (s : State) (h : src ≠ s.number) :
    (beaconRecorded src v s).ptb.peers[i] = if i = src then beaconRecord src v s else s.ptb.peers[i] := by
  rw [beaconRecorded, setPeer_peers, frameTaken_peers src i s h]
  by_cases hi : i = src <;> simp [hi]

theorem beaconRecorded_self {src : Station} (v : BeaconView) (s : State) (h : src ≠ s.number) :
    (beaconRecorded src v s).ptb.peers[src] = beaconRecord src v s := by
  rw [beaconRecorded_peers src src v s h, if_pos rfl]

theorem beaconRecorded_frame (src : Station) (v : BeaconView) (s : State) (h : src ≠ s.number) :
    beaconRecorded src v s = { s with
      liu := { s.liu with framer := .waitIdle }
      ptb := { s.ptb with peers := s.ptb.peers.set src (beaconRecord src v s) } } := by
  rw [beaconRecorded, setPeer_frameTaken src _ s h, frameTaken_other src s h]
  rfl

/-- R53: agreement goes on waiting, for the recorded station or for another one. -/
theorem PeerChanged.testAgreement_recorded {src : Station} {v : BeaconView} {s u : State} (h : PeerChanged src s u)
    (hsrc : src ≠ s.number) (hrec : u.ptb.peers[src] = beaconRecord src v s)
    (hs : agreementWaiting s = false ∨ (v.run ≠ .stopped ∧ s.ptb.peers[src].qualified = false) ∨
      ∃ p ∈ pacingPeers s, p.1 ≠ src ∧ p.2.qualified = false) :
    testAgreement u = u := by
  rcases hs with hw | ⟨hrun, hq⟩ | hother
  · exact h.testAgreement_idle (.inl hw)
  · refine Machine.testAgreement_idle u (.inr ⟨(src, beaconRecord src v s), ?_, ?_⟩)
    · rw [Machine.mem_pacingPeers_iff, h.number, hrec]
      exact ⟨hsrc, rfl, rfl⟩
    · simpa [beaconRecord, recordedPeer, hrun] using hq
  · exact h.testAgreement_idle (.inr hother)

/-- R53: the beacon that qualifies the last peer. -/
theorem beaconRecord_qualified {src : Station} {v : BeaconView} {s : State} (hw : agreementWaiting s = true)
    (h : v.run = .stopped ∨ s.ptb.peers[src].qualified = true) : (beaconRecord src v s).qualified = true := by
  rcases h with h | h
  · simp [beaconRecord, recordedPeer, hw, h]
  · simp only [Fin.getElem_fin] at h
    simp [beaconRecord, recordedPeer, h]

/-- Settles O28: the recorded beacon with and without a change of presence or role, agreement waiting on or completing. -/
theorem beaconIsRecorded : Obligations.BeaconIsRecorded := by
  refine ⟨fun src body v s hs hsrc hc hp hw => ?_, fun src body v s hs hsrc hc hp hw => ?_,
    fun src body v s hs hsrc hc hp hw hrun hq => ?_, fun src body v s hs hsrc hc hp hw hrun hq => ?_⟩
  · refine ⟨_, exec_beaconReceived_records src body v s hs hsrc hc, ?_⟩
    rw [if_pos hp, (peerChanged_beaconRecorded src v s hsrc).testAgreement_recorded hsrc
      (beaconRecorded_self v s hsrc) hw]
    refine ⟨fun i => beaconRecorded_peers src i v s hsrc, ?_⟩
    rw [beaconRecorded_frame src v s hsrc]
  · refine ⟨_, exec_beaconReceived_records src body v s hs hsrc hc, ?_⟩
    rw [if_neg hp, (peerChanged_beaconRecorded src v s hsrc).rosterCheck.testAgreement_recorded hsrc
      (by rw [rosterCheck_ptb, beaconRecorded_self v s hsrc]) hw]
    have hflt : (beaconRecorded src v s).flt = s.flt := by rw [beaconRecorded_frame src v s hsrc]
    have hrec := faultRec_congr hflt
    refine ⟨fun i => ?_, rosterChecked_rosterCheck (frameTaken_joined src s) (hrec _),
      fun c hne => (faultRec_rosterCheck_ne c _ hne).trans (hrec c), by simp [hflt], by simp [hflt], ?_⟩
    · rw [rosterCheck_ptb]
      exact beaconRecorded_peers src i v s hsrc
    · rw [rosterCheck_frame, beaconRecorded_frame src v s hsrc]
  · rw [exec_beaconReceived_records src body v s hs hsrc hc, if_pos hp]
    refine ((peerChanged_beaconRecorded src v s hsrc).testAgreement_completes ?_ hw hq fun _ => ?_).trans ?_
    · simpa [inService, beaconRecorded] using hs.1
    · rw [beaconRecorded_self v s hsrc]
      exact beaconRecord_qualified hw hrun
    · rw [beaconRecorded, setPeer_frameTaken src _ s hsrc]
      rfl
  · rw [exec_beaconReceived_records src body v s hs hsrc hc, if_neg hp]
    refine ((peerChanged_beaconRecorded src v s hsrc).rosterCheck.testAgreement_completes ?_ hw hq fun _ => ?_).trans ?_
    · simpa [inService, beaconRecorded] using hs.1
    · rw [rosterCheck_ptb, beaconRecorded_self v s hsrc]
      exact beaconRecord_qualified hw hrun
    · rw [beaconRecorded, setPeer_frameTaken src _ s hsrc]
      rfl

/-! ### Peers that fall silent (R46) -/

/-- R46: the record of a station that falls silent. -/
def silentRecord (n : Station) (s : State) : Peer := { s.ptb.peers[n] with presence := .silent, age := 100 }

/-- The station once a peer's silence is recorded and reported, before the roster check. -/
def peerSilenced (n : Station) (s : State) : State :=
  raisePeerLost n s.ptb.peers[n].role (setPeer n (silentRecord n s) s)

theorem exec_peerAgeExpiry (n : Station) (s : State) (hi : inService s = true) :
    exec (.peerAgeExpiry n) s = .next
      (if n = s.number then s
      else if s.ptb.peers[n].presence = .present then silencePeer n s
      else setPeer n { s.ptb.peers[n] with age := 100 } s) := by
  simp only [exec, execPeerAgeExpiry, onService_on _ s hi]
  rfl

theorem exec_peerAgeExpiry_silent (n : Station) (s : State) (hi : inService s = true) (hn : n ≠ s.number)
    (hp : s.ptb.peers[n].presence = .present) :
    exec (.peerAgeExpiry n) s = .next (testAgreement (rosterCheck (peerSilenced n s))) := by
  rw [exec_peerAgeExpiry n s hi, if_neg hn, if_pos hp]
  rfl

theorem peerSilenced_ptb (n : Station) (s : State) :
    (peerSilenced n s).ptb = { s.ptb with peers := s.ptb.peers.set n (silentRecord n s) } := by
  simp [peerSilenced, setPeer]

theorem peerSilenced_peers (n i : Station) (s : State) :
    (peerSilenced n s).ptb.peers[i] = if i = n then silentRecord n s else s.ptb.peers[i] := by
  simp only [peerSilenced, raisePeerLost_keeps]
  exact setPeer_peers n i _ s

theorem peerSilenced_frame (n : Station) (s : State) :
    peerSilenced n s = { s with
      ptb := { s.ptb with peers := s.ptb.peers.set n (silentRecord n s) }, flt := (peerSilenced n s).flt } := by
  ext1 <;> simp [peerSilenced, setPeer]

theorem peerChanged_peerSilenced (n : Station) (s : State) : PeerChanged n s (peerSilenced n s) :=
  ⟨by simp [peerSilenced], by simp [peerSilenced], fun i hi => by rw [peerSilenced_peers, if_neg hi]⟩

/-- R46, R160: PEER-LOST of a head is taken with the action in force and keeps the axis mark. -/
theorem raisePeerLost_head (n : Station) (s : State) :
    raisePeerLost n .head s = raise .peerLost (BitVec.ofNat 8 n.val) 0 s := rfl

/-- R46, R160: PEER-LOST of an axis is taken as HALT and sets the axis mark. -/
theorem raisePeerLost_axis (n : Station) (r : Role) (s : State) (h : r ≠ .head) :
    raisePeerLost n r s = { raiseAs .halt .peerLost (BitVec.ofNat 8 n.val) (roleCode r) s with
      flt := { (raiseAs .halt .peerLost (BitVec.ofNat 8 n.val) (roleCode r) s).flt with axisMark := true } } := by
  cases r with
  | head => exact absurd rfl h
  | axisX => rfl
  | axisY => rfl

theorem faultRec_raisePeerLost_self (n : Station) (r : Role) (s : State) :
    faultRec .peerLost (raisePeerLost n r s) =
      raisedRec (if r = .head then (faultRec .peerLost s).action else .halt) (BitVec.ofNat 8 n.val) (roleCode r)
        (faultRec .peerLost s) := by
  cases r <;> exact faultRec_setFault_self _ _ _

theorem faultRec_raisePeerLost_ne (n : Station) (r : Role) (c : FaultCode) (s : State) (h : c ≠ .peerLost) :
    faultRec c (raisePeerLost n r s) = faultRec c s := by
  cases r <;> exact faultRec_setFault_ne _ _ _ _ h

theorem raisePeerLost_axisMark (n : Station) (r : Role) (s : State) :
    (raisePeerLost n r s).flt.axisMark = if r = .head then s.flt.axisMark else true := by
  cases r <;> rfl

/-- R53: the silence of the last peer that had not qualified. -/
theorem peerSilenced_completes {n : Station} {s : State} (hi : inService s = true) (hw : agreementWaiting s = true)
    (hq : ∀ p ∈ pacingPeers s, p.1 ≠ n → p.2.qualified = true) :
    .next (testAgreement (rosterCheck (peerSilenced n s))) = exec .agreementTimerExpiry (rosterCheck (peerSilenced n s)) := by
  refine (peerChanged_peerSilenced n s).rosterCheck.testAgreement_completes ?_ hw hq fun hpres => ?_
  · simpa [inService, peerSilenced] using hi
  · rw [rosterCheck_ptb, peerSilenced_peers, if_pos rfl] at hpres
    cases hpres

/-- Settles O29: the own record, a record that is not PRESENT, and a PRESENT one with agreement waiting on or completing. -/
theorem silentPeers : Obligations.SilentPeers := by
  refine ⟨fun n s hi hn => ?_, fun n s hi hn hp => ?_, fun n s hi hn hp hw => ?_, fun n s hi hn hp hr hw hq => ?_,
    fun n s hi hn hp hr hw hq => ?_⟩
  · rw [exec_peerAgeExpiry n s hi, if_pos hn]
  · rw [exec_peerAgeExpiry n s hi, if_neg hn, if_neg hp]
    rfl
  · refine ⟨_, exec_peerAgeExpiry_silent n s hi hn hp, ?_⟩
    rw [(peerChanged_peerSilenced n s).rosterCheck.testAgreement_idle hw]
    refine ⟨fun i => ?_, ?_, ?_, rosterChecked_rosterCheck (by rw [peerSilenced_ptb]) ?_, fun c hc => ?_, ?_, ?_⟩
    · rw [rosterCheck_ptb, peerSilenced_peers]
      by_cases hin : i = n
      · subst hin
        rfl
      · rw [if_neg hin, if_neg hin]
    · rw [faultRec_rosterCheck_ne _ _ (by decide)]
      exact faultRec_raisePeerLost_self n _ _
    · rw [(rosterCheck_marks _).2]
      exact raisePeerLost_axisMark n _ _
    · exact faultRec_raisePeerLost_ne n _ _ _ (by decide)
    · rw [faultRec_rosterCheck_ne c _ hc.2]
      exact faultRec_raisePeerLost_ne n _ _ _ hc.1
    · rw [(rosterCheck_marks _).1]
      exact raisePeerLost_supply n _ _
    · rw [rosterCheck_frame, peerSilenced_frame]
  · rw [exec_peerAgeExpiry_silent n s hi hn hp, peerSilenced_completes hi hw hq, peerSilenced, hr, raisePeerLost_head]
    rfl
  · rw [exec_peerAgeExpiry_silent n s hi hn hp, peerSilenced_completes hi hw hq, peerSilenced,
      raisePeerLost_axis n _ _ hr]
    rfl

end Sys2Proof.Machine

namespace Sys2Proof.Machine

/-! ### The transmit slots and the framer (R47, R165, R166, R182, R186) -/

/-- R165: building the urgent frame clears the fresh marks of the faults it lists. -/
theorem faultRec_clearFresh (c : FaultCode) (cs : List FaultCode) (s : State) :
    faultRec c (clearFresh cs s) = if c ∈ cs then { faultRec c s with fresh := false } else faultRec c s := by
  induction cs generalizing s with
  | nil => rfl
  | cons d cs ih =>
    rw [clearFresh, ih]
    by_cases hcd : c = d
    · subst hcd
      simp
    · rw [faultRec_setFault_ne _ _ _ _ hcd]
      simp [hcd]

/-- R166: the end of an urgent frame takes the pending marks of the listed faults that are not fresh. -/
theorem faultRec_deliverFaults (c : FaultCode) (cs : List FaultCode) (s : State) :
    faultRec c (deliverFaults cs s) =
      if c ∈ cs ∧ (faultRec c s).fresh = false then { faultRec c s with pending := false } else faultRec c s := by
  induction cs generalizing s with
  | nil => simp [deliverFaults]
  | cons d cs ih =>
    rw [deliverFaults, ih]
    by_cases hcd : c = d
    · subst hcd
      by_cases hf : (faultRec c s).fresh = true <;> simp [hf]
    · have hsame : faultRec c (if (faultRec d s).fresh then s else setFault d { faultRec d s with pending := false } s) =
          faultRec c s := by
        split
        · rfl
        · exact faultRec_setFault_ne _ _ _ _ hcd
      rw [hsame]
      simp [hcd]

/-- R165: the fault unit's marks and every other block stay. -/
theorem clearFresh_frame (cs : List FaultCode) (s : State) :
    clearFresh cs s = { s with flt := (clearFresh cs s).flt } ∧ (clearFresh cs s).flt.supply = s.flt.supply ∧
      (clearFresh cs s).flt.axisMark = s.flt.axisMark := by
  induction cs generalizing s with
  | nil => exact ⟨rfl, rfl, rfl⟩
  | cons d cs ih =>
    obtain ⟨hs, hsup, hmark⟩ := ih (setFault d { faultRec d s with fresh := false } s)
    rw [clearFresh]
    refine ⟨?_, hsup, hmark⟩
    rw [hs]
    rfl

theorem deliverFaults_frame (cs : List FaultCode) (s : State) :
    deliverFaults cs s = { s with flt := (deliverFaults cs s).flt } ∧ (deliverFaults cs s).flt.supply = s.flt.supply ∧
      (deliverFaults cs s).flt.axisMark = s.flt.axisMark := by
  induction cs generalizing s with
  | nil => exact ⟨rfl, rfl, rfl⟩
  | cons d cs ih =>
    rw [deliverFaults]
    by_cases hf : (faultRec d s).fresh = true
    · rw [if_pos hf]
      exact ih s
    · rw [if_neg hf]
      obtain ⟨hs, hsup, hmark⟩ := ih (setFault d { faultRec d s with pending := false } s)
      refine ⟨?_, hsup, hmark⟩
      rw [hs]
      rfl

/-- R186: outside CUT the urgent slot is due exactly where an urgent frame would list a fault. -/
theorem urgentDue_iff (s : State) (h : s.pcu.run ≠ .cut) : urgentDue s = true ↔ urgentList s ≠ [] := by
  have hrun : (s.pcu.run != .cut) = true := by simpa using h
  simp [urgentDue, urgentList, hrun, List.take_eq_nil_iff, List.filter_eq_nil_iff]

theorem urgentList_eq_nil {s : State} (h : ∀ c ∈ allFaults, (faultRec c s).pending = false) : urgentList s = [] := by
  rw [urgentList, List.filter_eq_nil_iff.2 fun c hc => by simp [h c hc], List.take_nil]

/-- R182: no attempt begins on a busy line, during an own transmission or in CUT. -/
theorem exec_transmitAttempt_none (s : State) (hi : inService s = true)
    (h : s.liu.framer ≠ .hunting ∨ s.liu.tx.isSome = true ∨ s.pcu.run = .cut) :
    exec .transmitAttempt s = .next s := by
  simp only [exec, execTransmitAttempt, onService_on _ s hi]
  rw [if_neg]
  rintro ⟨hf, htx, hr⟩
  rcases h with h | h | h
  · exact h hf
  · simp [htx] at h
  · exact hr h

/-- R165, R186: an attempt with a fault to list sends the urgent frame. -/
theorem exec_transmitAttempt_urgent (s : State) (hi : inService s = true) (hf : s.liu.framer = .hunting)
    (htx : s.liu.tx = none) (hr : s.pcu.run ≠ .cut) (hu : urgentList s ≠ []) :
    exec .transmitAttempt s = .next (attemptUrgent s) := by
  simp only [exec, execTransmitAttempt, onService_on _ s hi, urgentDue_iff s hr]
  rw [if_pos ⟨hf, htx, hr⟩, if_pos hu]

/-- R47, R186: an attempt with no fault to list sends the beacon where it is due. -/
theorem exec_transmitAttempt_beacon (role : Role) (s : State) (hi : inService s = true) (hf : s.liu.framer = .hunting)
    (htx : s.liu.tx = none) (hr : s.pcu.run ≠ .cut) (hu : urgentList s = []) (hrole : s.role = some role) :
    exec .transmitAttempt s = .next (if s.liu.beaconDue then attemptBeacon role s else s) := by
  simp only [exec, execTransmitAttempt, onService_on _ s hi, urgentDue_iff s hr, hrole]
  rw [if_pos ⟨hf, htx, hr⟩, if_neg fun h => h hu]

/-- R188: the body of an urgent frame, octet by octet. -/
theorem urgentBody_eq (cs : List FaultCode) (s : State) :
    urgentBody cs s = octets3 s.pcu.cursor.n ++ [if s.pcu.cursor.step = .first then 0 else 1, BitVec.ofNat 8 cs.length] ++
      cs.flatMap fun c => [BitVec.ofNat 8 (faultNumber c), octetSat (faultRec c s).count, (faultRec c s).d1,
        (faultRec c s).d2] := by
  have hstep : stepOctet s.pcu.cursor.step = if s.pcu.cursor.step = .first then 0 else 1 := by
    cases s.pcu.cursor.step <;> rfl
  rw [urgentBody, cursorOctets, hstep]
  simp
  rfl

/-- R182: what an end of an attempt makes of the line, where a transmission is in flight. -/
theorem exec_collision (s : State) (hi : inService s = true) (htx : s.liu.tx.isSome = true) :
    exec .collision s = .next
      (if 1 ≤ s.liu.collisions then
        raise .duplicateNumber 2 0 { s with liu := { s.liu with tx := none, framer := .inFrame, collisions := 0 } }
      else { s with liu := { s.liu with tx := none, framer := .inFrame, collisions := s.liu.collisions + 1 } }) := by
  obtain ⟨t, ht⟩ := Option.isSome_iff_exists.1 htx
  simp only [exec, execCollision, onService_on _ s hi, ht]
  by_cases h : 1 ≤ s.liu.collisions
  · have h2 : 2 ≤ s.liu.collisions + 1 := by omega
    rw [if_pos h, if_pos h2, if_pos h2]
  · have h2 : ¬ 2 ≤ s.liu.collisions + 1 := by omega
    rw [if_neg h, if_neg h2, if_neg h2]

theorem exec_frameSent_urgent (t : Transmission) (s : State) (hi : inService s = true) (ht : s.liu.tx = some t)
    (hslot : t.slot = .urgent) :
    exec .frameSent s = .next
      (deliverFaults t.listed { s with liu := { s.liu with tx := none, framer := .waitIdle, collisions := 0 } }) := by
  simp only [exec, execFrameSent, onService_on _ s hi, ht, hslot]

theorem exec_frameSent_beacon (t : Transmission) (s : State) (hi : inService s = true) (ht : s.liu.tx = some t)
    (hslot : t.slot = .beacon) :
    exec .frameSent s = .next { s with liu := { s.liu with
      tx := none, framer := .waitIdle, collisions := 0, beaconDue := t.again } } := by
  simp only [exec, execFrameSent, onService_on _ s hi, ht, hslot]

/-- R47: the beacon timer of a station in service. -/
theorem exec_beaconTimer (s : State) (hi : inService s = true) :
    exec .beaconTimer s = .next (beaconFallsDue { s with liu := { s.liu with beaconTimer := .running 20000 } }) := by
  simp only [exec, execBeaconTimer, onService_on _ s hi]
  rfl

/-- Settles O50, event by event. -/
theorem transmitSlotsAndFramer : Obligations.TransmitSlotsAndFramer := by
  refine ⟨fun s hi hr => ?_, fun s hi hr => ?_, exec_transmitAttempt_none, fun cs s hi hf htx hr hcs hne => ?_,
    fun r s hi hf htx hr hp hd hrole => ?_, fun s hi hp hd => ?_, fun s hi htx => ?_, fun s hi htx hz => ?_,
    fun s hi htx hc => ?_, fun t s hi ht hslot => ?_, fun t s hi ht hslot => ?_, fun s hi htx => ?_, fun s hi htx => ?_,
    fun s hi htx => ?_, fun s hi htx => ?_, fun s hi htx => ?_, fun s hi hf => ?_, fun s hi hf => ?_⟩
  case refine_1 =>
    rw [exec_beaconTimer s hi, beaconFallsDue, if_neg hr]
    cases htx : s.liu.tx with
    | none => simp [htx]
    | some t => by_cases ht : t.slot = .beacon <;> simp [ht, htx]
  case refine_2 =>
    rw [exec_beaconTimer s hi, beaconFallsDue, if_pos hr]
  case refine_3 =>
    have hlist : urgentList s = cs := hcs
    obtain ⟨hfr, hsup, hmark⟩ := clearFresh_frame cs s
    refine ⟨_, exec_transmitAttempt_urgent s hi hf htx hr (hlist ▸ hne), ?_⟩
    rw [attemptUrgent, hlist]
    refine ⟨fun c => faultRec_clearFresh c cs s, hsup, hmark, ?_⟩
    rw [← urgentBody_eq, hfr]
    rfl
  case refine_4 =>
    rw [exec_transmitAttempt_beacon r s hi hf htx hr (urgentList_eq_nil hp) hrole, if_pos hd]
    rfl
  case refine_5 =>
    by_cases hok : s.liu.framer = .hunting ∧ s.liu.tx = none ∧ s.pcu.run ≠ .cut
    · obtain ⟨hf, htx, hr⟩ := hok
      obtain ⟨role, hrole⟩ : ∃ role, s.role = some role := Option.isSome_iff_exists.1 (Bool.and_eq_true_iff.1 hi).1
      rw [exec_transmitAttempt_beacon role s hi hf htx hr (urgentList_eq_nil hp) hrole, if_neg (by simp [hd])]
    · refine exec_transmitAttempt_none s hi ?_
      rw [Option.isSome_iff_ne_none]
      tauto
  case refine_6 =>
    obtain ⟨t, ht⟩ := Option.isSome_iff_exists.1 htx
    simp [exec, execArbitrationLost, onService_on _ s hi, ht]
  case refine_7 =>
    rw [exec_collision s hi htx, if_neg (by omega), hz]
  case refine_8 =>
    refine ⟨_, exec_collision s hi htx, ?_⟩
    rw [if_pos hc]
    exact ⟨faultRec_raise_self _ _ _ _, fun c hne => faultRec_raise_ne _ _ _ _ _ hne, rfl, rfl, rfl⟩
  case refine_9 =>
    refine ⟨_, exec_frameSent_urgent t s hi ht hslot, ?_⟩
    obtain ⟨hfr, hsup, hmark⟩ := deliverFaults_frame t.listed
      { s with liu := { s.liu with tx := none, framer := .waitIdle, collisions := 0 } }
    exact ⟨fun c => faultRec_deliverFaults c t.listed _, hsup, hmark, hfr⟩
  case refine_10 => exact exec_frameSent_beacon t s hi ht hslot
  case refine_11 => simp [exec, execArbitrationLost, onService_on _ s hi, htx]
  case refine_12 => simp [exec, execCollision, onService_on _ s hi, htx]
  case refine_13 => simp [exec, execFrameSent, onService_on _ s hi, htx]
  case refine_14 => simp [exec, execFrameAbandoned, onService_on _ s hi, htx]
  case refine_15 => simp [exec, execFrameAbandoned, onService_on _ s hi, htx]
  case refine_16 => simp [exec, execLineIdle, onService_on _ s hi, hf]
  case refine_17 => simp [exec, execLineIdle, onService_on _ s hi, hf]

/-! ### The end of the self-test (R167, R177) -/

/-- R177: the result code, as the parts fail. -/
theorem selfTestResult_eq (role : Role) (ring : Bool) (lines : CodeLines) (drive : Bool) :
    selfTestResult role ring (roleCheckFails role lines drive) =
      if ring then 1 else if role = .head ∧ codeOfLines lines = 0 then 2 else if role ≠ .head ∧ drive then 3 else 0 := by
  cases role <;> simp [selfTestResult, roleCheckFails] <;> rfl

theorem roleCheckFails_iff (role : Role) (lines : CodeLines) (drive : Bool) :
    roleCheckFails role lines drive = true ↔ (role = .head ∧ codeOfLines lines = 0) ∨ (role ≠ .head ∧ drive) := by
  cases role <;> simp [roleCheckFails]

/-- R177: a code other than 0 stands for one failed part, or for two. -/
theorem failedParts_eq {role : Role} {ring bad : Bool} (h : selfTestResult role ring bad ≠ 0) :
    failedParts ring bad = if ring ∧ bad then 2 else 1 := by
  cases ring <;> cases bad <;> simp_all [failedParts, selfTestResult]

@[simp] theorem recordSelfTest_keeps (role : Role) (ring bad : Bool) (s : State) :
    (recordSelfTest role ring bad s).pending = s.pending ∧ (recordSelfTest role ring bad s).number = s.number ∧
    (recordSelfTest role ring bad s).role = s.role ∧ (recordSelfTest role ring bad s).selfTesting = false ∧
    (recordSelfTest role ring bad s).resultCode = selfTestResult role ring bad ∧
    (recordSelfTest role ring bad s).params = s.params ∧ (recordSelfTest role ring bad s).liu = s.liu ∧
    (recordSelfTest role ring bad s).ord = s.ord ∧ (recordSelfTest role ring bad s).ptb = s.ptb ∧
    (recordSelfTest role ring bad s).pcu = s.pcu ∧ (recordSelfTest role ring bad s).dld = s.dld ∧
    (recordSelfTest role ring bad s).drg = s.drg ∧ (recordSelfTest role ring bad s).axu = s.axu ∧
    (recordSelfTest role ring bad s).slu = s.slu ∧ (recordSelfTest role ring bad s).stu = s.stu ∧
    (recordSelfTest role ring bad s).thm = s.thm ∧ (recordSelfTest role ring bad s).free = s.free := by
  unfold recordSelfTest
  dsimp only
  split <;> simp

theorem faultRec_recordSelfTest (c : FaultCode) (role : Role) (ring bad : Bool) (s : State) :
    faultRec c (recordSelfTest role ring bad s) =
      if c = .selfTest ∧ selfTestResult role ring bad ≠ 0 then
        raisedRec (faultRec c s).action (selfTestResult role ring bad) (if ring ∧ bad then 2 else 1) (faultRec c s)
      else faultRec c s := by
  unfold recordSelfTest
  dsimp only
  by_cases hz : selfTestResult role ring bad = 0
  · rw [if_pos hz, if_neg fun h => h.2 hz]
    rfl
  · rw [if_neg hz, failedParts_eq hz]
    by_cases hc : c = .selfTest
    · subst hc
      exact (faultRec_raise_self _ _ _ _).trans (if_pos ⟨rfl, hz⟩).symm
    · exact (faultRec_raise_ne _ _ _ _ _ hc).trans (if_neg fun h => hc h.1).symm

@[simp] theorem recordSelfTest_marks (role : Role) (ring bad : Bool) (s : State) :
    (recordSelfTest role ring bad s).flt.supply = s.flt.supply ∧
      (recordSelfTest role ring bad s).flt.axisMark = s.flt.axisMark := by
  unfold recordSelfTest
  dsimp only
  split <;> exact ⟨rfl, rfl⟩

theorem endSelfTest_flt (role : Role) (ring bad : Bool) (mv : Nat) (s : State) :
    (endSelfTest role ring bad mv s).flt = (takeSupply mv (recordSelfTest role ring bad s)).flt := by
  unfold endSelfTest
  dsimp only
  split <;> simp

/-- R167, R177: the records at the end of the self-test: SELF-TEST's by its result, the supply faults' by the level. -/
theorem faultRec_endSelfTest (c : FaultCode) (role : Role) (ring bad : Bool) (mv : Nat) (s : State) :
    faultRec c (endSelfTest role ring bad mv s) =
      if (c = .supplyWarn ∧ startingLevel mv ≠ .normal) ∨
          (c = .supplyLow ∧ startingLevel mv ≠ .normal ∧ startingLevel mv ≠ .warn) then
        raisedRec (faultRec c s).action 0 0 (faultRec c s)
      else if c = .selfTest ∧ selfTestResult role ring bad ≠ 0 then
        raisedRec (faultRec c s).action (selfTestResult role ring bad) (if ring ∧ bad then 2 else 1) (faultRec c s)
      else faultRec c s := by
  rw [faultRec_congr (endSelfTest_flt role ring bad mv s), takeSupply, faultRec_raiseStartingLevel]
  have hrec : ∀ level, faultRec c { recordSelfTest role ring bad s with
      flt := { (recordSelfTest role ring bad s).flt with supply := level } } = faultRec c (recordSelfTest role ring bad s) :=
    fun _ => rfl
  rw [hrec, faultRec_recordSelfTest]
  refine ite_congr rfl (fun h => ?_) fun _ => rfl
  have hc : ¬ (c = .selfTest ∧ selfTestResult role ring bad ≠ 0) := by
    rintro ⟨rfl, -⟩
    simp at h
  rw [if_neg hc]

theorem endSelfTest_marks (role : Role) (ring bad : Bool) (mv : Nat) (s : State) :
    (endSelfTest role ring bad mv s).flt.supply = startingLevel mv ∧
      (endSelfTest role ring bad mv s).flt.axisMark = s.flt.axisMark := by
  simp [endSelfTest_flt, takeSupply]

/-- R50, R177: above CUT joining begins, and nothing else changes. -/
theorem endSelfTest_joins {role : Role} {ring bad : Bool} {mv : Nat} {s : State} (h : startingLevel mv ≠ .cut) :
    endSelfTest role ring bad mv s = { s with
      selfTesting := false, resultCode := selfTestResult role ring bad, flt := (endSelfTest role ring bad mv s).flt
      pcu := { s.pcu with listen := .running 100000 }
      liu := { s.liu with beaconTimer := .running (s.number.val * 500) } } := by
  ext1
  case flt => rfl
  all_goals simp [endSelfTest, h, beginJoining, takeSupply, Config.listenUs, Config.beaconOffsetUs]

/-- R168, R177: the pace unit where the supply stands at CUT. -/
theorem endSelfTest_cuts {role : Role} {ring bad : Bool} {mv : Nat} {s : State} (h : startingLevel mv = .cut) :
    (endSelfTest role ring bad mv s).pcu.run = .cut ∧ (endSelfTest role ring bad mv s).pcu.pace = true ∧
      (endSelfTest role ring bad mv s).pcu.listen = .stopped := by
  rw [endSelfTest, if_pos h]
  exact ⟨rfl, rfl, rfl⟩

theorem endSelfTest_result (role : Role) (ring bad : Bool) (mv : Nat) (s : State) :
    (endSelfTest role ring bad mv s).selfTesting = false ∧
      (endSelfTest role ring bad mv s).resultCode = selfTestResult role ring bad := by
  unfold endSelfTest
  dsimp only
  split <;> simp [takeSupply]

theorem startingLevel_iff (mv : Nat) :
    (startingLevel mv = .normal ↔ 21800 < mv) ∧ (startingLevel mv = .warn ↔ 19900 < mv ∧ mv ≤ 21800) ∧
      (startingLevel mv = .low ↔ 16300 < mv ∧ mv ≤ 19900) ∧ (startingLevel mv = .cut ↔ mv ≤ 16300) := by
  unfold startingLevel
  split_ifs <;> simp <;> omega

/-- Settles O5: the result, the three records that may change, the level, and joining or CUT. -/
theorem selfTestEnds : Obligations.SelfTestEnds := by
  refine ⟨fun role ring lines drive mv s hr ht => ?_, startingLevel_iff⟩
  have hexec : exec (.selfTestEnd ring lines drive mv) s =
      .next (endSelfTest role ring (roleCheckFails role lines drive) mv s) := by
    simp [exec, execSelfTestEnd, hr, ht]
  obtain ⟨hsup, hmark⟩ := endSelfTest_marks role ring (roleCheckFails role lines drive) mv s
  have hrec := fun c => faultRec_endSelfTest c role ring (roleCheckFails role lines drive) mv s
  obtain ⟨htest, hcode⟩ := endSelfTest_result role ring (roleCheckFails role lines drive) mv s
  rw [← selfTestResult_eq]
  simp only [← roleCheckFails_iff]
  refine ⟨_, hexec, hmark, htest, hcode, hsup, ?_, ?_, ?_, fun c hc => ?_, fun h => ?_, endSelfTest_cuts⟩
  · by_cases hz : selfTestResult role ring (roleCheckFails role lines drive) = 0
    · rw [if_pos hz]
      exact (hrec _).trans ((if_neg (by simp)).trans (if_neg fun h => h.2 hz))
    · rw [if_neg hz]
      exact (hrec _).trans ((if_neg (by simp)).trans (if_pos ⟨rfl, hz⟩))
  · by_cases hl : startingLevel mv = .normal
    · rw [if_pos hl]
      exact (hrec _).trans ((if_neg (by simp [hl])).trans (if_neg (by simp)))
    · rw [if_neg hl]
      exact (hrec _).trans (if_pos (.inl ⟨rfl, hl⟩))
  · by_cases hl : startingLevel mv = .normal ∨ startingLevel mv = .warn
    · rw [if_pos hl]
      exact (hrec _).trans ((if_neg (by simp; tauto)).trans (if_neg (by simp)))
    · rw [if_neg hl]
      exact (hrec _).trans (if_pos (.inr ⟨rfl, not_or.1 hl⟩))
  · obtain ⟨htest, hwarn, hlow⟩ := hc
    rw [hrec, if_neg (by simp [hwarn, hlow]), if_neg (by simp [htest])]
  · rw [hcode]
    exact endSelfTest_joins h

end Sys2Proof.Machine

namespace Sys2Proof.Machine

/-! ### The faults a CLEAR names (R159, R161) -/

/-- R161: the record of a fault after a CLEAR that names `cs`, taken in `s`. -/
def clearedRec (cs : List FaultCode) (s : State) (c : FaultCode) : FaultRec :=
  if c ∈ cs ∧ (faultRec c s).latched = true ∧ condition c s = false then { faultRec c s with latched := false }
  else faultRec c s

/-- R161: one named fault is unlatched, or nothing changes. -/
theorem clearOne_cases (d : FaultCode) (s : State) :
    ((faultRec d s).latched = true ∧ condition d s = false ∧ clearOne d s = unlatch d s) ∨
      (¬ ((faultRec d s).latched = true ∧ condition d s = false) ∧ clearOne d s = s) := by
  unfold clearOne
  split
  · rename_i h
    exact .inl ⟨by simp_all, by simp_all, rfl⟩
  · rename_i h
    exact .inr ⟨by simpa using h, rfl⟩

theorem rosterRight_congr {a b : State} (hn : a.number = b.number) (hr : a.role = b.role)
    (hp : ∀ i : Station, a.ptb.peers[i].presence = b.ptb.peers[i].presence ∧ a.ptb.peers[i].role = b.ptb.peers[i].role) :
    rosterRight a = rosterRight b := by
  rw [rosterRight, rosterRight, rosterCount_congr .axisX hn hr hp, rosterCount_congr .axisY hn hr hp]

/-- R159: a fault that can be unlatched is neither SELF-TEST nor DUPLICATE-NUMBER, whose latch is their condition, so
unlatching it changes no condition. -/
theorem condition_unlatch (c d : FaultCode) (s : State) (hl : (faultRec d s).latched = true) (hd : condition d s = false) :
    condition c (unlatch d s) = condition c s := by
  have hself : FaultCode.selfTest ≠ d := by
    rintro rfl
    simp [condition, hl] at hd
  have hdup : FaultCode.duplicateNumber ≠ d := by
    rintro rfl
    simp [condition, hl] at hd
  have hroster : rosterRight (unlatch d s) = rosterRight s := rosterRight_congr (by simp) (by simp) fun i => by simp
  cases c <;> simp [condition, faultRec_unlatch_ne, hself, hdup, hroster, isAxis]

theorem condition_clearOne (c d : FaultCode) (s : State) : condition c (clearOne d s) = condition c s := by
  rcases clearOne_cases d s with ⟨hl, hd, heq⟩ | ⟨-, heq⟩ <;> rw [heq]
  exact condition_unlatch c d s hl hd

theorem faultRec_clearOne_ne (c d : FaultCode) (s : State) (h : c ≠ d) : faultRec c (clearOne d s) = faultRec c s := by
  rcases clearOne_cases d s with ⟨-, -, heq⟩ | ⟨-, heq⟩ <;> rw [heq]
  exact faultRec_unlatch_ne d c s h

/-- R161: every named fault is judged by the latch and the condition it has when the CLEAR comes. -/
theorem faultRec_clearList (c : FaultCode) (cs : List FaultCode) (s : State) :
    faultRec c (clearList cs s) = clearedRec cs s c := by
  induction cs generalizing s with
  | nil => simp [clearList, clearedRec]
  | cons d cs ih =>
    rw [clearList, ih, clearedRec, clearedRec, condition_clearOne]
    by_cases hcd : c = d
    · subst hcd
      rcases clearOne_cases c s with ⟨hl, hc, heq⟩ | ⟨hnot, heq⟩ <;> rw [heq]
      · simp [hl, hc]
      · rw [if_neg fun h => hnot h.2, if_neg fun h => hnot h.2]
    · rw [faultRec_clearOne_ne c d s hcd]
      simp [hcd]

theorem clearList_frame (cs : List FaultCode) (s : State) : clearList cs s = { s with flt := (clearList cs s).flt } := by
  ext1 <;> simp

theorem clearList_supply (cs : List FaultCode) (s : State) : (clearList cs s).flt.supply = s.flt.supply := by
  induction cs generalizing s with
  | nil => rfl
  | cons d cs ih =>
    rw [clearList, ih]
    rcases clearOne_cases d s with ⟨-, -, heq⟩ | ⟨-, heq⟩ <;> simp [heq]

/-- R161: the axis mark goes with the latch of PEER-LOST. -/
theorem clearList_axisMark (cs : List FaultCode) (s : State) :
    (clearList cs s).flt.axisMark =
      if .peerLost ∈ cs ∧ (faultRec .peerLost s).latched = true then false else s.flt.axisMark := by
  induction cs generalizing s with
  | nil => simp [clearList]
  | cons d cs ih =>
    rw [clearList, ih]
    by_cases hd : d = .peerLost
    · subst hd
      rcases clearOne_cases .peerLost s with ⟨hl, -, heq⟩ | ⟨hnot, heq⟩ <;> rw [heq]
      · simp [hl, unlatch]
      · have hl : ¬ (faultRec .peerLost s).latched = true := fun hl => hnot ⟨hl, rfl⟩
        simp [hl]
    · have hmark : (clearOne d s).flt.axisMark = s.flt.axisMark := by
        rcases clearOne_cases d s with ⟨-, -, heq⟩ | ⟨-, heq⟩ <;> rw [heq]
        exact unlatch_axisMark d s hd
      rw [hmark, faultRec_clearOne_ne _ _ _ (Ne.symm hd)]
      simp [Ne.symm hd]

/-! ### SILENT records at a CLEAR of PEER-LOST (R46) -/

/-- R46: the station with every SILENT record ABSENT, before the roster check. -/
def silentForgotten (s : State) : State :=
  { s with ptb := { s.ptb with
    peers := vmap (fun p => if p.presence = .silent then { p with presence := .absent } else p) s.ptb.peers } }

theorem silentForgotten_peers (i : Station) (s : State) :
    (silentForgotten s).ptb.peers[i] =
      if s.ptb.peers[i].presence = .silent then { s.ptb.peers[i] with presence := .absent } else s.ptb.peers[i] := by
  simp [silentForgotten]

/-- R48: no SILENT record is counted. -/
theorem rosterRight_silentForgotten (s : State) : rosterRight (silentForgotten s) = rosterRight s := by
  have hcount : ∀ r, rosterCount r (silentForgotten s) = rosterCount r s := fun r => by
    unfold rosterCount
    refine List.countP_congr fun i _ => ?_
    have hp : ((silentForgotten s).ptb.peers[i].presence == .present && (silentForgotten s).ptb.peers[i].role == r) =
        (s.ptb.peers[i].presence == .present && s.ptb.peers[i].role == r) := by
      rw [silentForgotten_peers]
      split
      · rename_i h
        rw [h]
        rfl
      · rfl
    rw [hp]
    rfl
  rw [rosterRight, rosterRight, hcount, hcount]

theorem pacingPeers_silentForgotten (s : State) : pacingPeers (silentForgotten s) = pacingPeers s := by
  unfold pacingPeers
  refine List.filterMap_congr fun i _ => ?_
  by_cases hp : s.ptb.peers[i].presence = .silent
  · rw [silentForgotten_peers, if_pos hp, if_neg (by simp), if_neg fun h => by simp only [hp, reduceCtorEq, and_false] at h]
  · rw [silentForgotten_peers, if_neg hp]
    rfl

/-- R53: agreement does not wait, or waits on for a pacing peer, or no record is SILENT. -/
def ForgetsQuietly (s : State) : Prop :=
  agreementWaiting s = false ∨ (∀ i : Station, s.ptb.peers[i].presence ≠ .silent) ∨
    ∃ p ∈ pacingPeers s, p.2.qualified = false

theorem forgetSilent_eq (s : State) (h : ForgetsQuietly s) :
    forgetSilent s =
      if ∃ i : Station, s.ptb.peers[i].presence = .silent then rosterCheck (silentForgotten s) else silentForgotten s := by
  have hany : ((List.finRange 32).any fun i => s.ptb.peers[i].presence == .silent) = true ↔
      ∃ i : Station, s.ptb.peers[i].presence = .silent := by simp
  unfold forgetSilent
  simp only [hany]
  refine ite_congr rfl (fun hsil => ?_) fun _ => rfl
  refine testAgreement_idle _ ?_
  rcases h with hw | hnone | hq
  · exact .inl (by simpa [agreementWaiting] using hw)
  · obtain ⟨i, hi⟩ := hsil
    exact absurd hi (hnone i)
  · refine .inr ?_
    have hpeers : pacingPeers (rosterCheck (silentForgotten s)) = pacingPeers s :=
      (pacingPeers_congr (by simp) (by simp)).trans (pacingPeers_silentForgotten s)
    exact hpeers ▸ hq

/-- R45, R46, R48, R161: the station `u` that a CLEAR naming `cs`, PEER-LOST among them, makes of `t`. -/
structure ClearedWithPeers (cs : List FaultCode) (t u : State) : Prop where
  other : ∀ c : FaultCode, c ≠ .frameRoster → faultRec c u = clearedRec cs t c
  axisMark : u.flt.axisMark = if (faultRec .peerLost t).latched then false else t.flt.axisMark
  peers : ∀ i : Station, u.ptb.peers[i] =
    if t.ptb.peers[i].presence = .silent then { t.ptb.peers[i] with presence := .absent } else t.ptb.peers[i]
  roster : faultRec .frameRoster u =
    if t.ptb.joined = true ∧ (∃ i : Station, t.ptb.peers[i].presence = .silent) then
      (if rosterRight u then { faultRec .frameRoster t with latched := false }
      else raisedRec (faultRec .frameRoster t).action (octetSat (rosterCount .axisX u)) (octetSat (rosterCount .axisY u))
        (faultRec .frameRoster t))
    else clearedRec cs t .frameRoster
  supply : u.flt.supply = t.flt.supply
  joined : u.ptb.joined = t.ptb.joined
  frame : u = { t with flt := u.flt, ptb := u.ptb }

/-- R48: the roster check after a CLEAR: the roster it finds is the one the CLEAR found, so FRAME-ROSTER's condition is. -/
theorem clearedRec_frameRoster (cs : List FaultCode) (s : State) :
    (rosterRight s = true → { clearedRec cs s .frameRoster with latched := false } =
      { faultRec .frameRoster s with latched := false }) ∧
    (rosterRight s = false → clearedRec cs s .frameRoster = faultRec .frameRoster s) := by
  constructor <;> intro h <;> unfold clearedRec
  · split <;> rfl
  · rw [if_neg]
    simp [condition, h]

theorem forgetsQuietly_clearList (cs : List FaultCode) {s : State} (h : ForgetsQuietly s) :
    ForgetsQuietly (clearList cs s) := by
  have hpp : pacingPeers (clearList cs s) = pacingPeers s := pacingPeers_congr (by simp) (by simp)
  simpa [ForgetsQuietly, agreementWaiting, hpp] using h

/-- R46, R161: a CLEAR that names PEER-LOST takes the named faults, forgets the SILENT records and checks the roster. -/
theorem clearFaults_peers (cs : List FaultCode) (t : State) (hcs : .peerLost ∈ cs) (ht : ForgetsQuietly t) :
    ClearedWithPeers cs t (clearFaults cs t) := by
  have hfr := clearList_frame cs t
  have hpeers : (clearList cs t).ptb = t.ptb := by simp
  have hmark : (clearList cs t).flt.axisMark = if (faultRec .peerLost t).latched then false else t.flt.axisMark := by
    simp [clearList_axisMark, hcs]
  have heq : clearFaults cs t =
      if ∃ i : Station, t.ptb.peers[i].presence = .silent then rosterCheck (silentForgotten (clearList cs t))
      else silentForgotten (clearList cs t) := by
    rw [clearFaults, if_pos hcs, forgetSilent_eq _ (forgetsQuietly_clearList cs ht), hpeers]
  have hright : rosterRight (silentForgotten (clearList cs t)) = rosterRight t :=
    (rosterRight_silentForgotten _).trans (rosterRight_congr (by simp) (by simp) fun i => by simp)
  have hlist : ∀ c, faultRec c (silentForgotten (clearList cs t)) = clearedRec cs t c := fun c => faultRec_clearList c cs t
  have hforgot : ∀ i : Station, (silentForgotten (clearList cs t)).ptb.peers[i] =
      if t.ptb.peers[i].presence = .silent then { t.ptb.peers[i] with presence := .absent } else t.ptb.peers[i] := fun i => by
    rw [silentForgotten_peers, hpeers]
  have hjoined : (silentForgotten (clearList cs t)).ptb.joined = t.ptb.joined := by
    simp [silentForgotten]
  have hstate : silentForgotten (clearList cs t) =
      { t with flt := (clearList cs t).flt, ptb := (silentForgotten (clearList cs t)).ptb } := by
    rw [silentForgotten, hfr]
  by_cases hsil : ∃ i : Station, t.ptb.peers[i].presence = .silent
  · rw [heq, if_pos hsil]
    refine ⟨fun c hc => ?_, ?_, fun i => ?_, ?_, ?_, ?_, ?_⟩
    · rw [faultRec_rosterCheck_ne c _ hc, hlist]
    · exact (rosterCheck_marks _).2.trans hmark
    · rw [rosterCheck_ptb, hforgot]
    · have hcheck := rosterChecked_rosterCheck (w := silentForgotten (clearList cs t)) rfl rfl
      obtain ⟨hok, hwrong⟩ := clearedRec_frameRoster cs t
      simp only [RosterChecked, raisedIn, hjoined, hlist, rosterRight_rosterCheck, hright] at hcheck ⊢
      by_cases hj : t.ptb.joined = true
      · rw [if_pos hj] at hcheck
        rw [if_pos ⟨hj, hsil⟩]
        by_cases hr : rosterRight t = true
        · rw [if_pos hr] at hcheck
          rw [if_pos hr, hcheck, hok hr]
        · rw [if_neg hr, hwrong (by simpa using hr)] at hcheck
          rw [if_neg hr, hcheck]
      · rw [if_neg hj] at hcheck
        rw [if_neg fun h => hj h.1, hcheck]
    · exact (rosterCheck_marks _).1.trans (clearList_supply cs t)
    · rw [rosterCheck_ptb]
      exact hjoined
    · rw [rosterCheck_frame, hstate]
  · rw [heq, if_neg hsil]
    refine ⟨fun c _ => hlist c, hmark, hforgot, ?_, clearList_supply cs t, hjoined, hstate⟩
    rw [if_neg fun h => hsil h.2, hlist]

/-! ### CLEAR (R113, R161) -/

theorem exec_clear_accepted {f : OrderFrame} {lines : CodeLines} {k : ClearSet} {s t : State} (hj : judgedAt .all f s)
    (hargs : parseClear f.args = some k) (ho : ownerClear lines k (frameTaken f.src s) = .ok t) :
    exec (.clear f lines) s = .next (countAccepted t) :=
  takeOrder_accepted _ _ _ _ _ _ hj (by simpa [hargs, withArgs] using ho)

theorem unjam_freed {lines : CodeLines} {q : Nat} {s : State} (hs : s.slu.sel = .jammed)
    (hq : readCode s.params.needles s.slu.detent lines = some q) : unjam lines s = some (settleAt q s) := by
  simp [unjam, hs, hq]

theorem unjam_fails {lines : CodeLines} {s : State}
    (h : s.slu.sel ≠ .jammed ∨ readCode s.params.needles s.slu.detent lines = none) : unjam lines s = none := by
  rcases h with h | h <;> simp [unjam, h]

theorem ownerClear_codes {lines : CodeLines} {cs : List FaultCode} {s : State} (h : .selectorJam ∉ cs) :
    ownerClear lines (.codes cs) s = .ok (clearFaults cs s) := by
  simp [ownerClear, h]

theorem ownerClear_freed {lines : CodeLines} {cs : List FaultCode} {s t : State} (h : .selectorJam ∈ cs)
    (ht : unjam lines s = some t) : ownerClear lines (.codes cs) s = .ok (clearFaults cs t) := by
  simp [ownerClear, h, ht]

/-- R161: all names every fault, SELECTOR-JAM too where the selector is freed. -/
theorem ownerClear_all_freed {lines : CodeLines} {s t : State} (ht : unjam lines s = some t) :
    ∃ cs : List FaultCode, (∀ c, c ∈ cs) ∧ ownerClear lines .all s = .ok (clearFaults cs t) :=
  ⟨allFaults, mem_allFaults, by simp [ownerClear, ht]⟩

theorem ownerClear_all_jammed {lines : CodeLines} {s : State} (ht : unjam lines s = none) :
    ∃ cs : List FaultCode, (∀ c, c ∈ cs ↔ c ≠ .selectorJam) ∧ ownerClear lines .all s = .ok (clearFaults cs s) :=
  ⟨allFaults.filter fun c => c != .selectorJam, fun c => by simp [mem_allFaults], by simp [ownerClear, ht]⟩

/-- R161: without PEER-LOST the named faults are taken and nothing else. -/
theorem clearFaults_list {cs : List FaultCode} (h : .peerLost ∉ cs) (s : State) : clearFaults cs s = clearList cs s :=
  if_neg h

theorem clearList_axisMark_kept {cs : List FaultCode} (h : .peerLost ∉ cs) (s : State) :
    (clearList cs s).flt.axisMark = s.flt.axisMark := by
  simp [clearList_axisMark, h]

/-- R113: a freed selector takes the condition of SELECTOR-JAM away, and no other. -/
theorem condition_settleAt (c : FaultCode) (q : Nat) (s : State) :
    condition c (settleAt q s) = false ↔ c = .selectorJam ∨ condition c s = false := by
  by_cases hc : c = .selectorJam
  · subst hc
    exact ⟨fun _ => .inl rfl, fun _ => rfl⟩
  · have hsame : condition c (settleAt q s) = condition c s := by
      cases c with
      | selectorJam => exact absurd rfl hc
      | _ => rfl
    simp [hsame, hc]

theorem clearedRec_settleAt (cs : List FaultCode) (c : FaultCode) (q : Nat) (s : State) :
    clearedRec cs (settleAt q s) c =
      if c ∈ cs ∧ (faultRec c s).latched = true ∧ (c = .selectorJam ∨ condition c s = false) then
        { faultRec c s with latched := false }
      else faultRec c s :=
  if_congr (and_congr_right' (and_congr_right' (condition_settleAt c q s))) rfl rfl

theorem frameTaken_qualified (src i : Station) (s : State) :
    (frameTaken src s).ptb.peers[i].qualified = s.ptb.peers[i].qualified := by
  by_cases h : src = s.number
  · subst h
    rw [frameTaken_own]
    rfl
  · rw [frameTaken_peers src i s h]
    split <;> rfl

/-- R44: the frame of the order changes no presence and no qualified mark. -/
theorem forgetsQuietly_frameTaken (src : Station) {s : State} (h : ForgetsQuietly s) : ForgetsQuietly (frameTaken src s) := by
  rcases h with hw | hnone | ⟨p, hp, hq⟩
  · exact .inl (by simpa [agreementWaiting] using hw)
  · exact .inr (.inl fun i => by rw [frameTaken_presence]; exact hnone i)
  · obtain ⟨hn, hpres, hrec⟩ := mem_pacingPeers_iff.1 hp
    refine .inr (.inr ⟨(p.1, (frameTaken src s).ptb.peers[p.1]), mem_pacingPeers_iff.2 ⟨by simpa using hn, ?_, rfl⟩, ?_⟩)
    · rw [frameTaken_presence]
      exact hpres
    · rw [frameTaken_qualified, ← hrec]
      exact hq

/-- The selector has no part in what agreement waits for. -/
theorem forgetsQuietly_settleAt (q : Nat) {s : State} (h : ForgetsQuietly s) : ForgetsQuietly (settleAt q s) := h

/-- R46, R48: what such a CLEAR leaves, beside the records, of a station that has taken in its frame. -/
theorem ClearedWithPeers.overFrame {cs : List FaultCode} {src : Station} {s t u : State} (h : ClearedWithPeers cs t u)
    (hp : t.ptb = (frameTaken src s).ptb) (hf : t.flt = (frameTaken src s).flt) :
    (u.flt.axisMark = if (faultRec .peerLost (frameTaken src s)).latched then false else s.flt.axisMark) ∧
    (∀ i : Station, u.ptb.peers[i] = if s.ptb.peers[i].presence = .silent then
      { (frameTaken src s).ptb.peers[i] with presence := .absent } else (frameTaken src s).ptb.peers[i]) ∧
    (faultRec .frameRoster u = if s.ptb.joined = true ∧ (∃ i : Station, s.ptb.peers[i].presence = .silent) then
        (if rosterRight u then { faultRec .frameRoster (frameTaken src s) with latched := false }
        else raisedRec (faultRec .frameRoster (frameTaken src s)).action (octetSat (rosterCount .axisX u))
          (octetSat (rosterCount .axisY u)) (faultRec .frameRoster (frameTaken src s)))
      else clearedRec cs t .frameRoster) ∧
    u.flt.supply = s.flt.supply ∧ u.ptb.joined = s.ptb.joined := by
  have hrec := faultRec_congr hf
  obtain ⟨hsup, hmark⟩ := frameTaken_marks src s
  simp only [← frameTaken_presence src _ s, ← frameTaken_joined src s, ← hsup, ← hmark, ← hp, ← hf, ← hrec]
  exact ⟨h.axisMark, h.peers, h.roster, h.supply, h.joined⟩

/-- R159: the lasting conditions of the fault table, and the faults that have none. -/
theorem conditions_of_table (s : State) :
    condition .selfTest s = (faultRec .selfTest s).latched ∧
    condition .duplicateNumber s = (faultRec .duplicateNumber s).latched ∧
    (condition .supplyLow s = true ↔ s.flt.supply = .low ∨ s.flt.supply = .cut) ∧
    condition .needleStuck s = s.stu.needleHeld ∧
    (condition .driveFail s = true ↔ isAxis s = true ∧ s.axu.driveFault = true) ∧
    (condition .frameRoster s = true ↔ rosterCount .axisX s ≠ 1 ∨ rosterCount .axisY s ≠ 1) ∧
    (condition .notHomed s = true ↔ isAxis s = true ∧ s.axu.homing ≠ .homed) ∧
    (condition .originLost s = true ↔ isAxis s = true ∧ s.axu.originValid = false) ∧
    (condition .selectorJam s = true ↔ s.slu.sel = .jammed) ∧
    (condition .bobbinEmpty s = true ↔ s.thm.bobbin = some 0) ∧
    (condition .bobbinLow s = true ↔ ∃ b, s.thm.bobbin = some b ∧ b < s.params.bobbinWarn * 10000) ∧
    (condition .loadLockout s = true ↔ s.dld.state = .lockout) ∧
    (condition .supplyWarn s = true ↔ s.flt.supply ≠ .normal) ∧
    ∀ c ∈ [FaultCode.peerLost, .homeFail, .limitStitch, .needleUnmapped, .threadBreak, .threadSnag, .starved, .limitJump,
      .tensionLoose, .tensionTight, .outOfStep, .stall], condition c s = false := by
  refine ⟨rfl, rfl, ?_, rfl, ?_, ?_, ?_, ?_, ?_, ?_, ?_, ?_, ?_, ?_⟩
  case refine_3 =>
    simp only [condition, rosterRight]
    by_cases hx : rosterCount .axisX s = 1 <;> simp [hx]
  case refine_8 =>
    cases h : s.thm.bobbin with
    | none => simp [condition, h]
    | some b =>
      simp only [condition, h, bobbinWarnLevel, Option.some.injEq, exists_eq_left']
      exact decide_eq_true_iff
  case refine_11 =>
    intro c hc
    fin_cases hc <;> rfl
  all_goals simp [condition]

/-- Settles O23: codes without and with SELECTOR-JAM and PEER-LOST, then all. -/
theorem clearOrder : Obligations.ClearOrder := by
  refine ⟨fun f cs lines s hj ha hjam hpl => ?_, fun f cs lines s hj ha hjam hfail => ?_,
    fun f cs lines q s hj ha hjam hpl hsel hq => ?_, fun f cs lines s hj ha hjam hpl hw => ?_,
    fun f cs lines q s hj ha hjam hpl hsel hq hw => ?_, fun f lines s hj ha hfail hw => ?_,
    fun f lines q s hj ha hsel hq hw => ?_, fun s => ?_⟩
  · refine ⟨_, exec_clear_accepted hj ha (ownerClear_codes hjam), ?_⟩
    rw [clearFaults_list hpl]
    refine ⟨fun c => faultRec_clearList c cs _, ?_, ?_, ?_⟩
    · exact (clearList_supply cs _).trans (frameTaken_marks _ _).1
    · exact (clearList_axisMark_kept hpl _).trans (frameTaken_marks _ _).2
    · exact congrArg countAccepted (clearList_frame cs _)
  · exact takeOrder_refused _ _ _ _ _ _ hj
      (by simp [ha, withArgs, ownerClear, hjam,
        unjam_fails (s := frameTaken f.src s) (lines := lines) (by simpa using hfail)])
  · have hfree := unjam_freed (lines := lines) (q := q) (s := frameTaken f.src s) (by simpa using hsel) (by simpa using hq)
    have hrec := fun c => (faultRec_clearList c cs (settleAt q (frameTaken f.src s))).trans
      (clearedRec_settleAt cs c q (frameTaken f.src s))
    refine ⟨_, exec_clear_accepted hj ha (ownerClear_freed hjam hfree), ?_⟩
    rw [clearFaults_list hpl]
    refine ⟨?_, hrec, ?_, ?_, ?_⟩
    · refine (congrArg FaultRec.latched (hrec .selectorJam)).trans ?_
      split
      · rfl
      · simp_all
    · exact (clearList_supply cs _).trans (frameTaken_marks _ _).1
    · exact (clearList_axisMark_kept hpl _).trans (frameTaken_marks _ _).2
    · refine congrArg countAccepted ((clearList_frame cs _).trans ?_)
      simp [settleAt]
  · have h := clearFaults_peers cs _ hpl (forgetsQuietly_frameTaken f.src hw)
    obtain ⟨hmark, hpeers, hroster, hsup, hjoin⟩ := h.overFrame rfl rfl
    exact ⟨_, exec_clear_accepted hj ha (ownerClear_codes hjam), h.other, hmark, hpeers, hroster, hsup, hjoin,
      congrArg countAccepted h.frame⟩
  · have hfree := unjam_freed (lines := lines) (q := q) (s := frameTaken f.src s) (by simpa using hsel) (by simpa using hq)
    have h := clearFaults_peers cs _ hpl (forgetsQuietly_settleAt q (forgetsQuietly_frameTaken f.src hw))
    obtain ⟨hmark, hpeers, hroster, hsup, hjoin⟩ := h.overFrame rfl rfl
    refine ⟨_, exec_clear_accepted hj ha (ownerClear_freed hjam hfree),
      fun c hc => (h.other c hc).trans (clearedRec_settleAt cs c q _), hmark, hpeers, hroster, hsup, hjoin,
      congrArg countAccepted (h.frame.trans ?_)⟩
    simp [settleAt]
  · obtain ⟨cs, hcs, hok⟩ := ownerClear_all_jammed (unjam_fails (s := frameTaken f.src s) (lines := lines)
      (by simpa using hfail))
    have h := clearFaults_peers cs _ ((hcs _).2 (by decide)) (forgetsQuietly_frameTaken f.src hw)
    obtain ⟨hmark, hpeers, hroster, hsup, hjoin⟩ := h.overFrame rfl rfl
    refine ⟨_, exec_clear_accepted hj (by rw [ha]; rfl) hok, fun c hc => (h.other c hc).trans ?_,
      hmark, hpeers, hroster.trans ?_, hsup, hjoin, congrArg countAccepted h.frame⟩
    · exact if_congr (by rw [hcs]) rfl rfl
    · exact if_congr Iff.rfl rfl (if_congr (by simp [hcs]) rfl rfl)
  · obtain ⟨cs, hcs, hok⟩ := ownerClear_all_freed (unjam_freed (lines := lines) (q := q) (s := frameTaken f.src s)
      (by simpa using hsel) (by simpa using hq))
    have h := clearFaults_peers cs _ (hcs _) (forgetsQuietly_settleAt q (forgetsQuietly_frameTaken f.src hw))
    obtain ⟨hmark, hpeers, hroster, hsup, hjoin⟩ := h.overFrame rfl rfl
    refine ⟨_, exec_clear_accepted hj (by rw [ha]; rfl) hok,
      fun c hc => (h.other c hc).trans ((clearedRec_settleAt cs c q _).trans ?_), hmark, hpeers, hroster.trans ?_, hsup, hjoin,
      congrArg countAccepted (h.frame.trans ?_)⟩
    · exact if_congr (by simp [hcs]) rfl rfl
    · exact if_congr Iff.rfl rfl ((clearedRec_settleAt cs _ q _).trans (if_congr (by simp [hcs]) rfl rfl))
    · simp [settleAt]
  · exact conditions_of_table s

end Sys2Proof.Machine

namespace Sys2Proof.Machine

/-! ### The bands of a segment number (R61) -/

section
variable (pw nw : Nat) (v n : Byte)

/-- The octet difference is the difference modulo 256 of the rule. -/
theorem segmentDifference_eq : ((n.toNat : Int) - v.toNat) % 256 = (n - v).toNat := by bv_omega

/-- Counted down from V, the difference of the rule is the one counted up from V, reversed modulo 256. -/
theorem segmentDifference_reversed :
    ((v.toNat : Int) - n.toNat) % 256 = if (n - v).toNat = 0 then 0 else 256 - ((n - v).toNat : Int) := by
  split <;> bv_omega

/-- Where the widths do not meet, no segment number lies in both windows, so each band is a range of the difference. -/
theorem bandOf_windows (hp : 1 ≤ pw) (hn : nw ≤ 255) (hw : pw + nw ≤ 256) :
    (bandOf pw nw v n = .positive ↔ 1 ≤ (n - v).toNat ∧ (n - v).toNat < pw) ∧
    (bandOf pw nw v n = .negative ↔ 256 - nw ≤ (n - v).toNat) ∧
    (bandOf pw nw v n = .outside ↔ pw ≤ (n - v).toNat ∧ (n - v).toNat < 256 - nw) := by
  unfold bandOf
  generalize (n - v).toNat = d
  dsimp only
  split_ifs <;> simp <;> omega

end

/-- Settles O33: each band is a range of the octet difference, which is the rule's difference modulo 256. -/
theorem segmentNumberBands : Obligations.SegmentNumberBands := by
  refine ⟨fun pw nw v seg hp _ hn hw => ?_, by decide, by decide, by decide, by decide⟩
  have hd : (seg - v).toNat < 256 := (seg - v).isLt
  dsimp only
  obtain ⟨hpositive, hnegative, houtside⟩ := bandOf_windows pw nw v seg hp hn hw
  rw [segmentDifference_eq, segmentDifference_reversed, bandOf_expected_iff, hpositive, hnegative, houtside]
  refine ⟨by bv_omega, by omega, by omega, ?_, by omega⟩
  split <;> omega

end Sys2Proof.Machine

namespace Sys2Proof.Machine

/-! ### RESUME-LOAD and SETACTION (R74, R162) -/

/-- R161: unlatching changes the fault block alone. -/
theorem unlatch_frame (c : FaultCode) (s : State) : unlatch c s = { s with flt := (unlatch c s).flt } := by
  ext1 <;> simp

/-- R74: the loader OPEN again, with no lockout reason, no wait cause and RESEND clear. -/
def reopened (s : State) : State :=
  { s with dld := { s.dld with state := .opened, lockReason := .none, waitCause := .none, resend := false } }

/-- R74: the loader is reopened, and one in LOCKOUT releases LOAD-LOCKOUT with it. -/
theorem resumeLoader_cases (s : State) :
    (s.dld.state = .lockout ∧ resumeLoader s = unlatch .loadLockout (reopened s)) ∨
      (s.dld.state ≠ .lockout ∧ resumeLoader s = reopened s) := by
  unfold resumeLoader
  dsimp only
  split
  · exact .inl ⟨‹_›, rfl⟩
  · exact .inr ⟨‹_›, rfl⟩

/-- R74: a RESUME-LOAD writes the loader's and the fault unit's blocks alone. -/
theorem resumeLoader_frame (s : State) : resumeLoader s = { reopened s with flt := (resumeLoader s).flt } := by
  rcases resumeLoader_cases s with ⟨-, heq⟩ | ⟨-, heq⟩
  · rw [heq]
    exact unlatch_frame _ _
  · rw [heq]

theorem faultRec_resumeLoader_self (s : State) :
    faultRec .loadLockout (resumeLoader s) =
      if s.dld.state = .lockout then { faultRec .loadLockout s with latched := false } else faultRec .loadLockout s := by
  rcases resumeLoader_cases s with ⟨hl, heq⟩ | ⟨hl, heq⟩ <;> rw [heq]
  · rw [if_pos hl]
    exact faultRec_unlatch_self _ _
  · rw [if_neg hl]
    rfl

theorem faultRec_resumeLoader_ne (c : FaultCode) (s : State) (h : c ≠ .loadLockout) :
    faultRec c (resumeLoader s) = faultRec c s := by
  rcases resumeLoader_cases s with ⟨-, heq⟩ | ⟨-, heq⟩ <;> rw [heq]
  · exact faultRec_unlatch_ne _ _ _ h
  · rfl

theorem resumeLoader_marks (s : State) :
    (resumeLoader s).flt.supply = s.flt.supply ∧ (resumeLoader s).flt.axisMark = s.flt.axisMark := by
  rcases resumeLoader_cases s with ⟨-, heq⟩ | ⟨-, heq⟩ <;> rw [heq]
  · exact ⟨unlatch_supply _ _, unlatch_axisMark _ _ (by decide)⟩
  · exact ⟨rfl, rfl⟩

theorem ownerResume_halted (s : State) (h : s.pcu.run = .cut) : ownerResume () s = .error .halted := by
  simp [ownerResume, h]

theorem ownerResume_accepts (s : State) (h : s.pcu.run ≠ .cut) : ownerResume () s = .ok (resumeLoader s) := by
  simp [ownerResume, bne_iff_ne.mpr h]

/-- Settles O22: RESUME-LOAD is refused in CUT alone and otherwise does `resumeLoader`; SETACTION writes one record. -/
theorem resumeLoadAndSetactionOrders : Obligations.ResumeLoadAndSetactionOrders := by
  refine ⟨fun f s hj ha hrun => ?_, fun f s hj ha hrun => ?_, fun f q s hj hq => ?_⟩
  · exact takeOrder_refused _ _ _ _ _ _ hj (by simp [ha, parseNone, withArgs, ownerResume_halted, hrun])
  · have hok : withArgs (parseNone f.args) ownerResume (frameTaken f.src s) = .ok (resumeLoader (frameTaken f.src s)) := by
      simp [ha, parseNone, withArgs, ownerResume_accepts, hrun]
    obtain ⟨hsupply, hmark⟩ := resumeLoader_marks (frameTaken f.src s)
    obtain ⟨hsupply', hmark'⟩ := frameTaken_marks f.src s
    have hdld : (frameTaken f.src s).dld = s.dld := by simp
    refine ⟨_, takeOrder_accepted _ _ _ _ _ _ hj hok, ?_, fun c hc => faultRec_resumeLoader_ne c _ hc,
      hsupply.trans hsupply', hmark.trans hmark', ?_⟩
    · rw [← hdld]
      exact faultRec_resumeLoader_self _
    · rw [← hdld]
      exact congrArg countAccepted (resumeLoader_frame _)
  · have hok : withArgs (parseSetAction f.args) ownerSetaction (frameTaken f.src s) =
        .ok (setFault q.1 { faultRec q.1 (frameTaken f.src s) with action := q.2 } (frameTaken f.src s)) := by
      rw [hq]
      rfl
    obtain ⟨hsupply, hmark⟩ := frameTaken_marks f.src s
    exact ⟨_, takeOrder_accepted _ _ _ _ _ _ hj hok, faultRec_setFault_self _ _ _,
      fun c hc => faultRec_setFault_ne _ _ _ _ hc, hsupply, hmark, rfl⟩

end Sys2Proof.Machine

namespace Sys2Proof.Machine

/-! ### SETUP: every named parameter takes its value (R175, R189) -/

theorem allParams_nodup : allParams.Nodup := by decide

theorem paramOfOctet_eq_some {b : Byte} {q : Param} (h : paramOfOctet b = some q) :
    b.toNat ≠ 0 ∧ allParams[b.toNat - 1]? = some q := by
  unfold paramOfOctet at h
  split at h
  · cases h
  · rename_i hb
    exact ⟨fun hz => hb (BitVec.eq_of_toNat_eq hz), h⟩

/-- R189: no two octets number one parameter. -/
theorem paramOfOctet_inj {a b : Byte} {q : Param} (ha : paramOfOctet a = some q) (hb : paramOfOctet b = some q) : a = b := by
  obtain ⟨ha0, ha⟩ := paramOfOctet_eq_some ha
  obtain ⟨hb0, hb⟩ := paramOfOctet_eq_some hb
  have hlt := (List.getElem?_eq_some_iff.1 ha).1
  have := (List.getElem?_inj hlt allParams_nodup).1 (ha.trans hb.symm)
  exact BitVec.eq_of_toNat_eq (by omega)

theorem paramValue_setParam_self (ps : Params) (q : Param) (v : Int) (h : (paramRange q).1 ≤ v) :
    paramValue (setParam ps q v) q = v := by
  cases q <;> simp only [paramRange, setParam, paramValue] at h ⊢ <;> omega

theorem paramValue_setParam_ne (ps : Params) (q r : Param) (v : Int) (h : r ≠ q) :
    paramValue (setParam ps q v) r = paramValue ps r := by
  cases q <;> cases r
  any_goals rfl
  all_goals exact absurd rfl h

theorem entryOk_iff (e : SetupEntry) :
    entryOk e = true ↔ ∃ q, paramOfOctet e.1 = some q ∧ (paramRange q).1 ≤ e.2 ∧ e.2 ≤ (paramRange q).2 := by
  unfold entryOk
  split <;> simp_all

theorem applySetup_cons {e : SetupEntry} {q : Param} (hq : paramOfOctet e.1 = some q) (ps : Params) (es : List SetupEntry) :
    applySetup ps (e :: es) = applySetup (setParam ps q e.2) es := by
  simp only [applySetup, hq]

/-- R175: the value that an accepted list gives a parameter, or the one that it had. -/
theorem paramValue_applySetup (es : List SetupEntry) (q : Param) (ps : Params) (hok : ∀ e ∈ es, entryOk e = true)
    (hnd : (es.map Prod.fst).Nodup) :
    paramValue (applySetup ps es) q =
      ((es.find? fun e => paramOfOctet e.1 == some q).map Prod.snd).getD (paramValue ps q) := by
  induction es generalizing ps with
  | nil => rfl
  | cons e es ih =>
    obtain ⟨r, hr, hmin, -⟩ := (entryOk_iff e).1 (hok e (by simp))
    obtain ⟨hfresh, hnd⟩ := List.nodup_cons.1 hnd
    rw [applySetup_cons hr, ih _ (fun x hx => hok x (by simp [hx])) hnd]
    by_cases hq : r = q
    · subst hq
      have hnone : (es.find? fun x => paramOfOctet x.1 == some r) = none := by
        refine List.find?_eq_none.2 fun x hx hxr => hfresh ?_
        exact paramOfOctet_inj (beq_iff_eq.1 hxr) hr ▸ List.mem_map_of_mem hx
      simp [hnone, hr, paramValue_setParam_self ps r e.2 hmin]
    · simp [hr, hq, paramValue_setParam_ne ps r q e.2 (Ne.symm hq)]

theorem setupNames_iff (es : List SetupEntry) (qs : List Param) :
    setupNames es qs = true ↔ ∃ e ∈ es, ∃ q ∈ qs, paramOfOctet e.1 = some q := by
  unfold setupNames
  rw [List.any_eq_true]
  refine exists_congr fun e => and_congr_right fun _ => ?_
  split <;> simp_all

/-- R175: a parameter that the list does not name keeps its value. -/
theorem paramValue_applySetup_of_unnamed {es : List SetupEntry} {qs : List Param} {q : Param} (ps : Params)
    (hok : ∀ e ∈ es, entryOk e = true) (hnd : (es.map Prod.fst).Nodup) (hn : setupNames es qs = false) (hq : q ∈ qs) :
    paramValue (applySetup ps es) q = paramValue ps q := by
  have hnone : (es.find? fun e => paramOfOctet e.1 == some q) = none := by
    refine List.find?_eq_none.2 fun e he hx => ?_
    have hnamed := (setupNames_iff es qs).2 ⟨e, he, q, hq, beq_iff_eq.1 hx⟩
    simp [hn] at hnamed
  simp [paramValue_applySetup es q ps hok hnd, hnone]

theorem setupWellFormed_iff (es : List SetupEntry) :
    setupWellFormed es = true ↔ es ≠ [] ∧ (∀ e ∈ es, entryOk e = true) ∧ (es.map Prod.fst).Nodup := by
  simp [setupWellFormed, and_assoc]

/-! ### What an accepted SETUP does to the blocks (R84, R107) -/

theorem leaveHomed_homed {s : State} (h : s.axu.homing = .homed) : leaveHomed s = raise .notHomed 0 0 s := if_pos h

theorem leaveHomed_unhomed {s : State} (h : s.axu.homing ≠ .homed) : leaveHomed s = s := if_neg h

theorem faultRec_leaveHomed_ne (c : FaultCode) (s : State) (h : c ≠ .notHomed) :
    faultRec c (leaveHomed s) = faultRec c s := by
  unfold leaveHomed
  split
  · exact faultRec_raise_ne _ _ _ _ _ h
  · rfl

theorem leaveHomed_marks (s : State) :
    (leaveHomed s).flt.supply = s.flt.supply ∧ (leaveHomed s).flt.axisMark = s.flt.axisMark := by
  unfold leaveHomed
  split <;> exact ⟨rfl, rfl⟩

/-- R84, R107, R175: the station once a list has been taken. -/
def setupTaken (es : List SetupEntry) (s : State) : State :=
  setupSelector es (setupAxis es { s with params := applySetup s.params es })

/-- R84: the list makes the axis UNHOMED. -/
abbrev unhomes (es : List SetupEntry) (s : State) : Prop := isAxis s = true ∧ setupNames es homingParams = true

theorem setupAxis_unhomes {es : List SetupEntry} {s : State} (h : unhomes es s) :
    setupAxis es s = { leaveHomed s with axu := { s.axu with homing := .unhomed } } := by
  simp [setupAxis, h]

theorem setupAxis_keepsHoming {es : List SetupEntry} {s : State} (h : ¬ unhomes es s) : setupAxis es s = s :=
  if_neg (by simpa using h)

theorem setupAxis_axu (es : List SetupEntry) (s : State) :
    (setupAxis es s).axu = if unhomes es s then { s.axu with homing := .unhomed } else s.axu := by
  by_cases h : unhomes es s
  · rw [setupAxis_unhomes h, if_pos h]
  · rw [setupAxis_keepsHoming h, if_neg h]

theorem setupAxis_frame (es : List SetupEntry) (s : State) :
    setupAxis es s = { s with flt := (setupAxis es s).flt, axu := (setupAxis es s).axu } := by
  by_cases h : unhomes es s
  · rw [setupAxis_unhomes h]
    ext1 <;> simp
  · rw [setupAxis_keepsHoming h]

theorem setupSelector_frame (es : List SetupEntry) (s : State) :
    setupSelector es s = { s with
      slu := if isHead s = true ∧ setupNames es [.needles] = true then { s.slu with sel := .unknown } else s.slu } := by
  by_cases h : isHead s = true ∧ setupNames es [.needles] = true
  · simp [setupSelector, h]
  · rw [if_neg h]
    exact if_neg (by simpa using h)

theorem setupTaken_frame (es : List SetupEntry) (s : State) :
    setupTaken es s = { s with
      params := (setupTaken es s).params, flt := (setupTaken es s).flt
      axu := if unhomes es s then { s.axu with homing := .unhomed } else s.axu
      slu := if isHead s = true ∧ setupNames es [.needles] = true then { s.slu with sel := .unknown } else s.slu } := by
  simp only [setupTaken, setupSelector_frame]
  rw [setupAxis_frame, setupAxis_axu]
  rfl

theorem setupTaken_params (es : List SetupEntry) (s : State) : (setupTaken es s).params = applySetup s.params es := by
  rw [setupTaken, setupSelector_frame, setupAxis_frame]

theorem leaveHomed_flt_congr {s u : State} (ha : u.axu = s.axu) (hf : u.flt = s.flt) :
    (leaveHomed u).flt = (leaveHomed s).flt := by
  simp only [leaveHomed, raise, raiseAs, setFault, faultRec, ha, hf]
  split
  · rfl
  · exact hf

theorem setupTaken_flt (es : List SetupEntry) (s : State) :
    (setupTaken es s).flt = if unhomes es s then (leaveHomed s).flt else s.flt := by
  rw [setupTaken, setupSelector_frame]
  by_cases h : unhomes es s
  · rw [if_pos h, setupAxis_unhomes (s := { s with params := applySetup s.params es }) h]
    exact leaveHomed_flt_congr rfl rfl
  · rw [if_neg h, setupAxis_keepsHoming (s := { s with params := applySetup s.params es }) h]

theorem faultRec_setupTaken_ne (c : FaultCode) (es : List SetupEntry) (s : State) (h : c ≠ .notHomed) :
    faultRec c (setupTaken es s) = faultRec c s := by
  have hflt := setupTaken_flt es s
  split at hflt
  · exact (faultRec_congr hflt c).trans (faultRec_leaveHomed_ne c s h)
  · exact faultRec_congr hflt c

theorem setupTaken_marks (es : List SetupEntry) (s : State) :
    (setupTaken es s).flt.supply = s.flt.supply ∧ (setupTaken es s).flt.axisMark = s.flt.axisMark := by
  rw [setupTaken_flt]
  split
  · exact leaveHomed_marks s
  · exact ⟨rfl, rfl⟩

/-- R84: NOT-HOMED is raised where the list takes an axis out of HOMED, and no record changes where it does not. -/
theorem setupTaken_raises (es : List SetupEntry) (s : State) :
    if unhomes es s ∧ s.axu.homing = .homed then raisedIn .notHomed 0 0 s (setupTaken es s)
    else (setupTaken es s).flt = s.flt := by
  have hflt := setupTaken_flt es s
  by_cases h : unhomes es s
  · rw [if_pos h] at hflt
    by_cases hh : s.axu.homing = .homed
    · rw [if_pos ⟨h, hh⟩, raisedIn, faultRec_congr hflt, leaveHomed_homed hh]
      exact faultRec_raise_self _ _ _ _
    · rw [if_neg fun hc => hh hc.2, hflt, leaveHomed_unhomed hh]
  · rw [if_neg h] at hflt
    rw [if_neg fun hc => h hc.1, hflt]

theorem ownerSetup_accepts {es : List SetupEntry} {s : State} (hrun : s.pcu.run = .stopped) (hopen : s.ord.setupOpen = true)
    (hwf : setupWellFormed es = true) (hcons : setupConsistent (applySetup s.params es) = true) :
    ownerSetup es s = .ok (setupTaken es s) := by
  simp [ownerSetup, isStopped, hrun, hopen, hwf, hcons, setupTaken]

theorem setupWellFormed_eq_false {es : List SetupEntry}
    (h : es = [] ∨ (∃ e ∈ es, entryOk e = false) ∨ ¬ (es.map Prod.fst).Nodup) : setupWellFormed es = false := by
  refine Bool.eq_false_iff.2 fun hwf => ?_
  obtain ⟨hne, hok, hnd⟩ := (setupWellFormed_iff es).1 hwf
  rcases h with h | ⟨e, he, hbad⟩ | h
  · exact hne h
  · exact Bool.false_ne_true (hbad.symm.trans (hok e he))
  · exact h hnd

/-- Settles O24: the checks of SETUP in order, then each parameter's value and what the list does to axis and selector. -/
theorem setupOrder : Obligations.SetupOrder := by
  refine ⟨fun f es s hj hp hrun => ?_, fun f es s hj hp hrun hopen => ?_, fun f es s hj hp hrun hopen hbad => ?_,
    fun f es s hj hp hrun hopen hne hok hnd hcons => ?_, fun f es s hj hp hrun hopen hne hok hnd hcons => ?_⟩
  · exact takeOrder_refused _ _ _ _ _ _ hj (by simp [hp, withArgs, ownerSetup, isStopped, beq_false_of_ne hrun])
  · exact takeOrder_refused _ _ _ _ _ _ hj (by simp [hp, withArgs, ownerSetup, isStopped, hrun, hopen])
  · have hwf := setupWellFormed_eq_false hbad
    exact takeOrder_refused _ _ _ _ _ _ hj (by simp [hp, withArgs, ownerSetup, isStopped, hrun, hopen, hwf])
  · have hwf := (setupWellFormed_iff es).2 ⟨hne, hok, hnd⟩
    exact takeOrder_refused _ _ _ _ _ _ hj (by simp [hp, withArgs, ownerSetup, isStopped, hrun, hopen, hwf, hcons])
  · have hwf := (setupWellFormed_iff es).2 ⟨hne, hok, hnd⟩
    have hok' : withArgs (parseEntries f.args) ownerSetup (frameTaken f.src s) = .ok (setupTaken es (frameTaken f.src s)) := by
      rw [hp]
      exact ownerSetup_accepts (by simpa using hrun) (by simpa using hopen) hwf (by simpa using hcons)
    obtain ⟨hsupply, hmark⟩ := setupTaken_marks es (frameTaken f.src s)
    obtain ⟨hsupply', hmark'⟩ := frameTaken_marks f.src s
    have haxu : (frameTaken f.src s).axu = s.axu := by simp
    have hslu : (frameTaken f.src s).slu = s.slu := by simp
    have hparams : (setupTaken es (frameTaken f.src s)).params = applySetup s.params es := by
      rw [setupTaken_params, (frameTaken_keeps f.src s).2.2.2.2.2.1]
    have hframe := setupTaken_frame es (frameTaken f.src s)
    have hraises := setupTaken_raises es (frameTaken f.src s)
    simp only [unhomes, isAxis_frameTaken, isHead_frameTaken, haxu, hslu, and_assoc] at hframe hraises
    refine ⟨_, takeOrder_accepted _ _ _ _ _ _ hj hok', hmark.trans hmark', fun q => ?_, hraises,
      fun c hc => faultRec_setupTaken_ne c es _ hc, hsupply.trans hsupply', congrArg countAccepted hframe⟩
    exact (congrArg (paramValue · q) hparams).trans (paramValue_applySetup es q s.params hok hnd)

end Sys2Proof.Machine

namespace Sys2Proof.Machine

/-! ### The orders of the axis unit: HOME, MOVETO and ORIGIN (R81, R82, R85, R86) -/

theorem axisIdle_iff (s : State) : axisIdle s = true ↔ s.pcu.run = .stopped ∧ s.axu.op = none := by
  simp [axisIdle, isStopped]

theorem axisIdle_eq_false {s : State} (h : s.pcu.run ≠ .stopped ∨ s.axu.op.isSome = true) : axisIdle s = false := by
  refine Bool.eq_false_iff.2 fun hi => ?_
  obtain ⟨hrun, hop⟩ := (axisIdle_iff s).1 hi
  rcases h with h | h
  · exact h hrun
  · simp [hop] at h

@[simp] theorem axisIdle_frameTaken (src : Station) (s : State) : axisIdle (frameTaken src s) = axisIdle s := by
  simp [axisIdle, isStopped]

theorem ownerHome_accepts {s : State} (closed : Bool) (hidle : axisIdle s = true)
    (hhalt : s.pcu.haltSeen = false ∨ ownHaltAllowsHome s = true) :
    ownerHome closed () s = .ok (if closed then homingSuccess (startHoming closed s) else startHoming closed s) := by
  have hallowed : (!s.pcu.haltSeen || ownHaltAllowsHome s) = true := by simpa using hhalt
  simp [ownerHome, hidle, hallowed]

theorem startHoming_flt (closed : Bool) (s : State) : (startHoming closed s).flt = (leaveHomed s).flt :=
  leaveHomed_flt_congr rfl rfl

theorem startHoming_frame (closed : Bool) {s : State} {ps : Params} (hps : s.params = ps) :
    startHoming closed s = { s with
      flt := (startHoming closed s).flt, ord := { s.ord with setupOpen := false }
      axu := { s.axu with
        homing := .homing, op := some (.homing 0), homeSwitch := closed
        dir := some (if ps.homeDir = 0 then .negative else .positive) } } := by
  subst hps
  ext1 <;> simp [startHoming, closeSetup, homeDirOf]

/-- R82: with the switch seen closed at the order homing has succeeded. -/
theorem homedAtOnce_frame {s : State} {ps : Params} (hps : s.params = ps) :
    homingSuccess (startHoming true s) = { s with
      flt := (homingSuccess (startHoming true s)).flt, ord := { s.ord with setupOpen := false }
      axu := { s.axu with
        homing := .homed, op := none, homeSwitch := true, pf := ps.homeOffset
        sPos := ps.homeOffset * ps.p / 100, excursion := true
        dir := some (if ps.homeDir = 0 then .negative else .positive) } } := by
  subst hps
  rw [startHoming_frame true rfl]
  rfl

theorem faultRec_startHoming_ne (closed : Bool) (c : FaultCode) (s : State) (h : c ≠ .notHomed) :
    faultRec c (startHoming closed s) = faultRec c s :=
  (faultRec_congr (startHoming_flt closed s) c).trans (faultRec_leaveHomed_ne c s h)

theorem startHoming_marks (closed : Bool) (s : State) :
    (startHoming closed s).flt.supply = s.flt.supply ∧ (startHoming closed s).flt.axisMark = s.flt.axisMark := by
  rw [startHoming_flt]
  exact leaveHomed_marks s

/-- R82, R84: NOT-HOMED is raised where the axis was HOMED. -/
theorem startHoming_raises (closed : Bool) (s : State) :
    if s.axu.homing = .homed then raisedIn .notHomed 0 0 s (startHoming closed s)
    else faultRec .notHomed (startHoming closed s) = faultRec .notHomed s := by
  have hflt := startHoming_flt closed s
  split
  · rename_i h
    rw [raisedIn, faultRec_congr hflt, leaveHomed_homed h]
    exact faultRec_raise_self _ _ _ _
  · rename_i h
    rw [faultRec_congr hflt, leaveHomed_unhomed h]

theorem faultRec_homingSuccess_self (s : State) : (faultRec .notHomed (homingSuccess s)).latched = false := by
  rw [homingSuccess, faultRec_unlatch_self]

theorem faultRec_homingSuccess_ne (c : FaultCode) (s : State) (h : c ≠ .notHomed) :
    faultRec c (homingSuccess s) = faultRec c s := by
  rw [homingSuccess, faultRec_unlatch_ne _ _ _ h]
  rfl

/-- Settles O15: the checks of HOME in order, then homing begun or, at a closed switch, over. -/
theorem homeOrder : Obligations.HomeOrder := by
  refine ⟨fun f s closed hj ha hbusy => ?_, fun f s closed hj ha hrun hop hseen hown => ?_,
    fun f s hj ha hrun hop hhalt => ?_, fun f s hj ha hrun hop hhalt => ?_⟩
  · exact takeOrder_refused _ _ _ _ _ _ hj (by simp [ha, parseNone, withArgs, ownerHome, axisIdle_eq_false hbusy])
  · have hidle := (axisIdle_iff s).2 ⟨hrun, hop⟩
    exact takeOrder_refused _ _ _ _ _ _ hj (by simp [ha, parseNone, withArgs, ownerHome, hidle, hseen, hown])
  all_goals
    have haxu : (frameTaken f.src s).axu = s.axu := by simp
    have hps : (frameTaken f.src s).params = s.params := by simp
    obtain ⟨hsupply', hmark'⟩ := frameTaken_marks f.src s
    have hidle : axisIdle (frameTaken f.src s) = true := by simpa using (axisIdle_iff s).2 ⟨hrun, hop⟩
    have hhalt' : (frameTaken f.src s).pcu.haltSeen = false ∨ ownHaltAllowsHome (frameTaken f.src s) = true := by
      simpa using hhalt
  · have hok : withArgs (parseNone f.args) (ownerHome false) (frameTaken f.src s) =
        .ok (startHoming false (frameTaken f.src s)) := by
      rw [ha]
      exact ownerHome_accepts false hidle hhalt'
    obtain ⟨hsupply, hmark⟩ := startHoming_marks false (frameTaken f.src s)
    have hraises := startHoming_raises false (frameTaken f.src s)
    have hframe := startHoming_frame false hps
    rw [haxu] at hraises
    rw [haxu, frameTaken_ord] at hframe
    exact ⟨_, takeOrder_accepted _ _ _ _ _ _ hj hok, hmark.trans hmark', hraises,
      fun c hc => faultRec_startHoming_ne false c _ hc, hsupply.trans hsupply', congrArg countAccepted hframe⟩
  · have hok : withArgs (parseNone f.args) (ownerHome true) (frameTaken f.src s) =
        .ok (homingSuccess (startHoming true (frameTaken f.src s))) := by
      rw [ha]
      exact ownerHome_accepts true hidle hhalt'
    obtain ⟨hsupply, hmark⟩ := startHoming_marks true (frameTaken f.src s)
    have hframe := homedAtOnce_frame hps
    rw [haxu, frameTaken_ord] at hframe
    exact ⟨_, takeOrder_accepted _ _ _ _ _ _ hj hok, hmark.trans hmark', faultRec_homingSuccess_self _,
      fun c hc => (faultRec_homingSuccess_ne c _ hc).trans (faultRec_startHoming_ne true c _ hc), hsupply.trans hsupply',
      congrArg countAccepted hframe⟩

theorem ownerMoveto_accepts {s : State} (x : Int) (hidle : axisIdle s = true) (hseen : s.pcu.haltSeen = false) :
    ownerMoveto x s = .ok (startMoveto x s) := by
  simp [ownerMoveto, hidle, hseen]

/-- R86: a MOVETO that needs no step. -/
theorem startMoveto_there {x : Int} {s : State} {ps : Params} (hps : s.params = ps)
    (h : toSteps ps (clampPos ps x) = s.axu.sPos) :
    startMoveto x s = { s with
      ord := { s.ord with setupOpen := false }
      axu := { s.axu with
        sPos := toSteps ps (clampPos ps x), pf := clampPos ps x, op := none, excursion := true } } := by
  subst hps
  unfold startMoveto
  rw [if_pos (by simp [h])]
  rfl

/-- R86, R90: a MOVETO with steps to go. -/
theorem startMoveto_away {x : Int} {s : State} {ps : Params} (hps : s.params = ps)
    (h : toSteps ps (clampPos ps x) ≠ s.axu.sPos) :
    startMoveto x s = { s with
      ord := { s.ord with setupOpen := false }
      axu := { s.axu with
        op := some (.moveto (clampPos ps x) (toSteps ps (clampPos ps x)) (toSteps ps (clampPos ps x) - s.axu.sPos) 0)
        dir := some (dirOf (toSteps ps (clampPos ps x) - s.axu.sPos)) } } := by
  subst hps
  unfold startMoveto
  rw [if_neg (by omega)]
  rfl

/-- Settles O16: the checks of MOVETO in order, then its target reached at once or its operation begun. -/
theorem movetoOrder : Obligations.MovetoOrder := by
  refine ⟨fun f a b s hj ha hbusy => ?_, fun f a b s hj ha hrun hop hseen => ?_,
    fun f a b s hj ha hrun hop hseen hst => ?_, fun f a b s hj ha hrun hop hseen hst => ?_⟩
  · exact takeOrder_refused _ _ _ _ _ _ hj (by simp [ha, parseS16, withArgs, ownerMoveto, axisIdle_eq_false hbusy])
  · have hidle := (axisIdle_iff s).2 ⟨hrun, hop⟩
    exact takeOrder_refused _ _ _ _ _ _ hj (by simp [ha, parseS16, withArgs, ownerMoveto, hidle, hseen])
  all_goals
    have haxu : (frameTaken f.src s).axu = s.axu := by simp
    have hps : (frameTaken f.src s).params = s.params := by simp
    have hok : withArgs (parseS16 f.args) ownerMoveto (frameTaken f.src s) =
        .ok (startMoveto (signed16 a b) (frameTaken f.src s)) := by
      rw [ha]
      exact ownerMoveto_accepts _ (by simpa using (axisIdle_iff s).2 ⟨hrun, hop⟩) (by simpa using hseen)
    refine (takeOrder_accepted _ _ _ _ _ _ hj hok).trans ?_
  · rw [startMoveto_there hps (by rw [haxu]; exact hst), haxu, frameTaken_ord]
    rfl
  · rw [startMoveto_away hps (by rw [haxu]; exact hst), haxu, frameTaken_ord]
    rfl

/-- R85: the axis unit once its origin has been set. -/
def originSet (c : Cursor) (a : AxisUnit) : AxisUnit :=
  { a with pc := a.pf, originPos := a.pf, originCursor := c, originValid := true, excursion := false, clampFlag := false }

theorem setOrigin_frame {s : State} {c : Cursor} (hc : s.pcu.cursor = c) :
    setOrigin s = { s with flt := (setOrigin s).flt, axu := originSet c s.axu } := by
  subst hc
  rfl

theorem faultRec_setOrigin_self (s : State) :
    faultRec .originLost (setOrigin s) = { faultRec .originLost s with latched := false } := by
  rw [setOrigin, faultRec_unlatch_self]
  rfl

theorem faultRec_setOrigin_ne (c : FaultCode) (s : State) (h : c ≠ .originLost) :
    faultRec c (setOrigin s) = faultRec c s := by
  rw [setOrigin, faultRec_unlatch_ne _ _ _ h]
  rfl

theorem setOrigin_marks (s : State) :
    (setOrigin s).flt.supply = s.flt.supply ∧ (setOrigin s).flt.axisMark = s.flt.axisMark := ⟨rfl, rfl⟩

/-- Settles O17: the checks of ORIGIN in order, then the origin at the frame position. -/
theorem originOrder : Obligations.OriginOrder := by
  refine ⟨fun f s hj ha hbusy => ?_, fun f s hj ha hrun hop hh => ?_, fun f s hj ha hrun hop hh => ?_⟩
  · exact takeOrder_refused _ _ _ _ _ _ hj (by simp [ha, parseNone, withArgs, ownerOrigin, axisIdle_eq_false hbusy])
  · have hidle := (axisIdle_iff s).2 ⟨hrun, hop⟩
    exact takeOrder_refused _ _ _ _ _ _ hj (by simp [ha, parseNone, withArgs, ownerOrigin, hidle, beq_false_of_ne hh])
  · have hidle := (axisIdle_iff s).2 ⟨hrun, hop⟩
    have hok : withArgs (parseNone f.args) ownerOrigin (frameTaken f.src s) = .ok (setOrigin (frameTaken f.src s)) := by
      simp [ha, parseNone, withArgs, ownerOrigin, hidle, hh]
    have haxu : (frameTaken f.src s).axu = s.axu := by simp
    obtain ⟨hsupply, hmark⟩ := setOrigin_marks (frameTaken f.src s)
    obtain ⟨hsupply', hmark'⟩ := frameTaken_marks f.src s
    have hframe := setOrigin_frame (congrArg PaceUnit.cursor (frameTaken_pcu f.src s))
    rw [haxu] at hframe
    exact ⟨_, takeOrder_accepted _ _ _ _ _ _ hj hok, faultRec_setOrigin_self _, fun c hc => faultRec_setOrigin_ne c _ hc,
      hsupply.trans hsupply', hmark.trans hmark', congrArg countAccepted hframe⟩

end Sys2Proof.Machine

namespace Sys2Proof.Machine

/-! ### What the law of the axis rests on (R79, R87, R175) -/

theorem clampPos_of_within {ps : Params} {x : Int} (hmin : ps.lmin ≤ x) (hmax : x ≤ ps.lmax) : clampPos ps x = x := by
  rw [clampPos, max_eq_left hmin, min_eq_right hmax]

theorem clampPos_within {ps : Params} (h : ps.lmin ≤ ps.lmax) (x : Int) :
    ps.lmin ≤ clampPos ps x ∧ clampPos ps x ≤ ps.lmax :=
  ⟨le_min h (le_max_right x ps.lmin), min_le_left _ _⟩

theorem clampPos_clampPos {ps : Params} (h : ps.lmin ≤ ps.lmax) (x : Int) : clampPos ps (clampPos ps x) = clampPos ps x :=
  clampPos_of_within (clampPos_within h x).1 (clampPos_within h x).2

/-- R175: the travel limits lie in order, with HOME_OFFSET between them. -/
theorem setupConsistent_limits {ps : Params} (h : setupConsistent ps = true) :
    ps.lmin ≤ ps.lmax ∧ clampPos ps ps.homeOffset = ps.homeOffset := by
  simp only [setupConsistent, Bool.and_eq_true, decide_eq_true_eq] at h
  obtain ⟨⟨⟨-, hlt⟩, -⟩, hmin, hmax⟩ := h
  exact ⟨hlt.le, clampPos_of_within hmin hmax⟩

theorem isAxis_congr {s u : State} (h : u.role = s.role) : isAxis u = isAxis s := by
  simp only [isAxis, h]

/-- R79, R87: where the axis stands, if it is HOMED. -/
abbrev placeLaw (ps : Params) (a : AxisUnit) : Prop :=
  a.homing = .homed →
    a.pf = clampPos ps a.pf ∧ a.sPos = toSteps ps a.pf ∧ (a.excursion = false → a.pf = clampPos ps a.pc)

/-- An operation is in flight only in PREPARING. -/
theorem axisLaw.op_eq_none_of_win {s : State} (h : axisLaw s) (hx : isAxis s = true) (hw : s.pcu.win ≠ .preparing) :
    s.axu.op = none := by
  obtain ⟨-, -, -, hop⟩ := h hx
  exact Option.eq_none_iff_forall_not_mem.2 fun o ho => hw (hop o ho).2.2

/-- R174: an operation is in flight only with the setup window closed. -/
theorem axisLaw.op_eq_none_of_open {s : State} (h : axisLaw s) (hx : isAxis s = true) (ho : s.ord.setupOpen = true) :
    s.axu.op = none := by
  obtain ⟨-, -, -, hop⟩ := h hx
  exact Option.eq_none_iff_forall_not_mem.2 fun o hmem => Bool.false_ne_true ((hop o hmem).2.1.symm.trans ho)

/-- R25: a window move is in flight only in an open window. -/
theorem Lawful.move_eq_none {s : State} (h : Lawful s) (hw : s.pcu.win ≠ .opened) : s.axu.move = none := by
  have hwork := h.work_eq_false hw
  simp only [workInFlight, Bool.or_eq_false_iff, Option.isSome_eq_false_iff, Option.isNone_iff_eq_none] at hwork
  exact hwork.1.1.1

theorem Lawful.opened_of_move {s : State} {m : AxisMove} (h : Lawful s) (hm : s.axu.move = some m) : s.pcu.win = .opened := by
  by_contra hw
  simp [h.move_eq_none hw] at hm

/-! ### Updates that leave the axis as it stands -/

/-- The items of the axis unit that its law ties together. -/
def axisBody (a : AxisUnit) : Homing × Int × Int × Option AxisMove × Option AxisOp := (a.homing, a.pf, a.sPos, a.move, a.op)

/-- R55: the axis unit keeps its place, its move and its operation; where Pc moves the axis is on an excursion. -/
def AxisStays (a b : AxisUnit) : Prop :=
  axisBody b = axisBody a ∧ (b.excursion = false → a.excursion = false ∧ b.pc = a.pc)

theorem AxisStays.refl (a : AxisUnit) : AxisStays a a := ⟨rfl, fun h => ⟨h, rfl⟩⟩

theorem AxisStays.trans {a b c : AxisUnit} (h : AxisStays a b) (k : AxisStays b c) : AxisStays a c := by
  refine ⟨k.1.trans h.1, fun hc => ?_⟩
  obtain ⟨hb, hpc⟩ := k.2 hc
  exact ⟨(h.2 hb).1, hpc.trans (h.2 hb).2⟩

/-- An update that leaves the axis where it stands, opens no setup window, and leaves PREPARING only without an operation. -/
structure AxisQuiet (s u : State) : Prop where
  role : u.role = s.role
  params : u.params = s.params
  axis : AxisStays s.axu u.axu
  setup : s.ord.setupOpen = false → u.ord.setupOpen = false
  win : isAxis s = true → s.axu.op ≠ none → s.pcu.win = .preparing → u.pcu.win = .preparing

theorem AxisQuiet.trans {s t u : State} (h : AxisQuiet s t) (k : AxisQuiet t u) : AxisQuiet s u where
  role := k.role.trans h.role
  params := k.params.trans h.params
  axis := h.axis.trans k.axis
  setup := k.setup ∘ h.setup
  win := fun hx ho hw => by
    obtain ⟨hbody, -⟩ := h.axis
    simp only [axisBody, Prod.mk.injEq] at hbody
    obtain ⟨-, -, -, -, hop⟩ := hbody
    exact k.win (isAxis_congr h.role ▸ hx) (hop ▸ ho) (h.win hx ho hw)

/-- An update that leaves role, parameters, order decoder and axis unit alone. -/
theorem AxisQuiet.of_keeps {s u : State} (hk : u.role = s.role ∧ u.params = s.params ∧ u.ord = s.ord ∧ u.axu = s.axu)
    (hw : s.pcu.win = .preparing → u.pcu.win = .preparing) : AxisQuiet s u := by
  obtain ⟨hrole, hparams, hord, haxu⟩ := hk
  exact ⟨hrole, hparams, by rw [haxu]; exact .refl _, by rw [hord]; exact id, fun _ _ => hw⟩

theorem AxisQuiet.refl (s : State) : AxisQuiet s s := .of_keeps ⟨rfl, rfl, rfl, rfl⟩ id

/-- An update of the axis unit's other items. -/
theorem AxisQuiet.of_axis {s u : State} (hk : u.role = s.role ∧ u.params = s.params ∧ u.ord = s.ord ∧ u.pcu = s.pcu)
    (ha : AxisStays s.axu u.axu) : AxisQuiet s u := by
  obtain ⟨hrole, hparams, hord, hpcu⟩ := hk
  exact ⟨hrole, hparams, ha, by rw [hord]; exact id, fun _ _ => by rw [hpcu]; exact id⟩

theorem AxisQuiet.axisLaw {s u : State} (h : AxisQuiet s u) (hs : axisLaw s) : axisLaw u := by
  intro hx
  have hxs : isAxis s = true := isAxis_congr h.role ▸ hx
  obtain ⟨hbody, hpc⟩ := h.axis
  simp only [axisBody, Prod.mk.injEq] at hbody
  obtain ⟨hhoming, hpf, hsPos, hmove, hop⟩ := hbody
  obtain ⟨hcons, hplace, hmoves, hops⟩ := hs hxs
  simp only [h.params, hhoming, hpf, hsPos, hmove, hop]
  refine ⟨hcons, fun hh => ?_, hmoves, fun o ho => ?_⟩
  · obtain ⟨hwithin, hsteps, hstands⟩ := hplace hh
    refine ⟨hwithin, hsteps, fun he => ?_⟩
    obtain ⟨hes, hpcs⟩ := hpc he
    exact hpcs ▸ hstands hes
  · obtain ⟨hlaw, hclosed, hwin⟩ := hops o ho
    exact ⟨hlaw, h.setup hclosed, h.win hxs (by simp [Option.mem_def.1 ho]) hwin⟩

/-! ### Quiet operations -/

theorem axisQuiet_raise (c : FaultCode) (d1 d2 : Byte) (s : State) : AxisQuiet s (raise c d1 d2 s) :=
  .of_keeps (by simp) (by simp)

theorem axisQuiet_rosterCheck (s : State) : AxisQuiet s (rosterCheck s) := .of_keeps (by simp) (by simp)

theorem axisQuiet_frameTaken (src : Station) (s : State) : AxisQuiet s (frameTaken src s) := .of_keeps (by simp) (by simp)

theorem axisQuiet_setCursor (c : Cursor) (s : State) : AxisQuiet s (setCursor c s) :=
  .of_keeps (by simp) (by simp [setCursor_pcu])

theorem axisQuiet_enterStopped (reason : StopReason) (s : State) : AxisQuiet s (enterStopped reason s) :=
  .of_keeps (by simp) fun _ => (enterStopped_pace reason s).2.1

theorem axisQuiet_tryFinish (s : State) : AxisQuiet s (tryFinish s) := by
  unfold tryFinish
  split
  · split
    · exact axisQuiet_enterStopped _ s
    · exact .of_keeps ⟨rfl, rfl, rfl, rfl⟩ fun _ => rfl
  · exact .refl s

/-- R26: an axis becomes READY only without an operation. -/
theorem axisQuiet_becomeReady (w : WindowRec) (s : State) (hm : mayBecomeReady s = true) : AxisQuiet s (becomeReady w s) := by
  refine ⟨rfl, rfl, .refl _, id, fun hx hop _ => absurd ?_ hop⟩
  obtain ⟨-, -, -, -, -, -, hready⟩ := (mayBecomeReady_iff s).1 hm
  simp only [roleReady, isHead_eq_false_of_isAxis hx, Bool.false_eq_true, if_false, Bool.and_eq_true,
    Option.isNone_iff_eq_none] at hready
  exact hready.2

theorem axisQuiet_tryReady (s : State) : AxisQuiet s (tryReady s) := by
  rcases tryReady_cases s with e | ⟨hm, w, -, e⟩ | ⟨-, r, -, -, e⟩ | ⟨-, r, -, -, e⟩ <;> rw [e]
  · exact .refl s
  · exact axisQuiet_becomeReady w s hm
  · exact (axisQuiet_setCursor _ s).trans (axisQuiet_enterStopped _ _)
  · exact axisQuiet_enterStopped _ s

theorem axisQuiet_settle (s : State) : AxisQuiet s (settle s) := by
  have hwatch : ∀ t, AxisQuiet t (starveWatch t) := fun t => .of_keeps (by simp) (by simp [starveWatch_eq])
  exact ((axisQuiet_tryFinish s).trans (axisQuiet_tryReady _)).trans (hwatch _)

theorem AxisQuiet.settle {s u : State} (h : AxisQuiet s u) : AxisQuiet s (settle u) := h.trans (axisQuiet_settle u)

/-- R55, R56: an axis that follows an adopted cursor goes on an excursion, and one that cannot loses its origin alone. -/
theorem axisStays_axisAfter (c : Cursor) (s : State) : AxisStays s.axu (axisAfter c s) := by
  unfold axisAfter
  split
  · split
    · exact ⟨rfl, fun h => absurd h (by simp)⟩
    · exact ⟨rfl, fun h => ⟨h, rfl⟩⟩
  · exact .refl _

theorem axisQuiet_takeChosen (s : State) : AxisQuiet s (takeChosen s) := by
  have haxu : AxisStays s.axu (takeChosen s).axu := by
    by_cases hown : chooseCursor s.pcu.cursor (qualifiedCursors s) = s.pcu.cursor
    · rw [takeChosen_own s hown]
      exact .refl _
    · rw [takeChosen_axu _ s rfl hown]
      exact axisStays_axisAfter _ s
  exact ⟨by simp, by simp, haxu, by simp, fun _ _ => by simp [takeChosen_pcu]⟩

theorem axisQuiet_fixTarget (s : State) : AxisQuiet s (fixTarget s) := by
  cases htv : s.pcu.traversal with
  | none => rw [fixTarget_none s htv]; exact .refl s
  | some t =>
    cases ht : t.target with
    | some c => rw [fixTarget_fixed t s htv (by simp [ht])]; exact .refl s
    | none =>
      have hw : AxisQuiet s (withTarget t (targetOf t s.drg s.pcu.cursor) s) := .of_keeps ⟨rfl, rfl, rfl, rfl⟩ id
      rw [fixTarget_unfixed t s htv ht]
      split
      · exact hw.trans (axisQuiet_enterStopped _ _)
      · exact hw

theorem axisQuiet_completeAgreement (s : State) : AxisQuiet s (completeAgreement s) :=
  ((axisQuiet_takeChosen s).trans (axisQuiet_fixTarget _)).settle

theorem axisQuiet_testAgreement (s : State) : AxisQuiet s (testAgreement s) := by
  unfold testAgreement
  split
  · exact axisQuiet_completeAgreement s
  · exact .refl s

theorem axisQuiet_completeJoining (lines : CodeLines) (s : State) : AxisQuiet s (completeJoining lines s) :=
  .of_keeps (by simp [completeJoining_eq]) fun _ => (completeJoining_place lines s).2.2.2.2.1

theorem axisQuiet_haltMoving (s : State) : AxisQuiet s (haltMoving s) := by
  have hpend : AxisQuiet s (pendHalted s) := .of_keeps ⟨rfl, rfl, rfl, rfl⟩ id
  unfold haltMoving
  dsimp only
  split
  · exact .of_keeps ⟨rfl, rfl, rfl, rfl⟩ id
  · exact hpend.trans (axisQuiet_enterStopped _ _)
  · exact .of_keeps ⟨rfl, rfl, rfl, rfl⟩ id

/-- R23: an opening, but for the window's work, finds the station READY. -/
theorem axisQuiet_openingOf (w : WindowRec) (s : State) (hw : s.pcu.win = .ready) : AxisQuiet s (openingOf w s) := by
  refine .of_keeps ?_ fun h => absurd (h.symm.trans hw) (by simp)
  rw [openingOf_frame]
  exact ⟨rfl, rfl, rfl, rfl⟩

theorem axisQuiet_clearFresh (cs : List FaultCode) (s : State) : AxisQuiet s (clearFresh cs s) := by
  rw [(clearFresh_frame cs s).1]
  exact .of_keeps ⟨rfl, rfl, rfl, rfl⟩ id

theorem axisQuiet_deliverFaults (cs : List FaultCode) (s : State) : AxisQuiet s (deliverFaults cs s) := by
  rw [(deliverFaults_frame cs s).1]
  exact .of_keeps ⟨rfl, rfl, rfl, rfl⟩ id

theorem axisQuiet_ringTest (seg : Segment) (s : State) : AxisQuiet s (ringTest seg s) := by
  have hprune : AxisQuiet s { s with drg := prune s.pcu.cursor.n (colorCount seg.records) s.drg } :=
    .of_keeps ⟨rfl, rfl, rfl, rfl⟩ id
  rcases ringTest_cases seg s with ⟨cause, -, e⟩ | ⟨-, -, e⟩
  · rw [e]
    exact hprune.trans (.of_keeps (by simp) (by simp))
  · have happ : ∀ t, AxisQuiet t (appended seg t) := fun t => .of_keeps ⟨rfl, rfl, rfl, rfl⟩ id
    rw [e, appendSegment_eq]
    exact (hprune.trans (happ _)).settle

theorem axisQuiet_judgeDesign (body : List Byte) (s : State) : AxisQuiet s (judgeDesign body s) := by
  unfold judgeDesign
  split
  · exact .refl s
  · split
    · rename_i seg _
      rcases judgeSegment_cases seg s with e | ⟨-, e⟩ | ⟨reason, -, e⟩ | ⟨-, -, e⟩ <;> rw [e]
      · exact .refl s
      · exact .of_keeps ⟨rfl, rfl, rfl, rfl⟩ id
      · exact .of_keeps (by simp) (by simp)
      · exact axisQuiet_ringTest seg s
    · exact .refl s

theorem axisQuiet_takeBeacon (src : Station) (body : List Byte) (s : State) : AxisQuiet s (takeBeacon src body s) := by
  have hpeer : ∀ p, AxisQuiet s (setPeer src p s) := fun p => .of_keeps (by simp) (by simp)
  unfold takeBeacon
  split
  · exact .refl s
  · unfold dropPeer
    dsimp only
    split
    · exact ((hpeer _).trans (axisQuiet_rosterCheck _)).trans (axisQuiet_testAgreement _)
    · exact .refl s
  · have hroster : ∀ b t, AxisQuiet t (rosterIfChanged b t) := fun b t => .of_keeps (by simp) (by simp)
    exact ((hpeer _).trans (hroster _ _)).trans (axisQuiet_testAgreement _)

theorem axisQuiet_silencePeer (n : Station) (s : State) : AxisQuiet s (silencePeer n s) := by
  have hpeer : AxisQuiet s (setPeer n { s.ptb.peers[n] with presence := .silent, age := Config.silentAgeMs } s) :=
    .of_keeps (by simp) (by simp)
  have hlost : ∀ r t, AxisQuiet t (raisePeerLost n r t) := fun r t => .of_keeps (by simp) (by simp)
  exact ((hpeer.trans (hlost _ _)).trans (axisQuiet_rosterCheck _)).trans (axisQuiet_testAgreement _)

end Sys2Proof.Machine

namespace Sys2Proof.Machine

/-! ### What homing, MOVETO and a window move leave of the law (R82, R86, R88 to R93) -/

/-- R93: the end of a window move, at its target. -/
theorem axisLaw_endMove {pcNew pt st : Int} {s : State} (h : axisLaw s) (hop : isAxis s = true → s.axu.op = none)
    (hpt : isAxis s = true → pt = clampPos s.params pcNew ∧ st = toSteps s.params pt) : axisLaw (endMove pcNew pt st s) := by
  intro hx
  obtain ⟨hcons, -, -, -⟩ := h hx
  obtain ⟨hclamp, hst⟩ := hpt hx
  refine ⟨hcons, fun _ => ⟨?_, hst, fun _ => hclamp⟩, by simp [endMove], by simp [endMove, hop hx]⟩
  change pt = clampPos s.params pt
  rw [hclamp, clampPos_clampPos (setupConsistent_limits hcons).1]

/-- R88 to R93: a window move of an axis without an operation, over at once or begun. -/
theorem axisLaw_windowMove (pcRaw : Int) (base : Nat) (fault : Option FaultCode) {s : State} (h : axisLaw s)
    (hw : s.pcu.win ≠ .preparing) : axisLaw (windowMove pcRaw base fault s) := by
  intro hx
  have hkeeps := windowMove_keeps pcRaw base fault s
  have hrole : (windowMove pcRaw base fault s).role = s.role := hkeeps.2.2.1
  have hparams : (windowMove pcRaw base fault s).params = s.params := hkeeps.2.2.2.2.2.1
  have hxs : isAxis s = true := isAxis_congr hrole ▸ hx
  obtain ⟨hcons, hplace, -, -⟩ := h hxs
  have hop := h.op_eq_none_of_win hxs hw
  rw [hparams, windowMove_axu]
  dsimp only
  split
  · refine ⟨hcons, fun _ => ⟨?_, rfl, fun _ => rfl⟩, by simp, by simp [hop]⟩
    exact (clampPos_clampPos (setupConsistent_limits hcons).1 _).symm
  · rename_i hd
    refine ⟨hcons, hplace, fun m hm => ?_, by simp [hop]⟩
    obtain rfl := Option.some.inj hm
    exact ⟨rfl, rfl, rfl, Int.natAbs_pos.2 hd⟩

theorem axisLaw_axisWork (w : WindowRec) {s : State} (h : axisLaw s) (hw : s.pcu.win ≠ .preparing) :
    axisLaw (axisWork w s) := by
  unfold axisWork
  dsimp only
  split
  · exact axisLaw_windowMove _ _ _ h hw
  · exact axisLaw_windowMove _ _ _ h hw
  · exact axisLaw_windowMove _ _ _ h hw
  · exact axisLaw_windowMove _ _ _ h hw
  · exact h
  · exact h
  · exact h

/-- R82: homing succeeds at an axis without a window move. -/
theorem axisLaw_homingSuccess {s : State} (h : axisLaw s) (hm : s.axu.move = none) : axisLaw (homingSuccess s) := by
  intro hx
  obtain ⟨hcons, -, -, -⟩ := h hx
  refine ⟨hcons, fun _ => ⟨(setupConsistent_limits hcons).2.symm, rfl, nofun⟩, ?_, ?_⟩
  · intro m hmem
    simp [homingSuccess, hm] at hmem
  · intro o ho
    simp [homingSuccess] at ho

/-- R86: the end of a MOVETO, at its target, at an axis without a window move. -/
theorem axisLaw_movetoEnd {pt st : Int} {s : State} (h : axisLaw s) (hm : s.axu.move = none)
    (hpt : isAxis s = true → pt = clampPos s.params pt ∧ st = toSteps s.params pt) : axisLaw (movetoEnd pt st s) := by
  intro hx
  obtain ⟨hcons, -, -, -⟩ := h hx
  obtain ⟨hclamp, hst⟩ := hpt hx
  exact ⟨hcons, fun _ => ⟨hclamp, hst, nofun⟩, by simp [movetoEnd, hm], by simp [movetoEnd]⟩

theorem axisLaw_startHoming (closed : Bool) {s : State} (h : axisLaw s) (hw : s.pcu.win = .preparing) :
    axisLaw (startHoming closed s) := by
  rw [startHoming_frame closed rfl]
  intro hx
  obtain ⟨hcons, -, hmove, -⟩ := h hx
  refine ⟨hcons, nofun, hmove, fun o ho => ?_⟩
  obtain rfl := Option.some.inj ho
  exact ⟨Nat.zero_le _, rfl, hw⟩

theorem axisLaw_startMoveto (x : Int) {s : State} (h : axisLaw s) (hw : s.pcu.win = .preparing) (hm : s.axu.move = none) :
    axisLaw (startMoveto x s) := by
  by_cases hst : toSteps s.params (clampPos s.params x) = s.axu.sPos
  · rw [startMoveto_there rfl hst]
    intro hx
    obtain ⟨hcons, -, -, -⟩ := h hx
    have hclamp := clampPos_clampPos (setupConsistent_limits hcons).1 x
    exact ⟨hcons, fun _ => ⟨hclamp.symm, rfl, nofun⟩, by simp [hm], by simp⟩
  · rw [startMoveto_away rfl hst]
    intro hx
    obtain ⟨hcons, hplace, -, -⟩ := h hx
    have hclamp := clampPos_clampPos (setupConsistent_limits hcons).1 x
    refine ⟨hcons, hplace, by simp [hm], fun o ho => ?_⟩
    obtain rfl := Option.some.inj ho
    exact ⟨⟨hclamp.symm, rfl, rfl, Int.natAbs_pos.2 (sub_ne_zero.2 hst)⟩, rfl, hw⟩

/-- R85: with its origin at Pf the axis stands at Pc. -/
theorem axisLaw_setOrigin {s : State} (h : axisLaw s) : axisLaw (setOrigin s) := by
  rw [setOrigin_frame rfl]
  intro hx
  obtain ⟨hcons, hplace, hmove, hop⟩ := h hx
  refine ⟨hcons, fun hh => ?_, hmove, hop⟩
  obtain ⟨hclamp, hst, -⟩ := hplace hh
  exact ⟨hclamp, hst, fun _ => hclamp⟩

theorem placeLaw_congr {ps qs : Params} {a : AxisUnit} (hp : qs.p = ps.p) (hmin : qs.lmin = ps.lmin)
    (hmax : qs.lmax = ps.lmax) (h : placeLaw ps a) : placeLaw qs a := by
  simpa only [placeLaw, clampPos, toSteps, hp, hmin, hmax] using h

/-- R84, R175: a list that names no homing parameter leaves the place of the axis as it is; any other makes it UNHOMED. -/
theorem axisLaw_setupTaken {es : List SetupEntry} {s : State} (h : axisLaw s) (hm : s.axu.move = none)
    (hopen : s.ord.setupOpen = true) (hwf : setupWellFormed es = true)
    (hcons : setupConsistent (applySetup s.params es) = true) : axisLaw (setupTaken es s) := by
  obtain ⟨-, hok, hnd⟩ := (setupWellFormed_iff es).1 hwf
  rw [setupTaken_frame, setupTaken_params]
  intro hx
  obtain ⟨-, hplace, -, -⟩ := h hx
  have hop := h.op_eq_none_of_open hx hopen
  by_cases hu : unhomes es s
  · simp only [if_pos hu]
    exact ⟨hcons, nofun, by simp [hm], by simp [hop]⟩
  · simp only [if_neg hu]
    have hunnamed : setupNames es homingParams = false := Bool.eq_false_iff.2 fun hn => hu ⟨hx, hn⟩
    have hkept := fun q => paramValue_applySetup_of_unnamed (q := q) s.params hok hnd hunnamed
    have hp : (applySetup s.params es).p = s.params.p := Int.ofNat.inj (hkept .p (by decide))
    exact ⟨hcons, placeLaw_congr hp (hkept .lmin (by decide)) (hkept .lmax (by decide)) hplace, by simp [hm], by simp [hop]⟩

/-- R100: the entry into CUT drops a move and an operation. -/
theorem axisLaw_enterCut {s : State} (h : axisLaw s) : axisLaw (enterCut s) := by
  intro hx
  obtain ⟨hcons, hplace, -, -⟩ := h hx
  exact ⟨hcons, hplace, by simp [enterCut, cutAxis], by simp [enterCut, cutAxis]⟩

/-- R101: a restart leaves the axis UNHOMED, without a move or an operation. -/
theorem axisLaw_restartValues (fromCut : Bool) (level : SupplyLevel) {s : State} (h : axisLaw s) :
    axisLaw (restartValues fromCut level s) := by
  intro hx
  obtain ⟨hcons, -, -, -⟩ := h hx
  exact ⟨hcons, nofun, nofun, nofun⟩

end Sys2Proof.Machine

namespace Sys2Proof.Machine

/-! ### Orders keep the law of the axis (R81, R85, R86, R175, R178) -/

/-- An update that keeps the law of the axis at a station that meets the laws of the pace unit. -/
def AxisKept (s u : State) : Prop := Lawful s → axisLaw s → axisLaw u

theorem AxisQuiet.kept {s u : State} (h : AxisQuiet s u) : AxisKept s u := fun _ => h.axisLaw

theorem AxisKept.refl (s : State) : AxisKept s s := fun _ => id

/-- A quiet update after one that keeps the law. -/
theorem AxisKept.quiet {s t u : State} (h : AxisKept s t) (k : AxisQuiet t u) : AxisKept s u := fun hl ha =>
  k.axisLaw (h hl ha)

theorem AxisKept.settle {s u : State} (h : AxisKept s u) : AxisKept s (settle u) := h.quiet (axisQuiet_settle u)

theorem axisKept_onService {f : State → State} {s t : State} (hf : AxisKept s (f s)) (ht : onService f s = .next t) :
    AxisKept s t := by
  unfold onService at ht
  cases ht
  split
  · exact hf
  · exact .refl s

theorem axisKept_onFrame {src : Station} {f : State → State} {s t : State} (hf : ∀ s, AxisKept s (f s))
    (ht : onFrame src f s = .next t) : AxisKept s t := by
  refine axisKept_onService ?_ ht
  split
  · exact fun hl ha => hf _ (kept_frameTaken src s hl).1 ((axisQuiet_frameTaken src s).axisLaw ha)
  · exact .refl s

/-- An order keeps the law where its accepted effect does. -/
theorem axisKept_takeOrder {kind : Byte} {fit : RoleFit} {f : OrderFrame} {owner : State → Verdict} {s t : State}
    (ho : ∀ s u, owner s = .ok u → AxisKept s u) (ht : takeOrder kind fit f owner s = .next t) : AxisKept s t := by
  refine axisKept_onFrame (fun s => ?_) ht
  have hord : ∀ (t : State) (o : OrderDecoder), o.setupOpen = t.ord.setupOpen → AxisQuiet t { t with ord := o } :=
    fun t o h => ⟨rfl, rfl, .refl _, fun hs => h.trans hs, fun _ _ => id⟩
  unfold judgeOrder
  split
  · exact .refl s
  · exact (hord s _ rfl).kept
  · split
    · rename_i u hu
      exact (ho s u hu).quiet (hord u _ rfl)
    · exact (hord s _ rfl).kept

theorem axisKept_ownerArgs {α : Type} {kind : Byte} {fit : RoleFit} {f : OrderFrame} {args : Option α}
    {owner : α → State → Verdict} {s t : State} (ho : ∀ a s u, owner a s = .ok u → AxisKept s u)
    (ht : takeOrder kind fit f (withArgs args owner) s = .next t) : AxisKept s t :=
  axisKept_takeOrder (fun s u hu => by
    obtain ⟨a, -, hu⟩ := withArgs_ok.1 hu
    exact ho a s u hu) ht

theorem axisKept_ownerRun (a : Unit) (s u : State) (ho : ownerRun a s = .ok u) : AxisKept s u := by
  simp only [ownerRun, require_ok, Except.ok.injEq] at ho
  obtain ⟨-, -, -, -, rfl⟩ := ho
  have hstart : AxisQuiet s (startRun s) := ⟨rfl, rfl, .refl _, fun _ => rfl, fun _ _ _ => rfl⟩
  exact hstart.settle.kept

theorem axisKept_ownerTraverse (d : TravDir) (k : Nat) (s u : State) (ho : ownerTraverse d k s = .ok u) : AxisKept s u := by
  simp only [ownerTraverse, require_ok, Except.ok.injEq] at ho
  obtain ⟨-, -, -, -, rfl⟩ := ho
  have hstart : AxisQuiet s (startTraversal d k s) := ⟨rfl, rfl, .refl _, fun _ => rfl, fun _ _ _ => rfl⟩
  unfold fixUnlessWaiting
  split
  · exact hstart.settle.kept
  · exact (hstart.trans (axisQuiet_fixTarget _)).settle.kept

theorem axisKept_ownerStop (a : Unit) (s u : State) (ho : ownerStop a s = .ok u) : AxisKept s u := by
  simp only [ownerStop, require_ok, Except.ok.injEq] at ho
  obtain ⟨-, rfl⟩ := ho
  unfold acceptStop
  dsimp only
  split
  · exact (AxisQuiet.of_keeps ⟨rfl, rfl, rfl, rfl⟩ id).kept
  · exact (AxisQuiet.of_keeps ⟨rfl, rfl, rfl, rfl⟩ id).kept

theorem axisKept_ownerHome (closed : Bool) (a : Unit) (s u : State) (ho : ownerHome closed a s = .ok u) : AxisKept s u := by
  simp only [ownerHome, require_ok, axisIdle_iff, Except.ok.injEq] at ho
  obtain ⟨⟨hrun, -⟩, -, rfl⟩ := ho
  intro hl ha
  have hwin := hl.preparing_of_rest (.inl hrun)
  have hstart := axisLaw_startHoming closed ha hwin
  split
  · refine axisLaw_homingSuccess hstart ?_
    rw [startHoming_frame closed rfl]
    exact hl.move_eq_none (by simp [hwin])
  · exact hstart

theorem axisKept_ownerMoveto (x : Int) (s u : State) (ho : ownerMoveto x s = .ok u) : AxisKept s u := by
  simp only [ownerMoveto, require_ok, axisIdle_iff, Except.ok.injEq] at ho
  obtain ⟨⟨hrun, -⟩, -, rfl⟩ := ho
  intro hl ha
  have hwin := hl.preparing_of_rest (.inl hrun)
  exact axisLaw_startMoveto x ha hwin (hl.move_eq_none (by simp [hwin]))

theorem axisKept_ownerOrigin (a : Unit) (s u : State) (ho : ownerOrigin a s = .ok u) : AxisKept s u := by
  simp only [ownerOrigin, require_ok, Except.ok.injEq] at ho
  obtain ⟨-, -, rfl⟩ := ho
  exact fun _ => axisLaw_setOrigin

theorem axisKept_ownerSetup (es : List SetupEntry) (s u : State) (ho : ownerSetup es s = .ok u) : AxisKept s u := by
  simp only [ownerSetup, require_ok, isStopped, beq_iff_eq, Except.ok.injEq] at ho
  obtain ⟨hrun, hopen, hwf, hcons, rfl⟩ := ho
  intro hl ha
  have hwin := hl.preparing_of_rest (.inl hrun)
  exact axisLaw_setupTaken ha (hl.move_eq_none (by simp [hwin])) hopen hwf hcons

theorem axisKept_ownerBobbin (b : Nat) (s u : State) (ho : ownerBobbin b s = .ok u) : AxisKept s u := by
  simp only [ownerBobbin, require_ok, Except.ok.injEq] at ho
  obtain ⟨-, rfl⟩ := ho
  have hload : AxisQuiet s (loadBobbin b s) := .of_keeps (by simp [loadBobbin]) (by simp [loadBobbin])
  split
  · exact (hload.trans (axisQuiet_raise _ _ _ _)).kept
  · exact hload.kept

/-- R73: a new design takes an axis its origin and nothing else. -/
theorem axisQuiet_newDesignRole (r : Nat) (s : State) : AxisQuiet s (newDesignRole r s) := by
  unfold newDesignRole
  split
  · exact .of_keeps ⟨rfl, rfl, rfl, rfl⟩ id
  · split
    · exact .of_axis ⟨rfl, rfl, rfl, rfl⟩ ⟨rfl, fun h => ⟨h, rfl⟩⟩
    · exact .refl s

theorem axisKept_ownerSetseg (q : SetSeg) (s u : State) (ho : ownerSetseg q s = .ok u) : AxisKept s u := by
  simp only [ownerSetseg, require_ok, Except.ok.injEq] at ho
  obtain ⟨-, -, -, -, rfl⟩ := ho
  have hseat : AxisQuiet s (reseat q s) := .of_keeps ⟨rfl, rfl, rfl, rfl⟩ id
  have hagree : ∀ t, AxisQuiet t (beginAgreement t) := fun t => .of_keeps ⟨rfl, rfl, rfl, rfl⟩ id
  split
  · exact (((hseat.trans (axisQuiet_setCursor _ _)).trans (axisQuiet_newDesignRole _ _)).trans (hagree _)).kept
  · exact hseat.kept

theorem axisKept_ownerResume (a : Unit) (s u : State) (ho : ownerResume a s = .ok u) : AxisKept s u := by
  simp only [ownerResume, require_ok, Except.ok.injEq] at ho
  obtain ⟨-, rfl⟩ := ho
  rw [resumeLoader_frame]
  exact (AxisQuiet.of_keeps ⟨rfl, rfl, rfl, rfl⟩ id).kept

theorem axisQuiet_clearFaults (cs : List FaultCode) (s : State) : AxisQuiet s (clearFaults cs s) := by
  have hlist : AxisQuiet s (clearList cs s) := .of_keeps (by simp) (by simp)
  have hforgotten : ∀ t : State, AxisQuiet t { t with ptb := { t.ptb with
      peers := vmap (fun p => if p.presence = .silent then { p with presence := .absent } else p) t.ptb.peers } } :=
    fun t => .of_keeps ⟨rfl, rfl, rfl, rfl⟩ id
  unfold clearFaults forgetSilent
  dsimp only
  split
  · split
    · exact ((hlist.trans (hforgotten _)).trans (axisQuiet_rosterCheck _)).trans (axisQuiet_testAgreement _)
    · exact hlist.trans (hforgotten _)
  · exact hlist

theorem axisQuiet_unjam (lines : CodeLines) (s u : State) (hu : unjam lines s = some u) : AxisQuiet s u := by
  unfold unjam at hu
  split at hu
  · obtain ⟨q, -, rfl⟩ := Option.map_eq_some_iff.1 hu
    exact .of_keeps ⟨rfl, rfl, rfl, rfl⟩ id
  · cases hu

theorem axisKept_ownerClear (lines : CodeLines) (c : ClearSet) (s u : State) (ho : ownerClear lines c s = .ok u) :
    AxisKept s u := by
  unfold ownerClear at ho
  split at ho
  · split at ho
    · split at ho
      · rename_i t ht
        exact Except.ok.inj ho ▸ ((axisQuiet_unjam lines s t ht).trans (axisQuiet_clearFaults _ _)).kept
      · cases ho
    · exact Except.ok.inj ho ▸ (axisQuiet_clearFaults _ s).kept
  · split at ho
    · rename_i t ht
      exact Except.ok.inj ho ▸ ((axisQuiet_unjam lines s t ht).trans (axisQuiet_clearFaults _ _)).kept
    · exact Except.ok.inj ho ▸ (axisQuiet_clearFaults _ s).kept

theorem axisQuiet_beginJoining (s : State) : AxisQuiet s (beginJoining s) := .of_keeps ⟨rfl, rfl, rfl, rfl⟩ id

theorem axisKept_ownerRestart (mv : Nat) (a : Unit) (s u : State) (ho : ownerRestart mv a s = .ok u) : AxisKept s u := by
  obtain rfl := Except.ok.inj ho
  intro _ ha
  have hlevel : ∀ t, AxisQuiet t (raiseStartingLevel t) := fun t => .of_keeps (by simp) (by simp)
  have hjoin := ((axisQuiet_beginJoining _).trans (hlevel _)).axisLaw (axisLaw_restartValues false (startingLevel mv) ha)
  unfold restartByOrder
  dsimp only
  split
  · exact axisLaw_enterCut hjoin
  · exact hjoin

theorem axisKept_ownerRate (r : Nat) (s u : State) (ho : ownerRate r s = .ok u) : AxisKept s u :=
  Except.ok.inj ho ▸ (AxisQuiet.of_keeps ⟨rfl, rfl, rfl, rfl⟩ id).kept

theorem axisKept_ownerSetmap (ps : List (Nat × Nat)) (s u : State) (ho : ownerSetmap ps s = .ok u) : AxisKept s u := by
  simp only [ownerSetmap, require_ok, Except.ok.injEq] at ho
  exact ho.2.2 ▸ (AxisQuiet.of_keeps ⟨rfl, rfl, rfl, rfl⟩ id).kept

theorem axisKept_ownerSetneedle (q : SetNeedle) (s u : State) (ho : ownerSetneedle q s = .ok u) : AxisKept s u := by
  simp only [ownerSetneedle, require_ok, Except.ok.injEq] at ho
  exact ho.2 ▸ (AxisQuiet.of_keeps ⟨rfl, rfl, rfl, rfl⟩ id).kept

theorem axisKept_ownerHead (p : Participation) (a : Unit) (s u : State) (ho : ownerHead p a s = .ok u) : AxisKept s u :=
  Except.ok.inj ho ▸ (AxisQuiet.of_keeps ⟨rfl, rfl, rfl, rfl⟩ id).kept

theorem axisKept_ownerSetaction (q : FaultCode × Action) (s u : State) (ho : ownerSetaction q s = .ok u) : AxisKept s u :=
  Except.ok.inj ho ▸ (AxisQuiet.of_keeps ⟨rfl, rfl, rfl, rfl⟩ id).kept

theorem axisKept_execUnknownOrder {code : Byte} {f : OrderFrame} {s t : State} (ht : execUnknownOrder code f s = .next t) :
    AxisKept s t := by
  unfold execUnknownOrder at ht
  split at ht
  · cases ht
    exact .refl s
  · exact axisKept_takeOrder (fun _ _ ho => by cases ho) ht

end Sys2Proof.Machine

namespace Sys2Proof.Machine

/-! ### Events that leave the axis as it stands -/

theorem AxisKept.of_quiet {f : State → State} {s t : State} (ht : onService f s = .next t) (hf : AxisQuiet s (f s)) :
    AxisKept s t := axisKept_onService hf.kept ht

/-- An event that acts only under a condition. -/
theorem AxisQuiet.ite {c : Prop} [Decidable c] {s u : State} (h : c → AxisQuiet s u) :
    AxisQuiet s (if c then u else s) := by
  split
  · rename_i hc
    exact h hc
  · exact .refl s

/-! The line interface and the peers (R44 to R47, R180 to R186). -/

theorem axisKept_execBeaconReceived {src : Station} {body : List Byte} {s t : State}
    (ht : execBeaconReceived src body s = .next t) : AxisKept s t := by
  refine axisKept_onFrame (fun s => ?_) ht
  split
  · exact .refl s
  · exact (axisQuiet_takeBeacon src body s).kept

theorem axisKept_execPeerAgeExpiry {n : Station} {s t : State} (ht : execPeerAgeExpiry n s = .next t) : AxisKept s t := by
  refine .of_quiet ht ?_
  split
  · exact .refl s
  · split
    · exact axisQuiet_silencePeer n s
    · exact .of_keeps ⟨rfl, rfl, rfl, rfl⟩ id

theorem axisKept_execBeaconTimer {s t : State} (ht : execBeaconTimer s = .next t) : AxisKept s t :=
  .of_quiet ht (.of_keeps (by simp) (by simp))

theorem axisKept_execTransmitAttempt {s t : State} (ht : execTransmitAttempt s = .next t) : AxisKept s t := by
  refine .of_quiet ht (.ite fun _ => ?_)
  have hstart : ∀ tx t, AxisQuiet t (startTx tx t) := fun tx t => .of_keeps ⟨rfl, rfl, rfl, rfl⟩ id
  split
  · exact (axisQuiet_clearFresh _ s).trans (hstart _ _)
  · split
    · exact .ite fun _ => hstart _ s
    · exact .refl s

theorem axisKept_execArbitrationLost {s t : State} (ht : execArbitrationLost s = .next t) : AxisKept s t := by
  refine .of_quiet ht ?_
  dsimp only
  split
  · exact .of_keeps ⟨rfl, rfl, rfl, rfl⟩ id
  · exact .refl s

theorem axisKept_execCollision {s t : State} (ht : execCollision s = .next t) : AxisKept s t := by
  refine .of_quiet ht ?_
  dsimp only
  split
  · split
    · exact .of_keeps ⟨rfl, rfl, rfl, rfl⟩ id
    · exact .of_keeps ⟨rfl, rfl, rfl, rfl⟩ id
  · exact .refl s

theorem axisKept_execFrameSent {s t : State} (ht : execFrameSent s = .next t) : AxisKept s t := by
  refine .of_quiet ht ?_
  dsimp only
  split
  · have hend : AxisQuiet s { s with liu := { s.liu with tx := none, framer := .waitIdle, collisions := 0 } } :=
      .of_keeps ⟨rfl, rfl, rfl, rfl⟩ id
    split
    · exact hend.trans (axisQuiet_deliverFaults _ _)
    · exact .of_keeps ⟨rfl, rfl, rfl, rfl⟩ id
  · exact .refl s

theorem axisKept_execFrameAbandoned {s t : State} (ht : execFrameAbandoned s = .next t) : AxisKept s t := by
  refine .of_quiet ht ?_
  dsimp only
  split
  · exact .refl s
  · exact .of_keeps ⟨rfl, rfl, rfl, rfl⟩ id

theorem axisKept_execLineIdle {s t : State} (ht : execLineIdle s = .next t) : AxisKept s t := by
  refine .of_quiet ht ?_
  dsimp only
  split
  · exact .refl s
  · exact .of_keeps ⟨rfl, rfl, rfl, rfl⟩ id

/-! The pace unit (R21, R23, R32 to R37, R51, R53). -/

theorem axisKept_execJoiningListenEnd {lines : CodeLines} {s t : State} (ht : execJoiningListenEnd lines s = .next t) :
    AxisKept s t :=
  .of_quiet ht (.ite fun _ => axisQuiet_completeJoining lines s)

theorem axisKept_execGuardEnd {s t : State} (ht : execGuardEnd s = .next t) : AxisKept s t :=
  .of_quiet ht (.ite fun _ => .of_keeps ⟨rfl, rfl, rfl, rfl⟩ id)

theorem axisKept_execMinAssertionEnd {s t : State} (ht : execMinAssertionEnd s = .next t) : AxisKept s t :=
  .of_quiet ht (.ite fun _ => .settle (.of_keeps ⟨rfl, rfl, rfl, rfl⟩ id))

theorem axisKept_execHaltSeenAsserted {s t : State} (ht : execHaltSeenAsserted s = .next t) : AxisKept s t := by
  refine .of_quiet ht ?_
  have hseen : AxisQuiet s { s with pcu := { s.pcu with haltSeen := true } } := .of_keeps ⟨rfl, rfl, rfl, rfl⟩ id
  dsimp only
  split
  · exact hseen.trans (axisQuiet_haltMoving _)
  · exact hseen

theorem axisKept_execHaltSeenReleased {s t : State} (ht : execHaltSeenReleased s = .next t) : AxisKept s t :=
  .of_quiet ht (.settle (.of_keeps ⟨rfl, rfl, rfl, rfl⟩ id))

theorem axisKept_execHaltWaitExpiry {s t : State} (ht : execHaltWaitExpiry s = .next t) : AxisKept s t :=
  .of_quiet ht (.ite fun _ => axisQuiet_enterStopped _ s)

theorem axisKept_execHaltPulseEnd {s t : State} (ht : execHaltPulseEnd s = .next t) : AxisKept s t :=
  .of_quiet ht (.of_keeps ⟨rfl, rfl, rfl, rfl⟩ id)

theorem axisKept_execStarveTimerExpiry {s t : State} (ht : execStarveTimerExpiry s = .next t) : AxisKept s t :=
  .of_quiet ht (.ite fun _ => .of_keeps ⟨rfl, rfl, rfl, rfl⟩ id)

theorem axisKept_execStallTimerExpiry {s t : State} (ht : execStallTimerExpiry s = .next t) : AxisKept s t :=
  .of_quiet ht (.ite fun _ => .of_keeps ⟨rfl, rfl, rfl, rfl⟩ id)

theorem axisKept_execAgreementTimerExpiry {s t : State} (ht : execAgreementTimerExpiry s = .next t) : AxisKept s t :=
  .of_quiet ht (.ite fun _ => axisQuiet_completeAgreement s)

/-! The selector (R108 to R113, R118). -/

theorem axisKept_execTrimPulseEnd {lines : CodeLines} {s t : State} (ht : execTrimPulseEnd lines s = .next t) :
    AxisKept s t :=
  .of_quiet ht (.ite fun _ => .settle (.of_keeps (by simp) (by simp)))

theorem axisKept_execDetentPulse {s t : State} (ht : execDetentPulse s = .next t) : AxisKept s t := by
  refine .of_quiet ht (.ite fun _ => ?_)
  dsimp only
  split
  · exact .settle (.of_keeps (by simp) (by simp))
  · exact .settle (.of_keeps (by simp) (by simp))
  · exact .of_keeps ⟨rfl, rfl, rfl, rfl⟩ id

theorem axisKept_execDetentReleased {s t : State} (ht : execDetentReleased s = .next t) : AxisKept s t := by
  refine .of_quiet ht (.ite fun _ => ?_)
  dsimp only
  split
  · exact .settle (.of_keeps ⟨rfl, rfl, rfl, rfl⟩ id)
  · exact .of_keeps ⟨rfl, rfl, rfl, rfl⟩ id

theorem axisKept_execSelMoveLimitExpiry {s t : State} (ht : execSelMoveLimitExpiry s = .next t) : AxisKept s t := by
  refine .of_quiet ht ?_
  split
  · exact .ite fun _ => .settle (.of_keeps (by simp) (by simp))
  · exact .refl s

theorem axisKept_execSelSettleExpiry {lines : CodeLines} {s t : State} (ht : execSelSettleExpiry lines s = .next t) :
    AxisKept s t := by
  refine .of_quiet ht ?_
  split
  · exact .ite fun _ => .settle (.of_keeps (by simp) (by simp))
  · exact .refl s

/-! The stroke unit and the thread monitor (R126 to R134). -/

theorem axisKept_execNeedleDownSeen {s t : State} (ht : execNeedleDownSeen s = .next t) : AxisKept s t := by
  refine .of_quiet ht (.ite fun _ => ?_)
  dsimp only
  split
  · exact .of_keeps ⟨rfl, rfl, rfl, rfl⟩ id
  · exact .of_keeps ⟨rfl, rfl, rfl, rfl⟩ id

theorem axisKept_execNeedleDownReleased {s t : State} (ht : execNeedleDownReleased s = .next t) : AxisKept s t :=
  .of_quiet ht (.ite fun _ => .of_keeps ⟨rfl, rfl, rfl, rfl⟩ id)

theorem axisQuiet_needleReachesTop (s : State) : AxisQuiet s (needleReachesTop s) := by
  unfold needleReachesTop
  dsimp only
  split
  · exact .of_keeps (by simp) (by simp)
  · exact .of_keeps ⟨rfl, rfl, rfl, rfl⟩ id

theorem axisKept_execNeedleUpSeen {s t : State} (ht : execNeedleUpSeen s = .next t) : AxisKept s t := by
  refine .of_quiet ht (.ite fun _ => ?_)
  have hup : AxisQuiet s { s with stu := { s.stu with needleUp := true, needleHeld := false } } :=
    .of_keeps ⟨rfl, rfl, rfl, rfl⟩ id
  dsimp only
  split
  · exact (hup.trans (axisQuiet_needleReachesTop _)).settle
  · exact .settle (.of_keeps ⟨rfl, rfl, rfl, rfl⟩ id)
  · exact hup.settle

theorem axisKept_execNeedleUpReleased {s t : State} (ht : execNeedleUpReleased s = .next t) : AxisKept s t :=
  .of_quiet ht (.ite fun _ => .of_keeps ⟨rfl, rfl, rfl, rfl⟩ id)

theorem axisKept_execStrokeLimitExpiry {s t : State} (ht : execStrokeLimitExpiry s = .next t) : AxisKept s t := by
  refine .of_quiet ht (.ite fun _ => ?_)
  have hstuck : AxisQuiet s (needleStuck s) := .of_keeps ⟨rfl, rfl, rfl, rfl⟩ id
  split
  · split
    · exact .settle (.of_keeps ⟨rfl, rfl, rfl, rfl⟩ id)
    · exact hstuck
  · exact hstuck
  · exact .refl s

theorem axisKept_execSampleOneShotEnd {s t : State} (ht : execSampleOneShotEnd s = .next t) : AxisKept s t :=
  .of_quiet ht (.ite fun _ => .of_keeps ⟨rfl, rfl, rfl, rfl⟩ id)

theorem axisKept_execConversionEnd {v : BitVec 10} {s t : State} (ht : execConversionEnd v s = .next t) : AxisKept s t := by
  refine .of_quiet ht ?_
  dsimp only
  split
  · exact .refl s
  · split
    · exact .settle (.of_keeps (by simp) (by simp))
    · exact .of_keeps ⟨rfl, rfl, rfl, rfl⟩ id

theorem axisKept_execDwellEnd {s t : State} (ht : execDwellEnd s = .next t) : AxisKept s t := by
  refine .of_quiet ht (.ite fun _ => ?_)
  split
  · exact .settle (.of_keeps ⟨rfl, rfl, rfl, rfl⟩ id)
  · exact .of_keeps ⟨rfl, rfl, rfl, rfl⟩ id

theorem axisKept_execFeedPulse {s t : State} (ht : execFeedPulse s = .next t) : AxisKept s t :=
  .of_quiet ht (.ite fun _ => .of_keeps ⟨rfl, rfl, rfl, rfl⟩ id)

theorem axisKept_execSurge {s t : State} (ht : execSurge s = .next t) : AxisKept s t :=
  .of_quiet ht (.ite fun _ => .of_keeps ⟨rfl, rfl, rfl, rfl⟩ id)

/-! The supply (R167 to R169). -/

theorem axisKept_execSupplyFallWarn {s t : State} (ht : execSupplyFallWarn s = .next t) : AxisKept s t :=
  .of_quiet ht (.ite fun _ => .of_keeps ⟨rfl, rfl, rfl, rfl⟩ id)

theorem axisKept_execSupplyRiseNormal {s t : State} (ht : execSupplyRiseNormal s = .next t) : AxisKept s t :=
  .of_quiet ht (.ite fun _ => .of_keeps ⟨rfl, rfl, rfl, rfl⟩ id)

theorem axisKept_execSupplyFallLow {s t : State} (ht : execSupplyFallLow s = .next t) : AxisKept s t :=
  .of_quiet ht (.ite fun _ => .of_keeps ⟨rfl, rfl, rfl, rfl⟩ id)

theorem axisKept_execSupplyRiseWarn {s t : State} (ht : execSupplyRiseWarn s = .next t) : AxisKept s t :=
  .of_quiet ht (.ite fun _ => .of_keeps ⟨rfl, rfl, rfl, rfl⟩ id)

theorem axisKept_execSupplyFallCut {s t : State} (ht : execSupplyFallCut s = .next t) : AxisKept s t := by
  have hlevel : AxisQuiet s (setSupply .cut s) := .of_keeps ⟨rfl, rfl, rfl, rfl⟩ id
  refine axisKept_onService ?_ ht
  split
  · exact fun _ ha => axisLaw_enterCut (hlevel.axisLaw ha)
  · exact .refl s

theorem axisKept_execSupplyRecovery {s t : State} (ht : execSupplyRecovery s = .next t) : AxisKept s t := by
  refine axisKept_onService ?_ ht
  split
  · exact fun _ ha => (axisQuiet_beginJoining _).axisLaw (axisLaw_restartValues true .low ha)
  · exact .refl s

end Sys2Proof.Machine

namespace Sys2Proof.Machine

/-! ### The events of the axis itself (R23, R82, R83, R86, R92, R93, R98) -/

theorem axisKept_execCrossing {lines : CodeLines} {s t : State} (ht : execCrossing lines s = .next t) : AxisKept s t := by
  refine axisKept_onService ?_ ht
  split
  · rename_i hc
    split
    · rename_i w _
      intro _ ha
      have hopened := (axisQuiet_openingOf w s hc.1).axisLaw ha
      by_cases hh : isHead s = true
      · rw [openWindow_head lines w s hh]
        exact AxisQuiet.axisLaw (.of_keeps (by simp) (by simp)) hopened
      · rw [openWindow_axis lines w s (by simpa using hh)]
        refine axisLaw_axisWork w hopened ?_
        rw [openingOf_pcu lines, openWindow_pcu]
        simp
    · exact .refl s
  · exact .refl s

theorem axisKept_execWindowMoveStep {s t : State} (ht : execWindowMoveStep s = .next t) : AxisKept s t := by
  refine axisKept_onService ?_ ht
  split
  · exact .refl s
  · rename_i m hm
    split
    · rename_i hk
      intro _ ha hx
      obtain ⟨hcons, hplace, hmove, hop⟩ := ha hx
      obtain ⟨hpt, hst, hdelta, -⟩ := hmove m hm
      refine ⟨hcons, hplace, fun n hn => ?_, hop⟩
      obtain rfl := Option.some.inj hn
      exact ⟨hpt, hst, hdelta, hk⟩
    · refine AxisKept.settle fun hl ha => ?_
      have hwin := hl.opened_of_move hm
      refine axisLaw_endMove ha (fun hx => ha.op_eq_none_of_win hx (by simp [hwin])) fun hx => ?_
      obtain ⟨-, -, hmove, -⟩ := ha hx
      obtain ⟨hpt, hst, -, -⟩ := hmove m hm
      exact ⟨hpt, hst⟩

theorem axisKept_execHomingStep {s t : State} (ht : execHomingStep s = .next t) : AxisKept s t := by
  refine axisKept_onService ?_ ht
  split
  · rename_i k hk
    split
    · rename_i hlt
      intro _ ha hx
      obtain ⟨hcons, hplace, hmove, hop⟩ := ha hx
      obtain ⟨-, hclosed⟩ := hop _ hk
      refine ⟨hcons, hplace, hmove, fun o ho => ?_⟩
      obtain rfl := Option.some.inj ho
      exact ⟨Nat.succ_le_of_lt hlt, hclosed⟩
    · exact .refl s
  · exact .refl s

/-- R25, R82, R86: an axis with an operation in flight has no window move. -/
theorem Lawful.move_eq_none_of_op {s : State} {o : AxisOp} (hl : Lawful s) (ha : axisLaw s) (hx : isAxis s = true)
    (ho : s.axu.op = some o) : s.axu.move = none := by
  refine hl.move_eq_none fun hw => ?_
  simp [ha.op_eq_none_of_win hx (by simp [hw])] at ho

theorem axisKept_execHomeSwitchSeenClosed {s t : State} (ht : execHomeSwitchSeenClosed s = .next t) : AxisKept s t := by
  refine axisKept_onService ?_ ht
  have hseen : AxisQuiet s { s with axu := { s.axu with homeSwitch := true } } :=
    .of_axis ⟨rfl, rfl, rfl, rfl⟩ ⟨rfl, fun h => ⟨h, rfl⟩⟩
  split
  · rename_i hx
    dsimp only
    split
    · rename_i k hk
      exact AxisKept.settle fun hl ha => axisLaw_homingSuccess (hseen.axisLaw ha) (hl.move_eq_none_of_op ha hx hk)
    · exact hseen.kept
  · exact .refl s

theorem axisKept_execHomingFail {s t : State} (ht : execHomingFail s = .next t) : AxisKept s t := by
  refine axisKept_onService ?_ ht
  split
  · split
    · refine AxisKept.settle fun _ ha hx => ?_
      obtain ⟨hcons, -, hmove, -⟩ := ha hx
      exact ⟨hcons, nofun, hmove, nofun⟩
    · exact .refl s
  · exact .refl s

theorem axisKept_execMovetoStep {s t : State} (ht : execMovetoStep s = .next t) : AxisKept s t := by
  refine axisKept_onService ?_ ht
  split
  · rename_i pt st delta k hk
    split
    · rename_i hlt
      intro _ ha hx
      obtain ⟨hcons, hplace, hmove, hop⟩ := ha hx
      obtain ⟨⟨hpt, hst, hdelta, -⟩, hclosed⟩ := hop _ hk
      refine ⟨hcons, hplace, hmove, fun o ho => ?_⟩
      obtain rfl := Option.some.inj ho
      exact ⟨⟨hpt, hst, hdelta, hlt⟩, hclosed⟩
    · refine AxisKept.settle fun hl ha hx => ?_
      refine axisLaw_movetoEnd ha (hl.move_eq_none_of_op ha hx hk) (fun hx => ?_) hx
      obtain ⟨-, -, -, hop⟩ := ha hx
      obtain ⟨⟨hpt, hst, -⟩, -⟩ := hop _ hk
      exact ⟨hpt, hst⟩
  · exact .refl s

theorem axisKept_execDriveFaultAsserted {s t : State} (ht : execDriveFaultAsserted s = .next t) : AxisKept s t :=
  .of_quiet ht (.ite fun _ => .of_axis ⟨rfl, rfl, rfl, rfl⟩ ⟨rfl, fun h => ⟨h, rfl⟩⟩)

theorem axisKept_execDriveFaultReleased {s t : State} (ht : execDriveFaultReleased s = .next t) : AxisKept s t :=
  .of_quiet ht (.ite fun _ => .of_axis ⟨rfl, rfl, rfl, rfl⟩ ⟨rfl, fun h => ⟨h, rfl⟩⟩)

end Sys2Proof.Machine

namespace Sys2Proof.Machine

/-! ### Every command and every step (R79, R87) -/

/-- A command other than RESET and SELF_TEST_END keeps the law of the axis at a station in service. -/
theorem axisKept_exec {c : Instr} {s t : State} (hreset : ∀ number pins, c ≠ .reset number pins)
    (htest : ∀ ring lines drive mv, c ≠ .selfTestEnd ring lines drive mv) (ht : exec c s = .next t) : AxisKept s t := by
  cases c with
  | reset number pins => exact absurd rfl (hreset number pins)
  | selfTestEnd ring lines drive mv => exact absurd rfl (htest ring lines drive mv)
  | joiningListenEnd lines => exact axisKept_execJoiningListenEnd ht
  | run f => exact axisKept_ownerArgs axisKept_ownerRun ht
  | stop f => exact axisKept_ownerArgs axisKept_ownerStop ht
  | rate f => exact axisKept_ownerArgs axisKept_ownerRate ht
  | back f => exact axisKept_ownerArgs (axisKept_ownerTraverse .back) ht
  | forward f => exact axisKept_ownerArgs (axisKept_ownerTraverse .forward) ht
  | home f closed => exact axisKept_ownerArgs (axisKept_ownerHome closed) ht
  | moveto f => exact axisKept_ownerArgs axisKept_ownerMoveto ht
  | origin f => exact axisKept_ownerArgs axisKept_ownerOrigin ht
  | setmap f => exact axisKept_ownerArgs axisKept_ownerSetmap ht
  | setneedle f => exact axisKept_ownerArgs axisKept_ownerSetneedle ht
  | headOn f => exact axisKept_ownerArgs (axisKept_ownerHead .enabled) ht
  | headOff f => exact axisKept_ownerArgs (axisKept_ownerHead .off) ht
  | bobbin f => exact axisKept_ownerArgs axisKept_ownerBobbin ht
  | setseg f => exact axisKept_ownerArgs axisKept_ownerSetseg ht
  | resumeLoad f => exact axisKept_ownerArgs axisKept_ownerResume ht
  | clear f lines => exact axisKept_ownerArgs (axisKept_ownerClear lines) ht
  | setaction f => exact axisKept_ownerArgs axisKept_ownerSetaction ht
  | setup f => exact axisKept_ownerArgs axisKept_ownerSetup ht
  | restart f mv => exact axisKept_ownerArgs (axisKept_ownerRestart mv) ht
  | unknownOrder code f => exact axisKept_execUnknownOrder ht
  | designSegment src body => exact axisKept_onFrame (fun s => (axisQuiet_judgeDesign body s).kept) ht
  | beaconReceived src body => exact axisKept_execBeaconReceived ht
  | urgentReceived src body => exact axisKept_onFrame AxisKept.refl ht
  | peerAgeExpiry n => exact axisKept_execPeerAgeExpiry ht
  | beaconTimer => exact axisKept_execBeaconTimer ht
  | transmitAttempt => exact axisKept_execTransmitAttempt ht
  | arbitrationLost => exact axisKept_execArbitrationLost ht
  | collision => exact axisKept_execCollision ht
  | frameSent => exact axisKept_execFrameSent ht
  | crossing lines => exact axisKept_execCrossing ht
  | guardEnd => exact axisKept_execGuardEnd ht
  | minAssertionEnd => exact axisKept_execMinAssertionEnd ht
  | haltSeenAsserted => exact axisKept_execHaltSeenAsserted ht
  | haltSeenReleased => exact axisKept_execHaltSeenReleased ht
  | haltWaitExpiry => exact axisKept_execHaltWaitExpiry ht
  | haltPulseEnd => exact axisKept_execHaltPulseEnd ht
  | starveTimerExpiry => exact axisKept_execStarveTimerExpiry ht
  | stallTimerExpiry => exact axisKept_execStallTimerExpiry ht
  | agreementTimerExpiry => exact axisKept_execAgreementTimerExpiry ht
  | windowMoveStep => exact axisKept_execWindowMoveStep ht
  | homingStep => exact axisKept_execHomingStep ht
  | homeSwitchSeenClosed => exact axisKept_execHomeSwitchSeenClosed ht
  | homingFail => exact axisKept_execHomingFail ht
  | movetoStep => exact axisKept_execMovetoStep ht
  | driveFaultAsserted => exact axisKept_execDriveFaultAsserted ht
  | driveFaultReleased => exact axisKept_execDriveFaultReleased ht
  | trimPulseEnd lines => exact axisKept_execTrimPulseEnd ht
  | detentPulse => exact axisKept_execDetentPulse ht
  | detentReleased => exact axisKept_execDetentReleased ht
  | selMoveLimitExpiry => exact axisKept_execSelMoveLimitExpiry ht
  | selSettleExpiry lines => exact axisKept_execSelSettleExpiry ht
  | needleDownSeen => exact axisKept_execNeedleDownSeen ht
  | needleDownReleased => exact axisKept_execNeedleDownReleased ht
  | needleUpSeen => exact axisKept_execNeedleUpSeen ht
  | needleUpReleased => exact axisKept_execNeedleUpReleased ht
  | strokeLimitExpiry => exact axisKept_execStrokeLimitExpiry ht
  | sampleOneShotEnd => exact axisKept_execSampleOneShotEnd ht
  | conversionEnd v => exact axisKept_execConversionEnd ht
  | dwellEnd => exact axisKept_execDwellEnd ht
  | feedPulse => exact axisKept_execFeedPulse ht
  | surge => exact axisKept_execSurge ht
  | supplyFallWarn => exact axisKept_execSupplyFallWarn ht
  | supplyRiseNormal => exact axisKept_execSupplyRiseNormal ht
  | supplyFallLow => exact axisKept_execSupplyFallLow ht
  | supplyRiseWarn => exact axisKept_execSupplyRiseWarn ht
  | supplyFallCut => exact axisKept_execSupplyFallCut ht
  | supplyRecovery => exact axisKept_execSupplyRecovery ht
  | frameAbandoned => exact axisKept_execFrameAbandoned ht
  | lineIdle => exact axisKept_execLineIdle ht

/-- R177: the end of the self-test leaves the axis as it stands, or in CUT without a move or an operation. -/
theorem axisLaw_endSelfTest (role : Role) (ring bad : Bool) (mv : Nat) {s : State} (h : axisLaw s) :
    axisLaw (endSelfTest role ring bad mv s) := by
  have hjoin : AxisQuiet s (beginJoining (takeSupply mv (recordSelfTest role ring bad s))) :=
    .of_keeps (by simp [takeSupply]) (by simp [takeSupply, beginJoining])
  unfold endSelfTest
  dsimp only
  split
  · exact axisLaw_enterCut (hjoin.axisLaw h)
  · exact hjoin.axisLaw h

theorem axisLaw_execSelfTestEnd {ring : Bool} {lines : CodeLines} {drive : Bool} {mv : Nat} {s t : State}
    (ht : execSelfTestEnd ring lines drive mv s = .next t) (h : axisLaw s) : axisLaw t := by
  unfold execSelfTestEnd at ht
  cases ht
  split
  · split
    · exact axisLaw_endSelfTest _ _ _ _ h
    · exact h
  · exact h

theorem axisLaw_exec {c : Instr} {s t : State} (ht : exec c s = .next t) (hp : paceLaw s) (h : axisLaw s) : axisLaw t := by
  by_cases hreset : ∃ number pins, c = .reset number pins
  · obtain ⟨number, pins, rfl⟩ := hreset
    obtain ⟨-, -, -, -, -, haxis, -⟩ := lawsHoldAtReset.1 s.pending number (roleOfPins pins)
    cases ht
    exact haxis
  by_cases htest : ∃ ring lines drive mv, c = .selfTestEnd ring lines drive mv
  · obtain ⟨ring, lines, drive, mv, rfl⟩ := htest
    exact axisLaw_execSelfTestEnd ht h
  push Not at hreset htest
  cases hs : s.selfTesting with
  | false => exact axisKept_exec hreset htest ht ⟨hs, hp⟩ h
  | true =>
    rw [exec_outOfService (by simp [inService, hs]) hreset htest] at ht
    cases ht
    exact h

/-- Settles O57: each command keeps the law at a station in service, and out of service only RESET and SELF_TEST_END act. -/
theorem axisLawIsKept : Obligations.AxisLawIsKept := by
  intro s t ht hp h
  unfold step at ht
  split at ht
  · cases ht
    exact h
  · exact axisLaw_exec ht hp h

end Sys2Proof.Machine

namespace Sys2Proof.Machine

/-! ### Which arguments have the length and form of an order (R104, R161, R162, R189) -/

theorem isNone_flagOf (b : Byte) : (flagOf b).isNone = decide (1 < b.toNat) := by
  by_cases h0 : b = 0
  · subst h0
    rfl
  by_cases h1 : b = 1
  · subst h1
    rfl
  have hlt : 1 < b.toNat := by bv_omega
  simp only [flagOf, if_neg h0, if_neg h1, hlt, Option.isNone_none, decide_true]

/-- R159: the octets that name no fault are 0 and those above 25. -/
theorem isNone_faultOfOctet (b : Byte) : (faultOfOctet b).isNone = noFaultCode b := by
  by_cases h0 : b = 0
  · subst h0
    rfl
  have hpos : b.toNat ≠ 0 := by bv_omega
  have hlen : allFaults.length = 25 := rfl
  have hout : 25 ≤ b.toNat - 1 ↔ 25 < b.toNat := by omega
  simp only [faultOfOctet, if_neg h0, noFaultCode, beq_false_of_ne h0, Bool.false_or]
  rw [Bool.eq_iff_iff, Option.isNone_iff_eq_none, List.getElem?_eq_none_iff, hlen, hout, decide_eq_true_iff]

theorem isNone_actionOfCode (b : Byte) : (actionOfCode b).isNone = decide (2 < b.toNat) := by
  by_cases h0 : b = 0
  · subst h0
    rfl
  by_cases h1 : b = 1
  · subst h1
    rfl
  by_cases h2 : b = 2
  · subst h2
    rfl
  have hlt : 2 < b.toNat := by bv_omega
  simp only [actionOfCode, if_neg h0, if_neg h1, if_neg h2, hlt, Option.isNone_none, decide_true]

theorem isNone_parseNone : ∀ args, (parseNone args).isNone = (args.length != 0)
  | [] => rfl
  | _ :: _ => rfl

theorem isNone_parseU16 : ∀ args, (parseU16 args).isNone = (args.length != 2)
  | [] | [_] | [_, _] => rfl
  | _ :: _ :: _ :: _ => by simp [parseU16]

theorem isNone_parseS16 : ∀ args, (parseS16 args).isNone = (args.length != 2)
  | [] | [_] | [_, _] => rfl
  | _ :: _ :: _ :: _ => by simp [parseS16]

theorem isNone_parseU24 : ∀ args, (parseU24 args).isNone = (args.length != 3)
  | [] | [_] | [_, _] | [_, _, _] => rfl
  | _ :: _ :: _ :: _ :: _ => by simp [parseU24]

theorem isNone_parsePairs : ∀ args, (parsePairs args).isNone = (args.length % 2 == 1)
  | [] | [_] => rfl
  | a :: b :: rest => by
    have hlen : (a :: b :: rest).length = rest.length + 2 := rfl
    rw [parsePairs, Option.isNone_map, isNone_parsePairs rest, hlen, Nat.add_mod_right]

theorem isNone_parseEntries : ∀ args, (parseEntries args).isNone = (args.length % 5 != 0)
  | [] | [_] | [_, _] | [_, _, _] | [_, _, _, _] => rfl
  | a :: b :: c :: d :: e :: rest => by
    have hlen : (a :: b :: c :: d :: e :: rest).length = rest.length + 5 := rfl
    rw [parseEntries, Option.isNone_map, isNone_parseEntries rest, hlen, Nat.add_mod_right]

theorem isNone_parseSetNeedle : ∀ args, (parseSetNeedle args).isNone = badForm 10 args
  | [] | [_] | [_, _] => rfl
  | [n, st, c] => by
    have hform : badForm 10 [n, st, c] = ((flagOf st).isNone || (flagOf c).isNone) := by
      rw [isNone_flagOf, isNone_flagOf]
      rfl
    rw [hform, parseSetNeedle]
    cases flagOf st <;> cases flagOf c <;> rfl
  | _ :: _ :: _ :: _ :: _ => by simp [parseSetNeedle, badForm]

theorem isNone_parseSetSeg : ∀ args, (parseSetSeg args).isNone = badForm 14 args
  | [] | [_] | [_, _] | [_, _, _] | [_, _, _, _] | [_, _, _, _, _] | [_, _, _, _, _, _] | [_, _, _, _, _, _, _] => rfl
  | [_, _, _, _, _, _, _, new] => by
    rw [parseSetSeg, Option.isNone_map, isNone_flagOf]
    rfl
  | _ :: _ :: _ :: _ :: _ :: _ :: _ :: _ :: _ :: _ => by simp [parseSetSeg, badForm]

theorem isNone_mapM {α β : Type} (g : α → Option β) (l : List α) :
    (l.mapM g).isNone = l.any fun a => (g a).isNone := by
  induction l with
  | nil => rfl
  | cons a l ih =>
    rw [List.mapM_cons, List.any_cons, ← ih]
    cases g a with
    | none => rfl
    | some b => cases l.mapM g <;> rfl

theorem isNone_parseClear : ∀ args, (parseClear args).isNone = badForm 16 args
  | [] => rfl
  | b :: bs => by
    have hform : badForm 16 (b :: bs) = ((b :: bs) != [0xFF] && (b :: bs).any noFaultCode) := rfl
    rw [hform, parseClear]
    · by_cases hall : b :: bs = [0xFF]
      · rw [if_pos hall, hall]
        rfl
      · simp only [if_neg hall, Option.isNone_map, isNone_mapM, isNone_faultOfOctet, bne_iff_ne.2 hall, Bool.true_and]
    · simp

theorem isNone_parseSetAction : ∀ args, (parseSetAction args).isNone = badForm 17 args
  | [] | [_] => rfl
  | [c, a] => by
    have hcode := isNone_faultOfOctet c
    have haction := isNone_actionOfCode a
    cases hc : faultOfOctet c with
    | none => simp_all [parseSetAction, badForm]
    | some code =>
      cases ha : actionOfCode a with
      | none => simp_all [parseSetAction, badForm]
      | some act => by_cases h : act ∈ allowedActions code <;> simp_all [parseSetAction, badForm]
  | _ :: _ :: _ :: _ => by simp [parseSetAction, badForm]

/-- R173, R189: an order of the catalogue is taken with its arguments parsed, and the arguments that have no parse are those
of a wrong length or form. -/
theorem exec_orderOf_parses (x : Sampled) {code : Byte} (h : inCatalogue code = true) :
    ∃ (α : Type) (parse : List Byte → Option α) (owner : α → State → Verdict),
      (∀ args, (parse args).isNone = badForm code args) ∧
      ∀ f s, exec (orderOf x code f) s = takeOrder code (fitOfCode code) f (withArgs (parse f.args) owner) s := by
  obtain ⟨k, hk⟩ : ∃ k, code.toNat = k := ⟨_, rfl⟩
  have hcode : code = BitVec.ofNat 8 k := by simp [← hk]
  obtain ⟨hlo, hhi⟩ : 1 ≤ k ∧ k ≤ 19 := by simpa [inCatalogue, hk] using h
  subst hcode
  interval_cases k
  any_goals exact ⟨_, _, _, isNone_parseNone, fun _ _ => rfl⟩
  any_goals exact ⟨_, _, _, isNone_parseU16, fun _ _ => rfl⟩
  · exact ⟨_, _, _, isNone_parseS16, fun _ _ => rfl⟩
  · exact ⟨_, _, _, isNone_parsePairs, fun _ _ => rfl⟩
  · exact ⟨_, _, _, isNone_parseSetNeedle, fun _ _ => rfl⟩
  · exact ⟨_, _, _, isNone_parseU24, fun _ _ => rfl⟩
  · exact ⟨_, _, _, isNone_parseSetSeg, fun _ _ => rfl⟩
  · exact ⟨_, _, _, isNone_parseClear, fun _ _ => rfl⟩
  · exact ⟨_, _, _, isNone_parseSetAction, fun _ _ => rfl⟩
  · exact ⟨_, _, _, isNone_parseEntries, fun _ _ => rfl⟩

/-- R173 step 1: arguments without a parse are refused before the owner is asked. -/
theorem takeOrder_badArgs {α : Type} {parse : Option α} {fit : RoleFit} {f : OrderFrame} {s : State} (kind : Byte)
    (owner : α → State → Verdict) (hj : judgedAt fit f s) (h : parse.isNone = true) :
    takeOrder kind fit f (withArgs parse owner) s = .next (refuse kind .badArg (frameTaken f.src s)) :=
  takeOrder_refused _ _ _ _ _ _ hj (by rw [Option.isNone_iff_eq_none.1 h, withArgs])

/-- R172, R173: a code outside the catalogue is refused at every station that it reaches. -/
theorem exec_unknownOrder_refused {code : Byte} {f : OrderFrame} {s : State} (hj : judgedAt .all f s)
    (h : inCatalogue code = false) :
    exec (.unknownOrder code f) s = .next (refuse code .badArg (frameTaken f.src s)) := by
  have htake : exec (.unknownOrder code f) s = takeOrder code .all f (fun _ => .error .badArg) s := by
    simp [exec, execUnknownOrder, h]
  rw [htake]
  exact takeOrder_refused _ _ _ _ _ _ hj rfl

theorem fitOfCode_unknown {code : Byte} (h : inCatalogue code = false) : fitOfCode code = .all := by
  have hout : ¬ (1 ≤ code.toNat ∧ code.toNat ≤ 19) := by simpa [inCatalogue] using h
  rw [fitOfCode, if_neg (by omega), if_neg (by omega)]

/-- Settles O9: in the catalogue the parse of the arguments fails exactly at a bad form; outside it nothing is parsed. -/
theorem malformedOrdersAreRefused : Obligations.MalformedOrdersAreRefused := by
  refine ⟨fun x code f s hj hbad => ?_, fun code f s hj hcat => exec_unknownOrder_refused hj hcat⟩
  cases hcat : inCatalogue code with
  | true =>
    obtain ⟨α, parse, owner, hform, hexec⟩ := exec_orderOf_parses x hcat
    rw [hexec]
    exact takeOrder_badArgs code owner hj ((hform f.args).trans hbad)
  | false =>
    rw [fitOfCode_unknown hcat] at hj
    rw [orderOf_unknown x f hcat]
    exact exec_unknownOrder_refused hj hcat

end Sys2Proof.Machine

namespace Sys2Proof.Machine

/-! ### SETMAP (R104) -/

/-- R104: the needle of a colour is that of the last pair which names it, or the one that it had. -/
theorem getElem_writeMap (ps : List (Nat × Nat)) (m : Vector Nat 32) (colour : Fin 32) :
    (writeMap ps m)[colour] = ((ps.filter fun p => p.1 == colour.val).getLast?.map Prod.snd).getD m[colour] := by
  induction ps generalizing m with
  | nil => rfl
  | cons p ps ih =>
    rw [writeMap, ih]
    by_cases hp : p.1 = colour.val
    · cases hl : (ps.filter fun p => p.1 == colour.val).getLast? <;> simp [hp, hl, List.getLast?_cons]
    · simp [hp]

theorem mapPairsOk_iff (needles : Nat) (ps : List (Nat × Nat)) :
    mapPairsOk needles ps = true ↔ ps ≠ [] ∧ ps.length ≤ 32 ∧ ∀ p ∈ ps, p.1 ≤ 31 ∧ p.2 ≤ needles := by
  simp [mapPairsOk, and_assoc, Nat.one_le_iff_ne_zero]

theorem mapPairsOk_eq_false {needles : Nat} {ps : List (Nat × Nat)}
    (h : ps = [] ∨ 32 < ps.length ∨ ∃ p ∈ ps, 31 < p.1 ∨ needles < p.2) : mapPairsOk needles ps = false := by
  refine Bool.eq_false_iff.2 fun hok => ?_
  obtain ⟨hne, hlen, hall⟩ := (mapPairsOk_iff needles ps).1 hok
  obtain hnil | hlong | ⟨p, hp, hbad⟩ := h
  · exact hne hnil
  · omega
  · have := hall p hp
    omega

/-- Settles O18: the checks of SETMAP in order, then the map written pair by pair. -/
theorem setmapOrder : Obligations.SetmapOrder := by
  refine ⟨fun f ps s hj hp hrun => ?_, fun f ps s hj hp hrun hbad => ?_, fun f ps s hj hp hrun hne hlen hall => ?_⟩
  · exact takeOrder_refused _ _ _ _ _ _ hj (by simp [hp, withArgs, ownerSetmap, isStopped, beq_false_of_ne hrun])
  · exact takeOrder_refused _ _ _ _ _ _ hj
      (by simp [hp, withArgs, ownerSetmap, isStopped, hrun, mapPairsOk_eq_false hbad])
  · have hok := (mapPairsOk_iff s.params.needles ps).2 ⟨hne, hlen, hall⟩
    exact ⟨_, takeOrder_accepted _ _ _ _ _
      { frameTaken f.src s with slu := { s.slu with map := writeMap ps s.slu.map } } hj
      (by simp [hp, withArgs, ownerSetmap, isStopped, hrun, hok]), getElem_writeMap ps s.slu.map, rfl⟩

end Sys2Proof.Machine

namespace Sys2Proof.Machine

/-! ### SETNEEDLE, HEAD-ON and HEAD-OFF (R105, R106, R122, R163) -/

/-- R172: an order is judged only where it fits the station's role. -/
theorem fitsRole_of_judged {fit : RoleFit} {dest : Option Byte} {s : State} (h : reach fit dest s = .judged) :
    fitsRole fit s = true := by
  cases dest with
  | none => cases h
  | some d =>
    by_contra hno
    rw [reach_some] at h
    by_cases hown : d.toNat = s.number.val <;> simp [hown, hno] at h

/-- R106: the pending changes of the needles once a SETNEEDLE has been accepted. -/
def needlesPended (q : SetNeedle) (v : Vector PendingNeedle 15) : Vector PendingNeedle 15 :=
  v.setIfInBounds (q.needle - 1) (pendNeedle q (v.toList.getD (q.needle - 1) ⟨none, false⟩))

theorem getElem_needlesPended {q : SetNeedle} (h1 : 1 ≤ q.needle) (v : Vector PendingNeedle 15) (i : Fin 15) :
    (needlesPended q v)[i] = if i.val + 1 = q.needle then ⟨some q.state, v[i].clear || q.clear⟩ else v[i] := by
  by_cases hi : i.val + 1 = q.needle
  · have hidx : q.needle - 1 = i.val := by omega
    simp [needlesPended, hi, hidx, pendNeedle]
  · have hidx : q.needle - 1 ≠ i.val := by omega
    simp [needlesPended, hi, hidx]

/-- R163: withholding goes by the pending participation as soon as there is one. -/
theorem withheld_pending {s : State} {p : Participation} (h : s.stu.pendingPart = some p) (c : FaultCode) :
    withheld c s = (isHead s && withholdable c && p == .off) := by
  simp [withheld, withholdingPart, h]

/-- R122: the state once a HEAD-ON or HEAD-OFF has been accepted. -/
def partPended (p : Participation) (f : OrderFrame) (s : State) : State :=
  countAccepted { frameTaken f.src s with stu := { s.stu with pendingPart := some p } }

theorem takeOrder_head {p : Participation} {f : OrderFrame} {s : State} (kind : Byte) (hj : judgedAt .headOnly f s)
    (ha : f.args = []) :
    takeOrder kind .headOnly f (withArgs (parseNone f.args) (ownerHead p)) s = .next (partPended p f s) :=
  takeOrder_accepted _ _ _ _ _ _ hj (by simp [ha, parseNone, withArgs, ownerHead])

theorem withheld_partPended (p : Participation) (c : FaultCode) {f : OrderFrame} {s : State} (hj : judgedAt .headOnly f s) :
    withheld c (partPended p f s) = (withholdable c && p == .off) := by
  obtain ⟨-, hjudged⟩ := hj
  have hfits : isHead s = true := fitsRole_of_judged hjudged
  have hhead : isHead (partPended p f s) = true := by simpa [isHead, partPended] using hfits
  rw [withheld_pending (p := p) rfl, hhead, Bool.true_and]

/-- Settles O19: the check and effect of SETNEEDLE, and withholding by the participation that HEAD-ON and HEAD-OFF record. -/
theorem headPendingOrders : Obligations.HeadPendingOrders := by
  refine ⟨fun f q s hj hq hbad => ?_, fun f q s hj hq h1 hn _ => ?_,
    fun f s hj ha => ⟨_, takeOrder_head 11 hj ha, fun c => ?_, rfl⟩,
    fun f s hj ha => ⟨_, takeOrder_head 12 hj ha, fun c => ?_, rfl⟩⟩
  · have hno : ¬ (1 ≤ q.needle ∧ q.needle ≤ s.params.needles) := by omega
    exact takeOrder_refused _ _ _ _ _ _ hj (by simp [hq, withArgs, ownerSetneedle, hno])
  · exact ⟨_, takeOrder_accepted _ _ _ _ _
        { frameTaken f.src s with slu := { s.slu with pendingNeedles := needlesPended q s.slu.pendingNeedles } } hj
        (by simp [hq, withArgs, ownerSetneedle, needlesPended, h1, hn]),
      getElem_needlesPended h1 s.slu.pendingNeedles, rfl⟩
  · simp [withheld_partPended _ c hj]
  · rw [withheld_partPended _ c hj, ← withholdable_iff c]
    simp

end Sys2Proof.Machine

namespace Sys2Proof.Machine

/-! ### What a class of stroke can do (R136 to R139) -/

/-- The items that the bobbin's rules read beside the fault unit (R140, R141). -/
def bobbinView (s : State) : Params × Rec × Option Nat × Option Nat :=
  (s.params, s.stu.copy, s.thm.bobbin, s.thm.lastLoaded)

/-- R137 to R139: the runs and counts of a class touch neither bobbin nor fault unit, but for the fault of a long run. -/
theorem updateRuns_cases (k : StrokeClass) (s : State) :
    ∃ t : State,
      (updateRuns k s = t ∨
        ∃ c d1 d2, c ≠ FaultCode.bobbinLow ∧ c ≠ .bobbinEmpty ∧ updateRuns k s = raise c d1 d2 t) ∧
      t.flt = s.flt ∧ bobbinView t = bobbinView s := by
  cases k with
  | breakSuspect =>
    rw [updateRuns_break]
    split
    · exact ⟨_, .inr ⟨.threadBreak, _, _, by decide, by decide, rfl⟩, rfl, rfl⟩
    · exact ⟨_, .inl rfl, rfl, rfl⟩
  | snagSuspect =>
    rw [updateRuns_snag]
    split
    · exact ⟨_, .inr ⟨.threadSnag, _, _, by decide, by decide, rfl⟩, rfl, rfl⟩
    · exact ⟨_, .inl rfl, rfl, rfl⟩
  | good =>
    rw [updateRuns_good]
    exact ⟨_, .inl rfl, rfl, rfl⟩
  | tight =>
    rw [updateRuns_tight]
    split
    · exact ⟨_, .inr ⟨.tensionTight, _, _, by decide, by decide, rfl⟩, rfl, rfl⟩
    · exact ⟨_, .inl rfl, rfl, rfl⟩
  | loose =>
    rw [updateRuns_loose]
    split
    · exact ⟨_, .inr ⟨.tensionLoose, _, _, by decide, by decide, rfl⟩, rfl, rfl⟩
    · exact ⟨_, .inl rfl, rfl, rfl⟩

end Sys2Proof.Machine
namespace Sys2Proof.Machine

/-! ### Updates that keep fault records, bobbin counter and parameters in their laws (R141, R158 to R162, R175) -/

/-- R158 to R160, R162: the part of the fault unit's law that is about the record of one fault. -/
abbrev recordLaw (c : FaultCode) (r : FaultRec) : Prop :=
  r.count ≤ 255 ∧ (if allowedActions c = [] then r.action = .halt else r.action ∈ allowedActions c) ∧
    (r.fresh = true → r.pending = true)

/-- R160: a cause leaves a record in its law, and unlatches none. -/
theorem recordLaw_raisedRec {c : FaultCode} {r : FaultRec} (a : Action) (d1 d2 : Byte) (h : recordLaw c r) :
    recordLaw c (raisedRec a d1 d2 r) := by
  obtain ⟨hcount, -, -, haction, hignored, htaken⟩ := raisedRec_spec a d1 d2 r
  obtain ⟨-, hact, hfresh⟩ := h
  refine ⟨hcount ▸ Nat.min_le_left _ _, haction ▸ hact, ?_⟩
  by_cases ha : a = .ignore
  · obtain ⟨-, hp, hf⟩ := hignored ha
    rwa [hp, hf]
  · exact fun _ => (htaken ha).2.1

theorem raisedRec_latched {a : Action} {d1 d2 : Byte} {r : FaultRec} (h : r.latched = true) :
    (raisedRec a d1 d2 r).latched = true := by
  cases a <;> simp [raisedRec, h]

/-- Writing one record keeps the law where it keeps the record's own part, and PEER-LOST latched where it was. -/
theorem faultLaw_setFault {c : FaultCode} {r : FaultRec} {s : State} (hr : recordLaw c (faultRec c s) → recordLaw c r)
    (hl : c = .peerLost → (faultRec c s).latched = true → r.latched = true) (h : faultLaw s) : faultLaw (setFault c r s) := by
  obtain ⟨hrecs, hmark⟩ := h
  refine ⟨fun d => ?_, fun hm => ?_⟩
  · by_cases hd : d = c
    · subst hd
      rw [faultRec_setFault_self]
      exact hr (hrecs d)
    · rw [faultRec_setFault_ne _ _ _ _ hd]
      exact hrecs d
  · by_cases hc : c = .peerLost
    · subst hc
      rw [faultRec_setFault_self]
      exact hl rfl (hmark hm)
    · rw [faultRec_setFault_ne _ _ _ _ (Ne.symm hc)]
      exact hmark hm

/-- R169, R170: a restart keeps a record in its law: it clears it, or makes it pending at most. -/
theorem recordLaw_restartRec {c : FaultCode} {r : FaultRec} (fromCut : Bool) (h : recordLaw c r) :
    recordLaw c (restartRec fromCut c r) := by
  obtain ⟨hcount, hact, hfresh⟩ := h
  have hcleared : recordLaw c (FaultRec.clearedWith r.action) := ⟨Nat.zero_le _, hact, nofun⟩
  have hkept : recordLaw c (keptRec r) := ⟨hcount, hact, fun hf => by simp [keptRec, hfresh hf]⟩
  have hpending : recordLaw c { r with pending := true } := ⟨hcount, hact, fun _ => rfl⟩
  have hsupply : recordLaw c (if fromCut then { r with pending := true } else FaultRec.clearedWith r.action) := by
    split
    · exact hpending
    · exact hcleared
  unfold restartRec
  split
  · exact hkept
  · exact hkept
  · exact hsupply
  · exact hsupply
  · exact hcleared

/-- The items that the three laws are about. -/
def rangeView (s : State) : FaultUnit × Option Nat × Option Nat × Params :=
  (s.flt, s.thm.bobbin, s.thm.lastLoaded, s.params)

/-- The update keeps each of the three laws. -/
structure RangesKept (s u : State) : Prop where
  faults : faultLaw s → faultLaw u
  bobbin : bobbinLaw s → bobbinLaw u
  params : paramsLaw s.params → paramsLaw u.params

namespace RangesKept

variable {s t u v : State}

theorem refl (s : State) : RangesKept s s := ⟨id, id, id⟩

theorem trans (h : RangesKept s t) (k : RangesKept t u) : RangesKept s u :=
  ⟨k.faults ∘ h.faults, k.bobbin ∘ h.bobbin, k.params ∘ h.params⟩

theorem of_view (hv : rangeView u = rangeView s) : RangesKept s u := by
  simp only [rangeView, Prod.mk.injEq] at hv
  obtain ⟨hflt, hb, hl, hps⟩ := hv
  refine ⟨fun h => ?_, fun h => ?_, fun h => hps ▸ h⟩
  · simpa only [faultLaw, faultRec, hflt] using h
  · simpa only [bobbinLaw, hb, hl] using h

theorem beside (h : RangesKept s t) (hv : rangeView u = rangeView t) : RangesKept s u := h.trans (of_view hv)

theorem ite {p : Prop} [Decidable p] (hu : RangesKept s u) (hv : RangesKept s v) : RangesKept s (if p then u else v) := by
  split
  · exact hu
  · exact hv

/-- An update of the fault unit alone. -/
theorem ofFaults (h : RangesKept s t) (hk : u.thm = t.thm ∧ u.params = t.params) (hf : faultLaw t → faultLaw u) :
    RangesKept s u :=
  ⟨hf ∘ h.faults, fun hb => by simpa only [bobbinLaw, hk.1] using h.bobbin hb, fun hp => hk.2 ▸ h.params hp⟩

/-! Faults (R46, R48, R160, R161, R165 to R167, R170). -/

theorem raisedAs {a : Action} {c : FaultCode} {d1 d2 : Byte} (h : RangesKept s u) : RangesKept s (raiseAs a c d1 d2 u) :=
  h.ofFaults (by simp) (faultLaw_setFault (recordLaw_raisedRec a d1 d2) fun _ => raisedRec_latched)

theorem raised {c : FaultCode} {d1 d2 : Byte} (h : RangesKept s u) : RangesKept s (raise c d1 d2 u) := h.raisedAs

/-- R161: a fault that is unlatched takes the axis mark with it where it is PEER-LOST. -/
theorem unlatched {c : FaultCode} (h : RangesKept s u) : RangesKept s (unlatch c u) := by
  refine h.ofFaults (by simp) fun hu => ?_
  by_cases hc : c = .peerLost
  · subst hc
    refine ⟨fun d => ?_, by simp [unlatch]⟩
    by_cases hd : d = .peerLost
    · subst hd
      rw [faultRec_unlatch_self]
      exact hu.1 .peerLost
    · rw [faultRec_unlatch_ne _ _ _ hd]
      exact hu.1 d
  · rw [unlatch, if_neg hc]
    exact faultLaw_setFault id (absurd · hc) hu

theorem cleared (cs : List FaultCode) (h : RangesKept s u) : RangesKept s (clearList cs u) := by
  induction cs generalizing u with
  | nil => exact h
  | cons c cs ih => exact ih (.ite h.unlatched h)

/-- R46: the axis mark is set with an action HALT, which latches PEER-LOST. -/
theorem peerLost {n : Station} {role : Role} (h : RangesKept s u) : RangesKept s (raisePeerLost n role u) := by
  have haxis : ∀ d1 d2 : Byte, RangesKept s
      { raiseAs .halt .peerLost d1 d2 u with
        flt := { (raiseAs .halt .peerLost d1 d2 u).flt with axisMark := true } } := fun d1 d2 => by
    refine h.raisedAs.ofFaults ⟨rfl, rfl⟩ fun hu => ⟨hu.1, fun _ => ?_⟩
    change (faultRec .peerLost (raiseAs .halt .peerLost d1 d2 u)).latched = true
    rw [raiseAs, faultRec_setFault_self]
    rfl
  cases role with
  | head => exact h.raised
  | axisX => exact haxis _ _
  | axisY => exact haxis _ _

theorem startingLevelRaised (h : RangesKept s u) : RangesKept s (raiseStartingLevel u) := by
  unfold raiseStartingLevel
  split
  · exact h
  · exact h.raised
  · exact h.raised.raised

theorem supplySet {level : SupplyLevel} (h : RangesKept s u) : RangesKept s (setSupply level u) :=
  h.ofFaults ⟨rfl, rfl⟩ id

theorem rosterChecked (h : RangesKept s u) : RangesKept s (rosterCheck u) := .ite (.ite h.unlatched h.raised) h

theorem freshCleared (cs : List FaultCode) (h : RangesKept s u) : RangesKept s (clearFresh cs u) := by
  induction cs generalizing u with
  | nil => exact h
  | cons c cs ih =>
    exact ih (h.ofFaults (by simp) (faultLaw_setFault (fun hr => ⟨hr.1, hr.2.1, nofun⟩) fun _ => id))

/-- R166: the pending mark ends only where the fault is not fresh. -/
theorem delivered (cs : List FaultCode) (h : RangesKept s u) : RangesKept s (deliverFaults cs u) := by
  induction cs generalizing u with
  | nil => exact h
  | cons c cs ih =>
    refine ih ?_
    split
    · exact h
    · rename_i hf
      exact h.ofFaults (by simp) (faultLaw_setFault (fun hr => ⟨hr.1, hr.2.1, (absurd · hf)⟩) fun _ => id)

/-- R169, R170: a restart keeps every action, the bobbin and the parameters, and ends the axis mark. -/
theorem restarted {fromCut : Bool} {level : SupplyLevel} (s : State) : RangesKept s (restartValues fromCut level s) :=
  ⟨fun h => ⟨fun c => faultRec_restartValues fromCut level c s ▸ recordLaw_restartRec fromCut (h.1 c), nofun⟩, id, id⟩

end RangesKept
end Sys2Proof.Machine

namespace Sys2Proof.Machine

/-! ### Shared operations keep the three laws -/

namespace RangesKept

variable {s u : State}

/-! Cursor, agreement and the READY test (R16, R26, R53 to R56, R70). -/

theorem settled (h : RangesKept s u) : RangesKept s (settle u) := h.beside (by simp [rangeView])

theorem stopped {reason : StopReason} (h : RangesKept s u) : RangesKept s (enterStopped reason u) :=
  h.beside (by simp [rangeView])

theorem lockedOut {reason : LockReason} {segNo : Byte} (h : RangesKept s u) : RangesKept s (enterLockout reason segNo u) :=
  .raised (h.beside rfl)

theorem rebased {c : Cursor} (h : RangesKept s u) : RangesKept s (rebase c u) := .lockedOut (h.beside rfl)

theorem advanced {c : Cursor} (h : RangesKept s u) : RangesKept s (advanceCursor c u) :=
  .ite h.rebased (h.beside (by simp [rangeView]))

theorem axisFollowed {c : Cursor} (h : RangesKept s u) : RangesKept s (axisFollow c u) := by
  unfold axisFollow
  split
  · split
    · exact h.beside rfl
    · exact .raised (h.beside rfl)
  · exact h

theorem adopted {c : Cursor} (h : RangesKept s u) : RangesKept s (adoptCursor c u) :=
  .ite h.axisFollowed.rebased ((h.axisFollowed (c := c)).beside (by simp [rangeView]))

theorem chosen (h : RangesKept s u) : RangesKept s (takeChosen u) := by
  by_cases hc : chooseCursor u.pcu.cursor (qualifiedCursors u) = u.pcu.cursor
  · rw [takeChosen_own u hc]
    exact h.beside rfl
  · have hadopted : RangesKept s (adoptCursor (chooseCursor u.pcu.cursor (qualifiedCursors u)) (outOfStep u)) :=
      .adopted (.raised (h.beside rfl))
    rw [takeChosen_other _ u rfl hc]
    exact .ite (hadopted.beside rfl) hadopted

theorem agreed (h : RangesKept s u) : RangesKept s (completeAgreement u) :=
  .settled (h.chosen.beside (by simp [rangeView]))

theorem agreementTested (h : RangesKept s u) : RangesKept s (testAgreement u) := .ite h.agreed h

theorem frameReceived {src : Station} (h : RangesKept s u) : RangesKept s (frameTaken src u) :=
  .ite (.raised (h.beside rfl)) (h.beside rfl)

/-! The peer table (R44 to R46). -/

theorem beaconTaken {src : Station} {body : List Byte} (h : RangesKept s u) : RangesKept s (takeBeacon src body u) := by
  have hpeer : ∀ p, RangesKept s (setPeer src p u) := fun p => h.beside rfl
  unfold takeBeacon
  split
  · exact h
  · exact .ite (.agreementTested (.rosterChecked (hpeer _))) h
  · exact .agreementTested (.ite (.rosterChecked (hpeer _)) (hpeer _))

theorem silenced {n : Station} (h : RangesKept s u) : RangesKept s (silencePeer n u) :=
  .agreementTested (.rosterChecked (.peerLost (h.beside rfl)))

theorem silentForgotten (h : RangesKept s u) : RangesKept s (forgetSilent u) :=
  .ite (.agreementTested (.rosterChecked (h.beside rfl))) (h.beside rfl)

/-! The design loader (R63, R64). -/

theorem designJudged {body : List Byte} (h : RangesKept s u) : RangesKept s (judgeDesign body u) := by
  unfold judgeDesign
  split
  · exact h
  · split
    · rename_i seg _
      rcases judgeSegment_cases seg u with e | ⟨-, e⟩ | ⟨reason, -, e⟩ | ⟨-, -, e⟩ <;> rw [e]
      · exact h
      · exact h.beside rfl
      · exact h.lockedOut
      · exact h.beside (by simp [rangeView])
    · exact h

/-! The axis (R82, R84, R88 to R95). -/

theorem windowMoved {pcRaw : Int} {base : Nat} {fault : Option FaultCode} (h : RangesKept s u) :
    RangesKept s (windowMove pcRaw base fault u) := by
  have hclamp : RangesKept s (clampFault pcRaw fault u) := by
    unfold clampFault
    split
    · exact .ite h.raised h
    · exact h
  have hkept : (clampFault pcRaw fault u).thm = u.thm ∧ (clampFault pcRaw fault u).params = u.params := by
    unfold clampFault
    split
    · split <;> simp
    · exact ⟨rfl, rfl⟩
  exact hclamp.beside (by simp [rangeView, windowMove_flt, hkept])

theorem axisWorked {w : WindowRec} (h : RangesKept s u) : RangesKept s (axisWork w u) := by
  unfold axisWork
  dsimp only
  split
  · exact h.windowMoved
  · exact h.windowMoved
  · exact h.windowMoved
  · exact h.windowMoved
  · exact h
  · exact h
  · exact h

theorem homingEnded (h : RangesKept s u) : RangesKept s (homingSuccess u) := .unlatched (h.beside rfl)

theorem homedLeft (h : RangesKept s u) : RangesKept s (leaveHomed u) := .ite h.raised h

/-! The selector (R108 to R118). -/

theorem jammed {p : Nat} (h : RangesKept s u) : RangesKept s (jam p u) := .raised (h.beside rfl)

theorem moveStarted {p : Nat} {lines : CodeLines} (h : RangesKept s u) : RangesKept s (startMove p lines u) := by
  unfold startMove
  dsimp only
  split
  · exact .ite (h.beside rfl) (h.beside rfl)
  · split
    · exact .ite (h.beside rfl) (h.beside rfl)
    · exact .jammed (h.beside rfl)
  · exact h
  · exact h
  · exact h

theorem selected {colour : Nat} {lines : CodeLines} (h : RangesKept s u) : RangesKept s (windowSelect colour lines u) :=
  .ite h.moveStarted h.raised

theorem trimFired (h : RangesKept s u) : RangesKept s (fireTrim u) := .ite h (h.beside rfl)

theorem trimmedOrSelected {colour : Nat} {lines : CodeLines} (h : RangesKept s u) :
    RangesKept s (trimThenSelect colour lines u) := .ite h.trimFired h.selected

theorem selectedAfterTrim {lines : CodeLines} (h : RangesKept s u) : RangesKept s (selectAfterTrim lines u) := by
  unfold selectAfterTrim
  split
  · split
    · exact h.selected
    · exact h.selected
    · exact h
  · exact h

theorem detentCounted (h : RangesKept s u) : RangesKept s (countDetent u).1 := by
  unfold countDetent
  dsimp only
  generalize (if u.slu.dir == .positive then decide (15 ≤ u.slu.counter) else u.slu.counter == 0) = outOfRange
  cases outOfRange
  · exact h.beside rfl
  · exact h.beside rfl

theorem detentMoving {p : Nat} (h : RangesKept s u) : RangesKept s (detentWhileMoving p u) :=
  .ite h.detentCounted.jammed (.ite (h.detentCounted.beside rfl) (h.detentCounted.beside rfl))

theorem detentConfirming {p : Nat} (h : RangesKept s u) : RangesKept s (detentWhileConfirming p u) :=
  .ite h.detentCounted h.detentCounted.jammed

theorem settleCodeRead {p : Nat} {lines : CodeLines} (h : RangesKept s u) : RangesKept s (settleRead p lines u) := by
  unfold settleRead
  split
  · exact h.jammed
  · exact .ite (h.beside rfl) (.ite (.jammed (h.beside rfl)) (h.beside rfl))

/-! The stroke unit and the thread monitor (R124, R131 to R133, R136 to R141). -/

theorem strokeDecided {n : Nat} {r : Rec} (h : RangesKept s u) : RangesKept s (strokeWork n r u) :=
  .ite (.ite (h.beside rfl) h.raised) h

theorem headWorked {lines : CodeLines} {w : WindowRec} (h : RangesKept s u) : RangesKept s (headWork lines w u) := by
  unfold headWork
  split
  · exact h.trimmedOrSelected
  · exact h.trimmedOrSelected
  · exact .ite h.trimFired h
  · exact h.strokeDecided
  · exact h
  · exact h
  · exact h

theorem windowOpened {lines : CodeLines} {w : WindowRec} (h : RangesKept s u) : RangesKept s (openWindow lines w u) := by
  have hopened : RangesKept s (openingOf w u) := by
    refine RangesKept.beside (RangesKept.advanced (c := cursorAfter w u.pcu.cursor) (u := openPace w (applyPending u)) ?_) ?_
    · exact h.beside rfl
    · simp [rangeView, openingOf]
  rw [openWindow_eq]
  exact .ite hopened.headWorked hopened.axisWorked

/-- R136 to R139: a class raises its fault at most. -/
theorem runsUpdated {k : StrokeClass} (h : RangesKept s u) : RangesKept s (updateRuns k u) := by
  obtain ⟨t, e, hflt, hview⟩ := updateRuns_cases k u
  simp only [bobbinView, Prod.mk.injEq] at hview
  obtain ⟨hps, -, hb, hl⟩ := hview
  have ht : RangesKept s t := h.beside (by simp only [rangeView, hflt, hb, hl, hps])
  obtain e | ⟨c, d1, d2, -, -, e⟩ := e <;> rw [e]
  · exact ht
  · exact ht.raised

/-- R141: a counter that falls stays at or below the value last loaded. -/
theorem bobbinTaken (h : RangesKept s u) : RangesKept s (subtractBobbin u) := by
  unfold subtractBobbin
  split
  · exact h
  · rename_i b hb
    have hless : RangesKept u
        { u with thm := { u.thm with bobbin := some (b - bobbinThread u.params u.stu.copy) } } := by
      refine ⟨id, fun hu x hx => ?_, id⟩
      obtain rfl := Option.some.inj hx
      obtain ⟨l, hl, hle⟩ := hu b hb
      exact ⟨l, hl, (Nat.sub_le _ _).trans hle⟩
    have hlow := h.trans hless
    exact .ite (.raised (.ite hlow.raised hlow)) (.ite hlow.raised hlow)

/-- R140: the counter starts at the value last loaded. -/
theorem bobbinLoaded {b : Nat} (h : RangesKept s u) : RangesKept s (loadBobbin b u) := by
  have hload : RangesKept u { u with thm := { u.thm with bobbin := some b, lastLoaded := some b } } := by
    refine ⟨id, fun _ x hx => ?_, id⟩
    obtain rfl := Option.some.inj hx
    exact ⟨_, rfl, le_rfl⟩
  exact .unlatched (.unlatched (h.trans hload))

theorem strokeEnded (h : RangesKept s u) : RangesKept s (strokeEnd u) := by
  have htaken : RangesKept s (subtractBobbin (updateRuns (classOfStroke u) (markStroked u))) :=
    .bobbinTaken (.runsUpdated (h.beside rfl))
  exact htaken.beside (by simp [rangeView, strokeEnd])

theorem needleAtTop (h : RangesKept s u) : RangesKept s (needleReachesTop u) := by
  unfold needleReachesTop
  dsimp only
  split
  · exact .strokeEnded (h.beside rfl)
  · exact h.beside rfl

/-! Joining, CUT and restarts (R51, R167 to R170, R177, R178). -/

theorem joiningCompleted {lines : CodeLines} (h : RangesKept s u) : RangesKept s (completeJoining lines u) := by
  have hstopped : RangesKept s (joinedStopped (joiningSeated lines u)) := h.beside (by simp [rangeView, joinedStopped])
  rw [completeJoining_eq, stopJoined_eq]
  exact .ite hstopped.rosterChecked.raised hstopped.rosterChecked

theorem selfTestRecorded {role : Role} {ring bad : Bool} (h : RangesKept s u) :
    RangesKept s (recordSelfTest role ring bad u) := .ite (h.beside rfl) (.raised (h.beside rfl))

theorem selfTestEnded {role : Role} {ring bad : Bool} {mv : Nat} (h : RangesKept s u) :
    RangesKept s (endSelfTest role ring bad mv u) := by
  have hjoining : RangesKept s (beginJoining (takeSupply mv (recordSelfTest role ring bad u))) :=
    .beside (.startingLevelRaised (.supplySet h.selfTestRecorded)) rfl
  exact .ite (hjoining.beside rfl) hjoining

theorem restartedByOrder {mv : Nat} (s : State) : RangesKept s (restartByOrder mv s) := by
  have hjoining : RangesKept s (raiseStartingLevel (beginJoining (restartValues false (startingLevel mv) s))) :=
    .startingLevelRaised ((restarted s).beside rfl)
  exact .ite (hjoining.beside rfl) hjoining

end RangesKept
end Sys2Proof.Machine

namespace Sys2Proof.Machine

/-! ### Orders keep the three laws (R29 to R178) -/

theorem rangesKept_onService {f : State → State} {s t : State} (ht : onService f s = .next t) (hf : RangesKept s (f s)) :
    RangesKept s t := by
  unfold onService at ht
  cases ht
  exact .ite hf (.refl s)

theorem rangesKept_onFrame {src : Station} {f : State → State} {s t : State} (ht : onFrame src f s = .next t)
    (hf : ∀ u, RangesKept s u → RangesKept s (f u)) : RangesKept s t :=
  rangesKept_onService ht (.ite (hf _ (.frameReceived (.refl s))) (.refl s))

/-- An order keeps the laws where its accepted effect does; a refusal writes the order decoder alone. -/
theorem rangesKept_takeOrder {kind : Byte} {fit : RoleFit} {f : OrderFrame} {owner : State → Verdict} {s t : State}
    (ht : takeOrder kind fit f owner s = .next t) (ho : ∀ s u, owner s = .ok u → RangesKept s u) : RangesKept s t := by
  refine rangesKept_onFrame ht fun u hu => ?_
  unfold judgeOrder
  split
  · exact hu
  · exact hu.beside rfl
  · split
    · rename_i v hv
      exact (hu.trans (ho u v hv)).beside rfl
    · exact hu.beside rfl

theorem rangesKept_order {α : Type} {kind : Byte} {fit : RoleFit} {f : OrderFrame} {args : Option α}
    {owner : α → State → Verdict} {s t : State} (ht : takeOrder kind fit f (withArgs args owner) s = .next t)
    (ho : ∀ a s u, args = some a → owner a s = .ok u → RangesKept s u) : RangesKept s t :=
  rangesKept_takeOrder ht fun s u hu => by
    obtain ⟨a, ha, hu⟩ := withArgs_ok.1 hu
    exact ho a s u ha hu

/-! The pace unit and the axis (R29, R31, R38, R81, R85, R86, R145). -/

theorem rangesKept_ownerRun (a : Unit) (s u : State) (ho : ownerRun a s = .ok u) : RangesKept s u := by
  simp only [ownerRun, require_ok, Except.ok.injEq] at ho
  obtain ⟨-, -, -, -, rfl⟩ := ho
  exact .settled (.of_view rfl)

theorem rangesKept_ownerStop (a : Unit) (s u : State) (ho : ownerStop a s = .ok u) : RangesKept s u := by
  simp only [ownerStop, require_ok, Except.ok.injEq] at ho
  obtain ⟨-, rfl⟩ := ho
  exact .ite (.of_view rfl) (.of_view rfl)

theorem rangesKept_ownerTraverse (d : TravDir) (k : Nat) (s u : State) (ho : ownerTraverse d k s = .ok u) :
    RangesKept s u := by
  simp only [ownerTraverse, require_ok, Except.ok.injEq] at ho
  obtain ⟨-, -, -, -, rfl⟩ := ho
  exact .settled (.ite (.of_view rfl) (.of_view (by simp [rangeView])))

theorem rangesKept_ownerHome (closed : Bool) (a : Unit) (s u : State) (ho : ownerHome closed a s = .ok u) :
    RangesKept s u := by
  simp only [ownerHome, require_ok, Except.ok.injEq] at ho
  obtain ⟨-, -, rfl⟩ := ho
  have hhoming : RangesKept s (startHoming closed s) :=
    .beside (.homedLeft (u := closeSetup s) (.of_view rfl)) rfl
  exact .ite hhoming.homingEnded hhoming

theorem rangesKept_ownerMoveto (x : Int) (s u : State) (ho : ownerMoveto x s = .ok u) : RangesKept s u := by
  simp only [ownerMoveto, require_ok, Except.ok.injEq] at ho
  obtain ⟨-, -, rfl⟩ := ho
  exact .ite (.of_view rfl) (.of_view rfl)

theorem rangesKept_ownerOrigin (a : Unit) (s u : State) (ho : ownerOrigin a s = .ok u) : RangesKept s u := by
  simp only [ownerOrigin, require_ok, Except.ok.injEq] at ho
  obtain ⟨-, -, rfl⟩ := ho
  exact .unlatched (.of_view rfl)

/-! The head (R104, R106, R122, R140). -/

theorem rangesKept_ownerSetmap (ps : List (Nat × Nat)) (s u : State) (ho : ownerSetmap ps s = .ok u) : RangesKept s u := by
  simp only [ownerSetmap, require_ok, Except.ok.injEq] at ho
  obtain ⟨-, -, rfl⟩ := ho
  exact .of_view rfl

theorem rangesKept_ownerSetneedle (q : SetNeedle) (s u : State) (ho : ownerSetneedle q s = .ok u) : RangesKept s u := by
  simp only [ownerSetneedle, require_ok, Except.ok.injEq] at ho
  obtain ⟨-, rfl⟩ := ho
  exact .of_view rfl

theorem rangesKept_ownerBobbin (b : Nat) (s u : State) (ho : ownerBobbin b s = .ok u) : RangesKept s u := by
  simp only [ownerBobbin, require_ok, Except.ok.injEq] at ho
  obtain ⟨-, rfl⟩ := ho
  exact .ite (.raised (.bobbinLoaded (.refl s))) (.bobbinLoaded (.refl s))

/-! The loader and the fault unit (R71 to R74, R113, R161, R162). -/

theorem rangesKept_newDesign (r : Nat) {s u : State} (h : RangesKept s u) : RangesKept s (newDesign r u) := by
  have hseated : RangesKept s (setCursor (Cursor.at r) u) := h.beside (by simp [rangeView])
  have hrole : RangesKept s (newDesignRole r (setCursor (Cursor.at r) u)) :=
    .ite (hseated.beside rfl) (.ite (.raised (hseated.beside rfl)) hseated)
  exact hrole.beside rfl

theorem rangesKept_ownerSetseg (q : SetSeg) (s u : State) (ho : ownerSetseg q s = .ok u) : RangesKept s u := by
  simp only [ownerSetseg, require_ok, Except.ok.injEq] at ho
  obtain ⟨-, -, -, -, rfl⟩ := ho
  exact .ite (rangesKept_newDesign q.r (.of_view rfl)) (.of_view rfl)

theorem rangesKept_ownerResume (a : Unit) (s u : State) (ho : ownerResume a s = .ok u) : RangesKept s u := by
  simp only [ownerResume, require_ok, Except.ok.injEq] at ho
  obtain ⟨-, rfl⟩ := ho
  exact .ite (.unlatched (.of_view rfl)) (.of_view rfl)

theorem rangesKept_clearFaults (cs : List FaultCode) {s u : State} (h : RangesKept s u) : RangesKept s (clearFaults cs u) :=
  .ite (.silentForgotten (h.cleared cs)) (h.cleared cs)

theorem rangesKept_unjam {lines : CodeLines} {s u : State} (hu : unjam lines s = some u) : RangesKept s u := by
  unfold unjam at hu
  split at hu
  · obtain ⟨q, -, rfl⟩ := Option.map_eq_some_iff.1 hu
    exact .of_view rfl
  · cases hu

theorem rangesKept_ownerClear (lines : CodeLines) (c : ClearSet) (s u : State) (ho : ownerClear lines c s = .ok u) :
    RangesKept s u := by
  unfold ownerClear at ho
  split at ho
  · split at ho
    · split at ho
      · rename_i t ht
        exact Except.ok.inj ho ▸ rangesKept_clearFaults _ (rangesKept_unjam ht)
      · cases ho
    · exact Except.ok.inj ho ▸ rangesKept_clearFaults _ (.refl s)
  · split at ho
    · rename_i t ht
      exact Except.ok.inj ho ▸ rangesKept_clearFaults _ (rangesKept_unjam ht)
    · exact Except.ok.inj ho ▸ rangesKept_clearFaults _ (.refl s)

/-- R162: SETACTION names an action only where the fault table allows it. -/
theorem parseSetAction_allowed {args : List Byte} {q : FaultCode × Action} (h : parseSetAction args = some q) :
    q.2 ∈ allowedActions q.1 := by
  unfold parseSetAction at h
  split at h
  · split at h
    · split at h
      · rename_i hallowed
        obtain rfl := Option.some.inj h
        exact hallowed
      · cases h
    · cases h
  · cases h

theorem rangesKept_ownerSetaction (q : FaultCode × Action) (hq : q.2 ∈ allowedActions q.1) (s u : State)
    (ho : ownerSetaction q s = .ok u) : RangesKept s u := by
  obtain rfl := Except.ok.inj ho
  refine (RangesKept.refl s).ofFaults (by simp) (faultLaw_setFault (fun hr => ⟨hr.1, ?_, hr.2.2⟩) fun _ => id)
  rw [if_neg (List.ne_nil_of_mem hq)]
  exact hq

/-! SETUP and RESTART (R175, R178). -/

/-- R175: an accepted list leaves every parameter in its range. -/
theorem paramsLaw_applySetup {ps : Params} {es : List SetupEntry} (hwf : setupWellFormed es = true)
    (hcons : setupConsistent (applySetup ps es) = true) (h : paramsLaw ps) : paramsLaw (applySetup ps es) := by
  obtain ⟨-, hok, hnd⟩ := (setupWellFormed_iff es).1 hwf
  refine ⟨fun q => ?_, hcons⟩
  rw [paramValue_applySetup es q ps hok hnd]
  cases hfind : es.find? fun e => paramOfOctet e.1 == some q with
  | none => exact h.1 q
  | some e =>
    obtain ⟨r, hr, hrange⟩ := (entryOk_iff e).1 (hok e (List.mem_of_find?_eq_some hfind))
    have hnamed : paramOfOctet e.1 = some q := by simpa using List.find?_some hfind
    obtain rfl := Option.some.inj (hr.symm.trans hnamed)
    exact hrange

theorem rangesKept_ownerSetup (es : List SetupEntry) (s u : State) (ho : ownerSetup es s = .ok u) : RangesKept s u := by
  simp only [ownerSetup, require_ok, Except.ok.injEq] at ho
  obtain ⟨-, -, hwf, hcons, rfl⟩ := ho
  have hset : RangesKept s { s with params := applySetup s.params es } := ⟨id, id, paramsLaw_applySetup hwf hcons⟩
  have haxis : RangesKept s (setupAxis es { s with params := applySetup s.params es }) :=
    .ite (hset.homedLeft.beside rfl) hset
  exact .ite (haxis.beside rfl) haxis

theorem rangesKept_execUnknownOrder {code : Byte} {f : OrderFrame} {s t : State} (ht : execUnknownOrder code f s = .next t) :
    RangesKept s t := by
  unfold execUnknownOrder at ht
  split at ht
  · cases ht
    exact .refl s
  · exact rangesKept_takeOrder ht fun s u hu => by cases hu

end Sys2Proof.Machine

namespace Sys2Proof.Machine

/-! ### Events keep the three laws -/

section
variable {s t : State}

/-! The line interface and the peers (R44 to R47, R180 to R186). -/

theorem rangesKept_execBeaconReceived {src : Station} {body : List Byte} (ht : execBeaconReceived src body s = .next t) :
    RangesKept s t := rangesKept_onFrame ht fun _ hu => .ite hu hu.beaconTaken

theorem rangesKept_execPeerAgeExpiry {n : Station} (ht : execPeerAgeExpiry n s = .next t) : RangesKept s t :=
  rangesKept_onService ht (.ite (.refl s) (.ite (.silenced (.refl s)) (.of_view rfl)))

theorem rangesKept_execBeaconTimer (ht : execBeaconTimer s = .next t) : RangesKept s t :=
  rangesKept_onService ht (.of_view (by simp [rangeView]))

theorem rangesKept_execTransmitAttempt (ht : execTransmitAttempt s = .next t) : RangesKept s t := by
  refine rangesKept_onService ht ?_
  split
  · split
    · exact .beside ((RangesKept.refl s).freshCleared (urgentList s)) rfl
    · split
      · exact .ite (.of_view rfl) (.refl s)
      · exact .refl s
  · exact .refl s

theorem rangesKept_execArbitrationLost (ht : execArbitrationLost s = .next t) : RangesKept s t := by
  refine rangesKept_onService ht ?_
  dsimp only
  split
  · exact .of_view rfl
  · exact .refl s

theorem rangesKept_execCollision (ht : execCollision s = .next t) : RangesKept s t := by
  refine rangesKept_onService ht ?_
  dsimp only
  split
  · exact .ite (.raised (.of_view rfl)) (.of_view rfl)
  · exact .refl s

theorem rangesKept_execFrameSent (ht : execFrameSent s = .next t) : RangesKept s t := by
  refine rangesKept_onService ht ?_
  dsimp only
  split
  · split
    · exact .delivered _ (.of_view rfl)
    · exact .of_view rfl
  · exact .refl s

theorem rangesKept_execFrameAbandoned (ht : execFrameAbandoned s = .next t) : RangesKept s t :=
  rangesKept_onService ht (.ite (.refl s) (.of_view rfl))

theorem rangesKept_execLineIdle (ht : execLineIdle s = .next t) : RangesKept s t :=
  rangesKept_onService ht (.ite (.refl s) (.of_view rfl))

/-! The pace unit (R21, R23, R32, R33). -/

theorem rangesKept_execCrossing {lines : CodeLines} (ht : execCrossing lines s = .next t) : RangesKept s t := by
  refine rangesKept_onService ht ?_
  split
  · split
    · exact .windowOpened (.refl s)
    · exact .refl s
  · exact .refl s

theorem rangesKept_execHaltSeenAsserted (ht : execHaltSeenAsserted s = .next t) : RangesKept s t := by
  refine rangesKept_onService ht (.ite ?_ (.of_view rfl))
  exact .of_view (by simp [rangeView])

theorem rangesKept_execHaltSeenReleased (ht : execHaltSeenReleased s = .next t) : RangesKept s t :=
  rangesKept_onService ht (.settled (.of_view rfl))

theorem rangesKept_execHaltPulseEnd (ht : execHaltPulseEnd s = .next t) : RangesKept s t :=
  rangesKept_onService ht (.of_view rfl)

/-! The axis (R82, R83, R86, R92, R93). -/

theorem rangesKept_execWindowMoveStep (ht : execWindowMoveStep s = .next t) : RangesKept s t := by
  refine rangesKept_onService ht ?_
  dsimp only
  split
  · exact .refl s
  · exact .ite (.of_view rfl) (.settled (.of_view rfl))

theorem rangesKept_execHomingStep (ht : execHomingStep s = .next t) : RangesKept s t := by
  refine rangesKept_onService ht ?_
  dsimp only
  split
  · exact .ite (.of_view rfl) (.refl s)
  · exact .refl s

theorem rangesKept_execHomeSwitchSeenClosed (ht : execHomeSwitchSeenClosed s = .next t) : RangesKept s t := by
  refine rangesKept_onService ht (.ite ?_ (.refl s))
  dsimp only
  split
  · exact .settled (.homingEnded (.of_view rfl))
  · exact .of_view rfl

theorem rangesKept_execHomingFail (ht : execHomingFail s = .next t) : RangesKept s t := by
  refine rangesKept_onService ht ?_
  dsimp only
  split
  · exact .ite (.settled (.raised (.of_view rfl))) (.refl s)
  · exact .refl s

theorem rangesKept_execMovetoStep (ht : execMovetoStep s = .next t) : RangesKept s t := by
  refine rangesKept_onService ht ?_
  dsimp only
  split
  · exact .ite (.of_view rfl) (.settled (.of_view rfl))
  · exact .refl s

/-! The selector (R108 to R112). -/

theorem rangesKept_execDetentPulse (ht : execDetentPulse s = .next t) : RangesKept s t := by
  refine rangesKept_onService ht (.ite ?_ (.refl s))
  dsimp only
  split
  · exact .settled (.detentMoving (.of_view rfl))
  · exact .settled (.detentConfirming (.of_view rfl))
  · exact .of_view rfl

theorem rangesKept_execDetentReleased (ht : execDetentReleased s = .next t) : RangesKept s t := by
  refine rangesKept_onService ht (.ite ?_ (.refl s))
  dsimp only
  split
  · exact .settled (.of_view rfl)
  · exact .of_view rfl

theorem rangesKept_execSelMoveLimitExpiry (ht : execSelMoveLimitExpiry s = .next t) : RangesKept s t := by
  refine rangesKept_onService ht ?_
  split
  · exact .ite (.settled (.jammed (.refl s))) (.refl s)
  · exact .refl s

theorem rangesKept_execSelSettleExpiry {lines : CodeLines} (ht : execSelSettleExpiry lines s = .next t) :
    RangesKept s t := by
  refine rangesKept_onService ht ?_
  split
  · exact .ite (.settled (.settleCodeRead (.refl s))) (.refl s)
  · exact .refl s

/-! The stroke unit and the thread monitor (R128 to R134). -/

theorem rangesKept_execNeedleDownSeen (ht : execNeedleDownSeen s = .next t) : RangesKept s t := by
  refine rangesKept_onService ht (.ite (.ite (.of_view ?_) (.of_view rfl)) (.refl s))
  unfold needleReachesBottom
  dsimp only
  split <;> rfl

theorem rangesKept_execNeedleUpSeen (ht : execNeedleUpSeen s = .next t) : RangesKept s t := by
  refine rangesKept_onService ht (.ite ?_ (.refl s))
  dsimp only
  split
  · exact .settled (.needleAtTop (.of_view rfl))
  · exact .settled (.of_view rfl)
  · exact .settled (.of_view rfl)

theorem rangesKept_execStrokeLimitExpiry (ht : execStrokeLimitExpiry s = .next t) : RangesKept s t := by
  have hstuck : RangesKept s (needleStuck s) := .raised (.of_view rfl)
  refine rangesKept_onService ht (.ite ?_ (.refl s))
  split
  · exact .ite (.settled (.raised (.of_view rfl))) hstuck
  · exact hstuck
  · exact .refl s

theorem rangesKept_execConversionEnd {v : BitVec 10} (ht : execConversionEnd v s = .next t) : RangesKept s t :=
  rangesKept_onService ht (.ite (.refl s) (.ite (.settled (.strokeEnded (.of_view rfl))) (.of_view rfl)))

/-- R177: the self-test ends only at a station with a role whose self-test runs. -/
theorem rangesKept_execSelfTestEnd {ring : Bool} {lines : CodeLines} {drive : Bool} {mv : Nat}
    (ht : execSelfTestEnd ring lines drive mv s = .next t) : RangesKept s t := by
  cases ht
  split
  · exact .ite (.selfTestEnded (.refl s)) (.refl s)
  · exact .refl s

end

/-- Every command keeps the three laws: RESET meets them anew, and the others keep them. -/
theorem rangesKept_exec {c : Instr} {s t : State} (ht : exec c s = .next t) : RangesKept s t := by
  cases c with
  | reset number pins =>
    cases ht
    obtain ⟨-, -, -, -, -, -, hfaults, hbobbin, hparams⟩ := lawsHoldAtReset.1 s.pending number (roleOfPins pins)
    exact ⟨fun _ => hfaults, fun _ => hbobbin, fun _ => hparams⟩
  | selfTestEnd ring lines drive mv => exact rangesKept_execSelfTestEnd ht
  | joiningListenEnd lines => exact rangesKept_onService ht (.ite (.joiningCompleted (.refl s)) (.refl s))
  | run f => exact rangesKept_order ht fun a s u _ => rangesKept_ownerRun a s u
  | stop f => exact rangesKept_order ht fun a s u _ => rangesKept_ownerStop a s u
  | rate f => exact rangesKept_order ht fun a s u _ ho => Except.ok.inj ho ▸ .of_view rfl
  | back f => exact rangesKept_order ht fun a s u _ => rangesKept_ownerTraverse .back a s u
  | forward f => exact rangesKept_order ht fun a s u _ => rangesKept_ownerTraverse .forward a s u
  | home f closed => exact rangesKept_order ht fun a s u _ => rangesKept_ownerHome closed a s u
  | moveto f => exact rangesKept_order ht fun a s u _ => rangesKept_ownerMoveto a s u
  | origin f => exact rangesKept_order ht fun a s u _ => rangesKept_ownerOrigin a s u
  | setmap f => exact rangesKept_order ht fun a s u _ => rangesKept_ownerSetmap a s u
  | setneedle f => exact rangesKept_order ht fun a s u _ => rangesKept_ownerSetneedle a s u
  | headOn f => exact rangesKept_order ht fun a s u _ ho => Except.ok.inj ho ▸ .of_view rfl
  | headOff f => exact rangesKept_order ht fun a s u _ ho => Except.ok.inj ho ▸ .of_view rfl
  | bobbin f => exact rangesKept_order ht fun a s u _ => rangesKept_ownerBobbin a s u
  | setseg f => exact rangesKept_order ht fun a s u _ => rangesKept_ownerSetseg a s u
  | resumeLoad f => exact rangesKept_order ht fun a s u _ => rangesKept_ownerResume a s u
  | clear f lines => exact rangesKept_order ht fun a s u _ => rangesKept_ownerClear lines a s u
  | setaction f => exact rangesKept_order ht fun a s u ha => rangesKept_ownerSetaction a (parseSetAction_allowed ha) s u
  | setup f => exact rangesKept_order ht fun a s u _ => rangesKept_ownerSetup a s u
  | restart f mv => exact rangesKept_order ht fun _ s u _ ho => Except.ok.inj ho ▸ .restartedByOrder s
  | unknownOrder code f => exact rangesKept_execUnknownOrder ht
  | designSegment src body => exact rangesKept_onFrame ht fun _ hu => hu.designJudged
  | beaconReceived src body => exact rangesKept_execBeaconReceived ht
  | urgentReceived src body => exact rangesKept_onFrame ht fun _ hu => hu
  | peerAgeExpiry n => exact rangesKept_execPeerAgeExpiry ht
  | beaconTimer => exact rangesKept_execBeaconTimer ht
  | transmitAttempt => exact rangesKept_execTransmitAttempt ht
  | arbitrationLost => exact rangesKept_execArbitrationLost ht
  | collision => exact rangesKept_execCollision ht
  | frameSent => exact rangesKept_execFrameSent ht
  | crossing lines => exact rangesKept_execCrossing ht
  | guardEnd => exact rangesKept_onService ht (.ite (.of_view rfl) (.refl s))
  | minAssertionEnd => exact rangesKept_onService ht (.ite (.settled (.of_view rfl)) (.refl s))
  | haltSeenAsserted => exact rangesKept_execHaltSeenAsserted ht
  | haltSeenReleased => exact rangesKept_execHaltSeenReleased ht
  | haltWaitExpiry => exact rangesKept_onService ht (.ite (.stopped (.refl s)) (.refl s))
  | haltPulseEnd => exact rangesKept_execHaltPulseEnd ht
  | starveTimerExpiry => exact rangesKept_onService ht (.ite (.raised (.of_view rfl)) (.refl s))
  | stallTimerExpiry => exact rangesKept_onService ht (.ite (.raised (.of_view rfl)) (.refl s))
  | agreementTimerExpiry => exact rangesKept_onService ht (.ite (.agreed (.refl s)) (.refl s))
  | windowMoveStep => exact rangesKept_execWindowMoveStep ht
  | homingStep => exact rangesKept_execHomingStep ht
  | homeSwitchSeenClosed => exact rangesKept_execHomeSwitchSeenClosed ht
  | homingFail => exact rangesKept_execHomingFail ht
  | movetoStep => exact rangesKept_execMovetoStep ht
  | driveFaultAsserted => exact rangesKept_onService ht (.ite (.raised (.of_view rfl)) (.refl s))
  | driveFaultReleased => exact rangesKept_onService ht (.ite (.of_view rfl) (.refl s))
  | trimPulseEnd lines =>
    exact rangesKept_onService ht (.ite (.settled (.selectedAfterTrim (.of_view rfl))) (.refl s))
  | detentPulse => exact rangesKept_execDetentPulse ht
  | detentReleased => exact rangesKept_execDetentReleased ht
  | selMoveLimitExpiry => exact rangesKept_execSelMoveLimitExpiry ht
  | selSettleExpiry lines => exact rangesKept_execSelSettleExpiry ht
  | needleDownSeen => exact rangesKept_execNeedleDownSeen ht
  | needleDownReleased => exact rangesKept_onService ht (.ite (.of_view rfl) (.refl s))
  | needleUpSeen => exact rangesKept_execNeedleUpSeen ht
  | needleUpReleased => exact rangesKept_onService ht (.ite (.of_view rfl) (.refl s))
  | strokeLimitExpiry => exact rangesKept_execStrokeLimitExpiry ht
  | sampleOneShotEnd => exact rangesKept_onService ht (.ite (.of_view rfl) (.refl s))
  | conversionEnd v => exact rangesKept_execConversionEnd ht
  | dwellEnd => exact rangesKept_onService ht (.ite (.ite (.settled (.of_view rfl)) (.of_view rfl)) (.refl s))
  | feedPulse => exact rangesKept_onService ht (.ite (.of_view rfl) (.refl s))
  | surge => exact rangesKept_onService ht (.ite (.of_view rfl) (.refl s))
  | supplyFallWarn => exact rangesKept_onService ht (.ite (.raised (.supplySet (.refl s))) (.refl s))
  | supplyRiseNormal => exact rangesKept_onService ht (.ite (.supplySet (.refl s)) (.refl s))
  | supplyFallLow => exact rangesKept_onService ht (.ite (.raised (.supplySet (.refl s))) (.refl s))
  | supplyRiseWarn => exact rangesKept_onService ht (.ite (.supplySet (.refl s)) (.refl s))
  | supplyFallCut =>
    have hcut : RangesKept s (setSupply .cut s) := .supplySet (.refl s)
    exact rangesKept_onService ht (.ite (hcut.beside rfl) (.refl s))
  | supplyRecovery => exact rangesKept_onService ht (.ite ((RangesKept.restarted s).beside rfl) (.refl s))
  | frameAbandoned => exact rangesKept_execFrameAbandoned ht
  | lineIdle => exact rangesKept_execLineIdle ht

/-- Settles O58: every command keeps the three laws, and so does a step, which takes the command from the queue. -/
theorem recordsCountersAndParametersStayInRange : Obligations.RecordsCountersAndParametersStayInRange := by
  intro s t ht
  suffices h : RangesKept s t from ⟨h.faults, h.bobbin, h.params⟩
  unfold step at ht
  split at ht
  · cases ht
    exact .refl s
  · rename_i c rest _
    exact .trans (t := { s with pending := rest }) (.of_view rfl) (rangesKept_exec ht)

end Sys2Proof.Machine

namespace Sys2Proof.Machine

/-! ### The feed band in arithmetic (R135) -/

/-- R2: the magnitude of a displacement octet. -/
theorem displacement_natAbs_le (b : Byte) : b.toInt.natAbs ≤ 128 := by
  have hlow := BitVec.le_toInt b
  have hhigh := BitVec.toInt_lt (x := b)
  norm_num at hlow hhigh
  omega

/-- R135: the larger magnitude and three eighths of the smaller, as a sum, lie in 0 to 176. -/
theorem stitchLength_le (r : Rec) : stitchLength r ≤ 176 := by
  have ha := displacement_natAbs_le r.o1
  have hb := displacement_natAbs_le r.o2
  simp only [stitchLength]
  omega

theorem expectedFeed_le {ps : Params} {ls : Nat} (hka : ps.ka ≤ 255) (hkb : ps.kb ≤ 4095) (hls : ls ≤ 176) :
    expectedFeed ps ls ≤ 765 := by
  have hmul : ps.ka * ls ≤ 255 * 176 := Nat.mul_le_mul hka hls
  simp only [expectedFeed]
  omega

theorem one_le_feedBand (ps : Params) (e : Nat) : 1 ≤ feedBand ps e := Nat.le_max_left _ _

theorem feedBand_le {ps : Params} {e : Nat} (hd : ps.delta ≤ 15) (he : e ≤ 765) : feedBand ps e ≤ 717 := by
  have hmul : e * ps.delta ≤ 765 * 15 := Nat.mul_le_mul he hd
  simp only [feedBand]
  omega

/-- R135: the band is at most fifteen sixteenths of the expected feed, or 1. -/
theorem feedBand_le_succ {ps : Params} (e : Nat) (hd : ps.delta ≤ 15) : feedBand ps e ≤ e + 1 := by
  have hmul : e * ps.delta ≤ e * 15 := Nat.mul_le_mul_left e hd
  simp only [feedBand]
  omega

/-- R135: the lower bound lo at the least band that DELTA from 1 gives. -/
theorem expectedFeed_sub_feedBand_le {ps : Params} {e : Nat} (hd : 1 ≤ ps.delta) (he : e ≤ 765) :
    (e : Int) - feedBand ps e ≤ 718 := by
  have hmul : e * 1 ≤ e * ps.delta := Nat.mul_le_mul_left e hd
  simp only [feedBand]
  omega

/-- R135: the class of a feed is where it lies against the bounds lo and hi. -/
theorem feedClass_iff (ps : Params) (r : Rec) (p : Nat) {e band : Nat} (he : expectedFeed ps (stitchLength r) = e)
    (hb : feedBand ps e = band) :
    (feedClass ps r p = .short ↔ (p : Int) < (e : Int) - band) ∧
    (feedClass ps r p = .long ↔ (e : Int) + band < (p : Int)) ∧
    (feedClass ps r p = .normal ↔ (e : Int) - band ≤ (p : Int) ∧ (p : Int) ≤ (e : Int) + band) := by
  simp only [feedClass, he, hb]
  by_cases hshort : p + band < e
  · simp only [if_pos hshort, reduceCtorEq, true_iff, false_iff]
    omega
  · by_cases hlong : e + band < p
    · simp only [if_neg hshort, if_pos hlong, reduceCtorEq, true_iff, false_iff]
      omega
    · simp only [if_neg hshort, if_neg hlong, reduceCtorEq, true_iff, false_iff]
      omega

/-- Settles O51: the ranges step by step from the octets on, and the class by the bounds. -/
theorem feedBandArithmetic : Obligations.FeedBandArithmetic := by
  intro ps r p hka hkb hd1 hd15 a b ls e band lo hi
  have hls : ls ≤ 176 := stitchLength_le r
  have he : e ≤ 765 := expectedFeed_le hka hkb hls
  have hband1 : 1 ≤ band := one_le_feedBand ps e
  have hband : band ≤ 717 := feedBand_le hd15 he
  have hsucc : band ≤ e + 1 := feedBand_le_succ e hd15
  have hhigh : lo ≤ 718 := expectedFeed_sub_feedBand_le hd1 he
  obtain ⟨hshort, hlong, hnormal⟩ := feedClass_iff ps r p (e := e) (band := band) rfl rfl
  refine ⟨⟨displacement_natAbs_le r.o1, displacement_natAbs_le r.o2, rfl, hls⟩, ⟨rfl, he⟩, ⟨rfl, hband1, hband⟩,
    ⟨by omega, hhigh⟩, ⟨by omega, by omega⟩, hshort, hlong, hnormal, fun hneg hs => ?_, fun hhi hp hl => ?_⟩
  · have := hshort.1 hs
    omega
  · have := hlong.1 hl
    omega

end Sys2Proof.Machine

namespace Sys2Proof.Machine

/-! ### BOBBIN (R140) -/

/-- R140: the counter loaded, both bobbin faults unlatched, and nothing else changed. -/
theorem loadBobbin_spec (b : Nat) (s : State) :
    faultRec .bobbinEmpty (loadBobbin b s) = { faultRec .bobbinEmpty s with latched := false } ∧
    faultRec .bobbinLow (loadBobbin b s) = { faultRec .bobbinLow s with latched := false } ∧
    (∀ d : FaultCode, d ≠ .bobbinEmpty ∧ d ≠ .bobbinLow → faultRec d (loadBobbin b s) = faultRec d s) ∧
    (loadBobbin b s).flt.supply = s.flt.supply ∧ (loadBobbin b s).flt.axisMark = s.flt.axisMark ∧
    loadBobbin b s =
      { s with flt := (loadBobbin b s).flt, thm := { s.thm with bobbin := some b, lastLoaded := some b } } := by
  have hne : FaultCode.bobbinLow ≠ .bobbinEmpty := by decide
  unfold loadBobbin
  refine ⟨?_, ?_, fun d hd => ?_, ?_, ?_, ?_⟩
  · rw [faultRec_unlatch_self, faultRec_unlatch_ne _ _ _ hne.symm]
    rfl
  · rw [faultRec_unlatch_ne _ _ _ hne, faultRec_unlatch_self]
    rfl
  · rw [faultRec_unlatch_ne _ _ _ hd.1, faultRec_unlatch_ne _ _ _ hd.2]
    rfl
  · rw [unlatch_supply, unlatch_supply]
  · rw [unlatch_axisMark _ _ (by decide), unlatch_axisMark _ _ (by decide)]
  · ext1 <;> simp

/-- R140: the station once a BOBBIN has loaded the counter and raised BOBBIN-LOW where it is due. -/
def bobbinGiven (b : Nat) (s : State) : State :=
  if b < bobbinWarnLevel s.params then raise .bobbinLow (bobbinMetres b) 0 (loadBobbin b s) else loadBobbin b s

theorem exec_bobbin_accepted {f : OrderFrame} {a b c : Byte} {s : State} (hj : judgedAt .headOnly f s)
    (ha : f.args = [a, b, c]) (h0 : be24 a b c ≠ 0) :
    exec (.bobbin f) s = .next (countAccepted (bobbinGiven (be24 a b c) (frameTaken f.src s))) :=
  takeOrder_accepted _ _ _ _ _ _ hj (by
    simp [ha, parseU24, withArgs, ownerBobbin, bobbinGiven, Nat.one_le_iff_ne_zero.2 h0])

theorem bobbinGiven_frame (b : Nat) (s : State) :
    bobbinGiven b s =
      { s with flt := (bobbinGiven b s).flt, thm := { s.thm with bobbin := some b, lastLoaded := some b } } := by
  obtain ⟨-, -, -, -, -, hframe⟩ := loadBobbin_spec b s
  unfold bobbinGiven
  split
  · conv_lhs => rw [raise, raiseAs, setFault, hframe]
    rfl
  · exact hframe

/-- R140: the fault records after a BOBBIN. -/
theorem bobbinGiven_faults (b : Nat) (s : State) :
    faultRec .bobbinEmpty (bobbinGiven b s) = { faultRec .bobbinEmpty s with latched := false } ∧
    faultRec .bobbinLow (bobbinGiven b s) =
      (if b < bobbinWarnLevel s.params then
        raisedRec (faultRec .bobbinLow s).action (bobbinMetres b) 0 { faultRec .bobbinLow s with latched := false }
      else { faultRec .bobbinLow s with latched := false }) ∧
    (∀ d : FaultCode, d ≠ .bobbinEmpty ∧ d ≠ .bobbinLow → faultRec d (bobbinGiven b s) = faultRec d s) ∧
    (bobbinGiven b s).flt.supply = s.flt.supply ∧ (bobbinGiven b s).flt.axisMark = s.flt.axisMark := by
  obtain ⟨hempty, hlow, hrest, hsupply, hmark, -⟩ := loadBobbin_spec b s
  obtain ⟨hraised, hother, hmark', hsupply'⟩ := raiseIf_over .bobbinLow (bobbinMetres b) 0
    (b < bobbinWarnLevel s.params) (loadBobbin b s) (loadBobbin b s) (w := bobbinGiven b s) rfl rfl rfl
  refine ⟨(hother _ (by decide)).trans hempty, ?_, fun d hd => (hother d hd.2).trans (hrest d hd),
    hsupply'.trans hsupply, hmark'.trans hmark⟩
  by_cases hwarn : b < bobbinWarnLevel s.params
  · rw [if_pos hwarn] at hraised ⊢
    rw [hraised, hlow]
  · rw [if_neg hwarn] at hraised ⊢
    rw [hraised, hlow]

/-! ### The bobbin at the end of a stroke (R131, R141) -/

/-- R141: the counter fallen from `b` to `left`, with BOBBIN-LOW raised where that passes the warning level. -/
def bobbinFallen (b left : Nat) (s : State) : State :=
  if bobbinWarnLevel s.params ≤ b ∧ left < bobbinWarnLevel s.params then
    raise .bobbinLow (bobbinMetres left) 0 { s with thm := { s.thm with bobbin := some left } }
  else { s with thm := { s.thm with bobbin := some left } }

theorem subtractBobbin_some {b left : Nat} {s : State} (hb : s.thm.bobbin = some b)
    (hl : b - bobbinThread s.params s.stu.copy = left) :
    subtractBobbin s =
      if left = 0 then raise .bobbinEmpty (bobbinMetres left) 0 (bobbinFallen b left s) else bobbinFallen b left s := by
  simp only [subtractBobbin, hb, hl]
  rfl

/-- R141: BOBBIN-LOW where the counter falls below the warning level, BOBBIN-EMPTY where nothing is left. -/
theorem subtractBobbin_raises {b left : Nat} {s : State} (hb : s.thm.bobbin = some b)
    (hl : b - bobbinThread s.params s.stu.copy = left) :
    (if bobbinWarnLevel s.params ≤ b ∧ left < bobbinWarnLevel s.params then
      raisedIn .bobbinLow (bobbinMetres left) 0 s (subtractBobbin s)
    else faultRec .bobbinLow (subtractBobbin s) = faultRec .bobbinLow s) ∧
    (if left = 0 then raisedIn .bobbinEmpty 0 0 s (subtractBobbin s)
    else faultRec .bobbinEmpty (subtractBobbin s) = faultRec .bobbinEmpty s) := by
  obtain ⟨hlow, hrest, -, -⟩ := raiseIf_over (e := s) .bobbinLow (bobbinMetres left) 0 _ _ _
    (rfl : _ = bobbinFallen b left s) rfl rfl
  obtain ⟨hempty, hkept, -, -⟩ := raiseIf_over .bobbinEmpty (bobbinMetres left) 0 _ _ _
    (subtractBobbin_some hb hl).symm rfl rfl
  have hsame := hrest .bobbinEmpty (by decide)
  rw [raisedIn_congr (hkept .bobbinLow (by decide)), hkept .bobbinLow (by decide)]
  refine ⟨hlow, ?_⟩
  by_cases h0 : left = 0
  · subst h0
    rw [if_pos rfl] at hempty ⊢
    rw [raisedIn, hempty, hsame]
    rfl
  · rw [if_neg h0] at hempty ⊢
    rw [hempty, hsame]

/-- R137: the runs and counts of a class leave the bobbin, and raise no fault of it. -/
theorem updateRuns_bobbin (k : StrokeClass) (s : State) :
    bobbinView (updateRuns k s) = bobbinView s ∧ (updateRuns k s).flt.axisMark = s.flt.axisMark ∧
    (updateRuns k s).flt.supply = s.flt.supply ∧
    ∀ c : FaultCode, c = .bobbinLow ∨ c = .bobbinEmpty → faultRec c (updateRuns k s) = faultRec c s := by
  obtain ⟨t, e | ⟨c, d1, d2, hlow, hempty, e⟩, hflt, hview⟩ := updateRuns_cases k s
  · rw [e]
    exact ⟨hview, by rw [hflt], by rw [hflt], fun c _ => faultRec_congr hflt c⟩
  · obtain ⟨-, hne, hsupply, hmark, -⟩ := raise_over c d1 d2 hflt
    rw [e]
    refine ⟨hview, hmark, hsupply, fun d hd => hne d ?_⟩
    rcases hd with rfl | rfl
    · exact hlow.symm
    · exact hempty.symm

/-- R131, R141: what the end of a stroke leaves of the bobbin, where `w` is what its class left. -/
theorem strokeEnd_bobbin (e : State) :
    ∃ w : State, bobbinView w = bobbinView e ∧ w.flt.axisMark = e.flt.axisMark ∧ w.flt.supply = e.flt.supply ∧
      (∀ c : FaultCode, c = .bobbinLow ∨ c = .bobbinEmpty → faultRec c w = faultRec c e) ∧
      (settle (strokeEnd e)).thm = (subtractBobbin w).thm ∧ (settle (strokeEnd e)).flt = (subtractBobbin w).flt := by
  obtain ⟨hview, hmark, hsupply, hrec⟩ := updateRuns_bobbin (classOfStroke e) (markStroked e)
  refine ⟨updateRuns (classOfStroke e) (markStroked e), hview, hmark, hsupply, hrec, ?_, ?_⟩
  · simp [strokeEnd]
  · simp [strokeEnd]

/-- R141: the end of a stroke with a counter that is present. -/
theorem strokeEnd_takesThread {e : State} {b : Nat} (hb : e.thm.bobbin = some b) :
    (settle (strokeEnd e)).flt.axisMark = e.flt.axisMark ∧ (settle (strokeEnd e)).flt.supply = e.flt.supply ∧
    (settle (strokeEnd e)).thm.bobbin = some (b - bobbinThread e.params e.stu.copy) ∧
    (settle (strokeEnd e)).thm.lastLoaded = e.thm.lastLoaded ∧
    (if bobbinWarnLevel e.params ≤ b ∧ b - bobbinThread e.params e.stu.copy < bobbinWarnLevel e.params then
      raisedIn .bobbinLow (bobbinMetres (b - bobbinThread e.params e.stu.copy)) 0 e (settle (strokeEnd e))
    else faultRec .bobbinLow (settle (strokeEnd e)) = faultRec .bobbinLow e) ∧
    (if b - bobbinThread e.params e.stu.copy = 0 then raisedIn .bobbinEmpty 0 0 e (settle (strokeEnd e))
    else faultRec .bobbinEmpty (settle (strokeEnd e)) = faultRec .bobbinEmpty e) := by
  obtain ⟨w, hview, hmark, hsupply, hrec, hthm, hflt⟩ := strokeEnd_bobbin e
  simp only [bobbinView, Prod.mk.injEq] at hview
  obtain ⟨hparams, hcopy, hbobbin, hloaded⟩ := hview
  obtain ⟨hthm', hmark', hsupply', -⟩ := subtractBobbin_spec w
  obtain ⟨hlow, hempty⟩ := subtractBobbin_raises (hbobbin.trans hb) rfl
  simp only [hparams, hcopy, raisedIn, hrec .bobbinLow (.inl rfl), hrec .bobbinEmpty (.inr rfl),
    ← faultRec_congr hflt] at hlow hempty
  refine ⟨by rw [hflt, hmark', hmark], by rw [hflt, hsupply', hsupply], ?_, ?_, hlow, hempty⟩
  · simp only [hthm, hthm', hbobbin, hb, hparams, hcopy, Option.map_some]
  · simp only [hthm, hthm', hloaded]

/-- R141: the end of a stroke without a counter. -/
theorem strokeEnd_noBobbin {e : State} (hb : e.thm.bobbin = none) :
    (settle (strokeEnd e)).flt.axisMark = e.flt.axisMark ∧ (settle (strokeEnd e)).flt.supply = e.flt.supply ∧
    (settle (strokeEnd e)).thm.bobbin = none ∧
    faultRec .bobbinLow (settle (strokeEnd e)) = faultRec .bobbinLow e ∧
    faultRec .bobbinEmpty (settle (strokeEnd e)) = faultRec .bobbinEmpty e := by
  obtain ⟨w, hview, hmark, hsupply, hrec, hthm, hflt⟩ := strokeEnd_bobbin e
  simp only [bobbinView, Prod.mk.injEq] at hview
  obtain ⟨-, -, hbobbin, -⟩ := hview
  have hsame : subtractBobbin w = w := by simp [subtractBobbin, hbobbin.trans hb]
  rw [hsame] at hthm hflt
  exact ⟨by rw [hflt, hmark], by rw [hflt, hsupply], by rw [hthm, hbobbin, hb],
    (faultRec_congr hflt _).trans (hrec _ (.inl rfl)), (faultRec_congr hflt _).trans (hrec _ (.inr rfl))⟩

/-- Settles O20: BOBBIN by what it loads and raises, and the end of a stroke at NEEDLE-UP and at the end of the conversion. -/
theorem bobbinCounter : Obligations.BobbinCounter := by
  refine ⟨fun f a b c s hj ha h0 => ?_, fun f a b c s hj ha h0 => ?_, fun t late b s hi hh hp hx hb => ?_,
    fun t late s hi hh hp hx hb => ?_, fun v b s hi hp hc hb => ?_, fun v s hi hp hc hb => ?_⟩
  · exact takeOrder_refused _ _ _ _ _ _ hj (by simp [ha, parseU24, withArgs, ownerBobbin, h0])
  · obtain ⟨hempty, hlow, hrest, hsupply, hmark⟩ := bobbinGiven_faults (be24 a b c) (frameTaken f.src s)
    obtain ⟨hsupply', hmark'⟩ := frameTaken_marks f.src s
    have hps : (frameTaken f.src s).params = s.params := by simp
    have hthm : (frameTaken f.src s).thm = s.thm := by simp
    rw [hps] at hlow
    refine ⟨_, exec_bobbin_accepted hj ha h0, hempty, hlow, hrest, hsupply.trans hsupply', hmark.trans hmark', ?_⟩
    conv_lhs => rw [bobbinGiven_frame, hthm]
    rfl
  · exact ⟨_, exec_needleUpSeen_ends hi hh hp hx, strokeEnd_takesThread (e := atTop s) hb⟩
  · exact ⟨_, exec_needleUpSeen_ends hi hh hp hx, strokeEnd_noBobbin (e := atTop s) hb⟩
  · exact ⟨_, exec_conversionEnd_ends hi v hc hp, strokeEnd_takesThread (e := converted v s) hb⟩
  · exact ⟨_, exec_conversionEnd_ends hi v hc hp, strokeEnd_noBobbin (e := converted v s) hb⟩

end Sys2Proof.Machine

namespace Sys2Proof.Machine

/-! ### Counting held displacement records (R147, R148) -/

theorem displacementsIn_of_le (r : Ring) {lo hi : Nat} (h : hi ≤ lo) : displacementsIn r lo hi = 0 := by
  simp [displacementsIn, Nat.sub_eq_zero_of_le h]

theorem displacementsIn_split (r : Ring) {lo mid hi : Nat} (hlo : lo ≤ mid) (hhi : mid ≤ hi) :
    displacementsIn r lo hi = displacementsIn r lo mid + displacementsIn r mid hi := by
  have hlen : hi - lo = (mid - lo) + (hi - mid) := by omega
  have hat : ∀ i, lo + (mid - lo + i) = mid + i := fun i => by omega
  simp [displacementsIn, hlen, List.range_add, List.countP_map, Function.comp_def, hat]

theorem displacementsIn_single {r : Ring} {n : Nat} {x : Rec} (hx : ringGet r n = some x) :
    displacementsIn r n (n + 1) = if isDisplacement x then 1 else 0 := by
  simp [displacementsIn, List.range_succ, hx, List.countP_cons]

theorem displacementsIn_pos {r : Ring} {lo hi m : Nat} {x : Rec} (hlo : lo ≤ m) (hhi : m < hi) (hx : ringGet r m = some x)
    (hd : isDisplacement x = true) : 0 < displacementsIn r lo hi := by
  have hone := displacementsIn_single hx
  rw [if_pos hd] at hone
  have hrun := displacementsIn_split r hlo (Nat.le_of_lt hhi)
  have hat := displacementsIn_split r (Nat.le_add_right m 1) hhi
  omega

/-! ### The held records below a number and from a number on (R147, R148) -/

theorem ringGet_of_held {r : Ring} {n : Nat} (hF : r.F ≤ n) (hL : n < ringL r) : ∃ x, ringGet r n = some x :=
  Option.isSome_iff_exists.1 ((ringGet_isSome_iff r n).2 ⟨hF, hL⟩)

theorem held_of_ringGet {r : Ring} {n : Nat} {x : Rec} (hx : ringGet r n = some x) : r.F ≤ n ∧ n < ringL r :=
  (ringGet_isSome_iff r n).1 (by simp [hx])

/-- The held records below `n`, highest number first. -/
def heldBelow (r : Ring) (n : Nat) : List Rec := (r.recs.take (n - r.F)).reverse

/-- The held records from `n` on, lowest number first. -/
def heldFrom (r : Ring) (n : Nat) : List Rec := r.recs.drop (n - r.F)

theorem behindDesc_eq_heldBelow {r : Ring} {c : Cursor} (h : frontier r c ≤ ringL r) :
    behindDesc r c = heldBelow r (frontier r c) := if_pos h

theorem behindDesc_beyond {r : Ring} {c : Cursor} (h : ringL r < frontier r c) : behindDesc r c = [] :=
  if_neg (Nat.not_le_of_lt h)

theorem aheadAsc_eq_heldFrom {r : Ring} {c : Cursor} (h : r.F ≤ frontier r c) :
    aheadAsc r c = heldFrom r (frontier r c) := if_pos h

theorem aheadAsc_below {r : Ring} {c : Cursor} (h : frontier r c < r.F) : aheadAsc r c = [] :=
  if_neg (Nat.not_le_of_lt h)

theorem heldBelow_of_le {r : Ring} {n : Nat} (h : n ≤ r.F) : heldBelow r n = [] := by
  simp [heldBelow, Nat.sub_eq_zero_of_le h]

theorem heldBelow_succ {r : Ring} {n : Nat} {x : Rec} (hx : ringGet r n = some x) :
    heldBelow r (n + 1) = x :: heldBelow r n := by
  obtain ⟨hF, hx⟩ := (ringGet_some_iff r n x).1 hx
  simp [heldBelow, Nat.succ_sub hF, List.take_add_one, hx]

theorem heldFrom_of_le {r : Ring} {n : Nat} (h : ringL r ≤ n) : heldFrom r n = [] := by
  unfold ringL at h
  exact List.drop_eq_nil_of_le (by omega)

theorem heldFrom_cons {r : Ring} {n : Nat} {x : Rec} (hx : ringGet r n = some x) :
    heldFrom r n = x :: heldFrom r (n + 1) := by
  obtain ⟨hF, hx⟩ := (ringGet_some_iff r n x).1 hx
  obtain ⟨hlt, rfl⟩ := List.getElem?_eq_some_iff.1 hx
  simp [heldFrom, Nat.succ_sub hF]

/-! ### The record of the next window (R150, R151) -/

/-- R150: going down from `n`, the first displacement record is the highest held one, with every record between held. -/
theorem firstBack_heldBelow {r : Ring} {n : Nat} (hn : n ≤ ringL r) (m : Nat) (x : Rec) :
    firstBack (n - 1) (heldBelow r n) = some (m, x) ↔
      m < n ∧ ringGet r m = some x ∧ isDisplacement x = true ∧
        ∀ j, m < j → j < n → (ringGet r j).any (fun y => !isDisplacement y) = true := by
  induction n with
  | zero => simp [heldBelow, firstBack]
  | succ n ih =>
    rcases Nat.lt_or_ge n r.F with hF | hF
    · rw [heldBelow_of_le hF]
      refine ⟨nofun, fun ⟨hm, hx, _⟩ => ?_⟩
      have := held_of_ringGet hx
      omega
    · obtain ⟨y, hy⟩ := ringGet_of_held hF hn
      rw [heldBelow_succ hy, Nat.add_sub_cancel, firstBack]
      by_cases hd : isDisplacement y = true
      · rw [if_pos hd]
        constructor
        · rintro ⟨⟩
          exact ⟨Nat.lt_succ_self m, hy, hd, fun j _ _ => by omega⟩
        · rintro ⟨hm, hx, -, hbetween⟩
          have hmn : ¬ m < n := fun hlt => by simpa [hy, hd] using hbetween n hlt (Nat.lt_succ_self n)
          obtain rfl : m = n := by omega
          rw [Option.some.inj (hy.symm.trans hx)]
      · rw [if_neg hd, ih (by omega)]
        constructor
        · rintro ⟨hm, hx, hdx, hbetween⟩
          refine ⟨by omega, hx, hdx, fun j hmj hj => ?_⟩
          rcases Nat.lt_succ_iff_lt_or_eq.1 hj with hlt | rfl
          · exact hbetween j hmj hlt
          · simpa [hy] using hd
        · rintro ⟨hm, hx, hdx, hbetween⟩
          have hmn : m ≠ n := by
            rintro rfl
            exact hd (Option.some.inj (hy.symm.trans hx) ▸ hdx)
          exact ⟨by omega, hx, hdx, fun j hmj hj => hbetween j hmj (by omega)⟩

theorem nextBack_eq_some_iff (r : Ring) (c : Cursor) (m : Nat) (x : Rec) : nextBack r c = some (m, x) ↔
    m < frontier r c ∧ ringGet r m = some x ∧ isDisplacement x = true ∧
      ∀ j, m < j → j < frontier r c → (ringGet r j).any (fun y => !isDisplacement y) = true := by
  rcases Nat.lt_or_ge (ringL r) (frontier r c) with hL | hL
  · rw [nextBack, behindDesc_beyond hL]
    refine ⟨nofun, fun ⟨_, hx, _, hbetween⟩ => ?_⟩
    have hnone : ringGet r (ringL r) = none := by simpa using mt (ringGet_isSome_iff r (ringL r)).1 (by omega)
    simpa [hnone] using hbetween (ringL r) (held_of_ringGet hx).2 hL
  · rw [nextBack, behindDesc_eq_heldBelow hL]
    exact firstBack_heldBelow hL m x

/-- R151: going up from `n`, the first displacement record is the lowest held one, with every record between held. -/
theorem firstForward_heldFrom {r : Ring} {n : Nat} (hF : r.F ≤ n) (m : Nat) (x : Rec) :
    firstForward n (heldFrom r n) = some (m, x) ↔
      n ≤ m ∧ ringGet r m = some x ∧ isDisplacement x = true ∧
        ∀ j, n ≤ j → j < m → (ringGet r j).any (fun y => !isDisplacement y) = true := by
  induction hlen : ringL r - n generalizing n with
  | zero =>
    rw [heldFrom_of_le (by omega)]
    refine ⟨nofun, fun ⟨hm, hx, _⟩ => ?_⟩
    have := held_of_ringGet hx
    omega
  | succ len ih =>
    obtain ⟨y, hy⟩ := ringGet_of_held hF (by omega)
    rw [heldFrom_cons hy, firstForward]
    by_cases hd : isDisplacement y = true
    · rw [if_pos hd]
      constructor
      · rintro ⟨⟩
        exact ⟨Nat.le_refl m, hy, hd, fun j _ _ => by omega⟩
      · rintro ⟨hm, hx, -, hbetween⟩
        have hmn : ¬ n < m := fun hlt => by simpa [hy, hd] using hbetween n (Nat.le_refl n) hlt
        obtain rfl : m = n := by omega
        rw [Option.some.inj (hy.symm.trans hx)]
    · rw [if_neg hd, ih (by omega) (by omega)]
      constructor
      · rintro ⟨hm, hx, hdx, hbetween⟩
        refine ⟨by omega, hx, hdx, fun j hj hjm => ?_⟩
        rcases Nat.eq_or_lt_of_le hj with rfl | hlt
        · simpa [hy] using hd
        · exact hbetween j hlt hjm
      · rintro ⟨hm, hx, hdx, hbetween⟩
        have hmn : m ≠ n := by
          rintro rfl
          exact hd (Option.some.inj (hy.symm.trans hx) ▸ hdx)
        exact ⟨by omega, hx, hdx, fun j hj hjm => hbetween j (by omega) hjm⟩

theorem nextForward_eq_some_iff (r : Ring) (c : Cursor) (m : Nat) (x : Rec) : nextForward r c = some (m, x) ↔
    frontier r c ≤ m ∧ ringGet r m = some x ∧ isDisplacement x = true ∧
      ∀ j, frontier r c ≤ j → j < m → (ringGet r j).any (fun y => !isDisplacement y) = true := by
  rcases Nat.lt_or_ge (frontier r c) r.F with hF | hF
  · rw [nextForward, aheadAsc_below hF]
    refine ⟨nofun, fun ⟨_, hx, _, hbetween⟩ => ?_⟩
    have hm := held_of_ringGet hx
    have hnone : ringGet r (frontier r c) = none := by simpa using mt (ringGet_isSome_iff r (frontier r c)).1 (by omega)
    simpa [hnone] using hbetween (frontier r c) (Nat.le_refl _) (by omega)
  · rw [nextForward, aheadAsc_eq_heldFrom hF]
    exact firstForward_heldFrom hF m x

/-! ### The target of BACK k (R147) -/

/-- R147: the count goes no further when `k` are counted or no displacement record is left below `n`. -/
theorem countBack_done {r : Ring} {k n : Nat} (hn : n ≤ ringL r) (h : k = 0 ∨ displacementsIn r r.F n = 0)
    (last : Option Nat) : countBack k (n - 1) (heldBelow r n) last = last := by
  rcases h with rfl | h
  · cases heldBelow r n <;> rfl
  · refine countBack_none (Option.eq_none_iff_forall_ne_some.2 fun ⟨m, x⟩ hfirst => ?_) last
    obtain ⟨hm, hx, hd, -⟩ := (firstBack_heldBelow hn m x).1 hfirst
    have := displacementsIn_pos (held_of_ringGet hx).1 hm hx hd
    omega

/-- R147: the last record counted has the lower of `k` and the number held counted from it up to `n`. -/
theorem countBack_heldBelow {r : Ring} {k n : Nat} (hn : n ≤ ringL r) (hk : 1 ≤ k) (hpos : 0 < displacementsIn r r.F n)
    (last : Option Nat) :
    ∃ m x, countBack k (n - 1) (heldBelow r n) last = some m ∧ m < n ∧ ringGet r m = some x ∧ isDisplacement x = true ∧
      displacementsIn r m n = min k (displacementsIn r r.F n) := by
  induction n generalizing k last with
  | zero => simp [displacementsIn] at hpos
  | succ n ih =>
    have hF : r.F ≤ n := by
      by_contra hF
      rw [displacementsIn_of_le r (by omega)] at hpos
      omega
    obtain ⟨y, hy⟩ := ringGet_of_held hF hn
    have htop := displacementsIn_single hy
    have hsplit := fun lo (hlo : lo ≤ n) => displacementsIn_split r hlo (Nat.le_add_right n 1)
    have hall := hsplit r.F hF
    rw [heldBelow_succ hy, Nat.add_sub_cancel, countBack, if_neg (by omega)]
    by_cases hd : isDisplacement y = true
    · rw [if_pos hd] at htop ⊢
      by_cases hdone : k - 1 = 0 ∨ displacementsIn r r.F n = 0
      · exact ⟨n, y, countBack_done (by omega) hdone _, Nat.lt_succ_self n, hy, hd, by omega⟩
      · obtain ⟨m, x, hcount, hm, hx, hdx, hnum⟩ := ih (by omega) (k := k - 1) (by omega) (by omega) (some n)
        have := hsplit m (by omega)
        exact ⟨m, x, hcount, by omega, hx, hdx, by omega⟩
    · rw [if_neg hd] at htop ⊢
      obtain ⟨m, x, hcount, hm, hx, hdx, hnum⟩ := ih (by omega) hk (by omega) last
      have := hsplit m (by omega)
      exact ⟨m, x, hcount, by omega, hx, hdx, by omega⟩

theorem backTarget_stays (r : Ring) (c : Cursor) (k : Nat)
    (h : ringL r < frontier r c ∨ displacementsIn r r.F (frontier r c) = 0) : backTarget r c k = c := by
  rcases Nat.lt_or_ge (ringL r) (frontier r c) with hL | hL
  · simp [backTarget, behindDesc_beyond hL, countBack]
  · have hzero := h.resolve_left (by omega)
    simp [backTarget, behindDesc_eq_heldBelow hL, countBack_done hL (.inr hzero)]

theorem backTarget_counts {r : Ring} {c : Cursor} {k : Nat} (hk : 1 ≤ k) (hL : frontier r c ≤ ringL r)
    (hpos : 0 < displacementsIn r r.F (frontier r c)) :
    ∃ m x, backTarget r c k = ⟨m, .first⟩ ∧ m < frontier r c ∧ ringGet r m = some x ∧ isDisplacement x = true ∧
      displacementsIn r m (frontier r c) = min k (displacementsIn r r.F (frontier r c)) := by
  obtain ⟨m, x, hcount, hm⟩ := countBack_heldBelow hL hk hpos none
  exact ⟨m, x, by rw [backTarget, behindDesc_eq_heldBelow hL, hcount]; rfl, hm⟩

/-! ### The target of FORWARD k (R148) -/

/-- R148: the examination from `n` on stops at `p` at the latest: up to there every record is held and none is END, and `p` is
absent or END. -/
structure ForwardRun (r : Ring) (n p : Nat) : Prop where
  floor : r.F ≤ n
  le : n ≤ p
  run : ∀ j < p, n ≤ j → (ringGet r j).any (fun x => !isEnd x) = true
  stop : (ringGet r p).all isEnd = true

theorem ForwardRun.head {r : Ring} {n p : Nat} (h : ForwardRun r n p) (hlt : n < p) :
    ∃ x, ringGet r n = some x ∧ isEnd x = false := by
  simpa [Option.any_eq_true] using h.run n hlt (Nat.le_refl n)

theorem ForwardRun.tail {r : Ring} {n p : Nat} (h : ForwardRun r n p) (hlt : n < p) : ForwardRun r (n + 1) p :=
  ⟨Nat.le_succ_of_le h.floor, hlt, fun j hj hn => h.run j hj (by omega), h.stop⟩

theorem countForward_zero (m : Nat) (xs : List Rec) (last : Option Cursor) : countForward 0 m xs last = (last, false) := by
  cases xs <;> rfl

theorem countForward_displacement {k m : Nat} {x : Rec} (hk : 1 ≤ k) (hd : isDisplacement x = true) (xs : List Rec)
    (last : Option Cursor) : countForward k m (x :: xs) last = countForward (k - 1) (m + 1) xs (some (afterMove m x)) := by
  have he : ¬ isEnd x = true := by simpa [isEnd] using recKind_ne_end_of_displacement hd
  rw [countForward, if_neg (by omega), if_neg he, afterMove]
  by_cases hst : isStitch x = true
  · rw [if_pos hst, if_pos hst]
  · rw [if_neg hst, if_neg hst, if_pos hd]

theorem countForward_passes {k m : Nat} {x : Rec} (hk : 1 ≤ k) (he : isEnd x = false) (hd : ¬ isDisplacement x = true)
    (xs : List Rec) (last : Option Cursor) : countForward k m (x :: xs) last = countForward k (m + 1) xs last := by
  rw [countForward, if_neg (by omega), if_neg (by simp [he]), if_neg (mt isStitch_displacement hd), if_neg hd]

theorem countForward_at_stop {r : Ring} {p : Nat} (h : ForwardRun r p p) (k : Nat) (last : Option Cursor) :
    countForward k p (heldFrom r p) last = (last, decide (0 < k) && (ringGet r p).isSome) := by
  rcases Nat.eq_zero_or_pos k with rfl | hk
  · simp [countForward_zero]
  · cases hx : ringGet r p with
    | none =>
      have hout := mt (ringGet_isSome_iff r p).2 (by simp [hx])
      have hfloor := h.floor
      simp [heldFrom_of_le (show ringL r ≤ p by omega), countForward]
    | some x =>
      have he : isEnd x = true := by simpa [hx] using h.stop
      simp [heldFrom_cons hx, countForward, he, hk, Nat.ne_of_gt hk]

/-- R148: the flag tells that an END stopped a count of fewer than `k`. -/
theorem countForward_endLimited {r : Ring} {n p : Nat} (h : ForwardRun r n p) (k : Nat) (last : Option Cursor) :
    (countForward k n (heldFrom r n) last).2 = true ↔ (ringGet r p).isSome = true ∧ displacementsIn r n p < k := by
  induction hlen : p - n generalizing n k last with
  | zero =>
    obtain rfl : n = p := by have := h.le; omega
    rw [countForward_at_stop h, displacementsIn_of_le r (Nat.le_refl n)]
    simp [and_comm]
  | succ len ih =>
    obtain ⟨x, hx, he⟩ := h.head (by omega)
    have hfirst := displacementsIn_single hx
    have hall := displacementsIn_split r (Nat.le_add_right n 1) (show n + 1 ≤ p by omega)
    rcases Nat.eq_zero_or_pos k with rfl | hk
    · simp [countForward_zero]
    · rw [heldFrom_cons hx]
      by_cases hd : isDisplacement x = true
      · rw [if_pos hd] at hfirst
        rw [countForward_displacement hk hd, ih (h.tail (by omega)) _ _ (by omega)]
        exact and_congr_right fun _ => by omega
      · rw [if_neg hd] at hfirst
        rw [countForward_passes hk he hd, ih (h.tail (by omega)) _ _ (by omega)]
        exact and_congr_right fun _ => by omega

/-- R148: the count goes no further when `k` are counted or no displacement record is left before `p`. -/
theorem countForward_done {r : Ring} {k n p : Nat} (h : ForwardRun r n p) (hk : k = 0 ∨ displacementsIn r n p = 0)
    (last : Option Cursor) : (countForward k n (heldFrom r n) last).1 = last := by
  induction hlen : p - n generalizing n with
  | zero =>
    obtain rfl : n = p := by have := h.le; omega
    rw [countForward_at_stop h]
  | succ len ih =>
    rcases Nat.eq_zero_or_pos k with rfl | hpos
    · rw [countForward_zero]
    · obtain ⟨x, hx, he⟩ := h.head (by omega)
      have hd : ¬ isDisplacement x = true := fun hd => by
        have := displacementsIn_pos (Nat.le_refl n) (show n < p by omega) hx hd
        omega
      have hall := displacementsIn_split r (Nat.le_add_right n 1) (show n + 1 ≤ p by omega)
      rw [heldFrom_cons hx, countForward_passes hpos he hd]
      exact ih (h.tail (by omega)) (.inr (by omega)) (by omega)

/-- R148: up to and with the last record counted there are the lower of `k` and the number before `p`. -/
theorem countForward_heldFrom {r : Ring} {k n p : Nat} (h : ForwardRun r n p) (hk : 1 ≤ k)
    (hpos : 0 < displacementsIn r n p) (last : Option Cursor) :
    ∃ m x, (countForward k n (heldFrom r n) last).1 = some (afterMove m x) ∧ n ≤ m ∧ m < p ∧ ringGet r m = some x ∧
      isDisplacement x = true ∧ displacementsIn r n (m + 1) = min k (displacementsIn r n p) := by
  induction hlen : p - n generalizing n k last with
  | zero =>
    rw [displacementsIn_of_le r (by omega)] at hpos
    omega
  | succ len ih =>
    obtain ⟨y, hy, he⟩ := h.head (by omega)
    have hfirst := displacementsIn_single hy
    have hsplit := fun hi (hhi : n + 1 ≤ hi) => displacementsIn_split r (Nat.le_add_right n 1) hhi
    have hall := hsplit p (by omega)
    have htail := h.tail (by omega)
    rw [heldFrom_cons hy]
    by_cases hd : isDisplacement y = true
    · rw [if_pos hd] at hfirst
      rw [countForward_displacement hk hd]
      by_cases hdone : k - 1 = 0 ∨ displacementsIn r (n + 1) p = 0
      · exact ⟨n, y, countForward_done htail hdone _, Nat.le_refl n, by omega, hy, hd, by omega⟩
      · obtain ⟨m, x, hcount, hm, hmp, hx, hdx, hnum⟩ :=
          ih htail (k := k - 1) (by omega) (by omega) (some (afterMove n y)) (by omega)
        have := hsplit (m + 1) (by omega)
        exact ⟨m, x, hcount, by omega, hmp, hx, hdx, by omega⟩
    · rw [if_neg hd] at hfirst
      rw [countForward_passes hk he hd]
      obtain ⟨m, x, hcount, hm, hmp, hx, hdx, hnum⟩ := ih htail hk (by omega) last (by omega)
      have := hsplit (m + 1) (by omega)
      exact ⟨m, x, hcount, by omega, hmp, hx, hdx, by omega⟩

theorem forwardTarget_eq {r : Ring} {c : Cursor} (hF : r.F ≤ frontier r c) (k : Nat) :
    forwardTarget r c k = ((countForward k (frontier r c) (heldFrom r (frontier r c)) none).1.getD c,
      (countForward k (frontier r c) (heldFrom r (frontier r c)) none).2) := by
  unfold forwardTarget
  rw [aheadAsc_eq_heldFrom hF]
  rcases countForward k (frontier r c) (heldFrom r (frontier r c)) none with ⟨_ | t, lim⟩ <;> rfl

/-- Settles O14: the target of BACK by induction on the records behind the cursor, that of FORWARD and its flag by induction on
the way to where the examination stops, and the next window's record by the same two inductions. -/
theorem traversalTargetsCountDisplacements : Obligations.TraversalTargetsCountDisplacements := by
  refine ⟨fun r c k hk => ⟨backTarget_stays r c k, backTarget_counts hk⟩, fun r c k p hk hF hp hrun hstop => ?_,
    nextBack_eq_some_iff, nextForward_eq_some_iff⟩
  have h : ForwardRun r (frontier r c) p := ⟨hF, hp, hrun, hstop⟩
  rw [forwardTarget_eq hF]
  refine ⟨countForward_endLimited h k none, fun hzero => ?_, fun hpos => ?_⟩
  · rw [countForward_done h (.inr hzero)]
    rfl
  · obtain ⟨m, x, hcount, hm⟩ := countForward_heldFrom h hk hpos none
    exact ⟨m, x, by rw [hcount]; rfl, hm⟩

end Sys2Proof.Machine

namespace Sys2Proof.Machine

/-! ### Out of service nothing happens (R176, R177) -/

/-- R176, R177: with role pins 11 there is no self-test whose end could act. -/
theorem execSelfTestEnd_noRole (ring : Bool) (lines : CodeLines) (drive : Bool) (mv : Nat) {s : State}
    (hrole : s.role = none) : execSelfTestEnd ring lines drive mv s = .next s := by
  simp [execSelfTestEnd, hrole]

/-- Settles O4: every command but RESET and SELF_TEST_END goes through `onService`, which gives the state back out of service,
and SELF_TEST_END acts for a role only. -/
theorem outOfServiceNothingHappens : Obligations.OutOfServiceNothingHappens :=
  ⟨fun _ _ hoff hreset htest => exec_outOfService hoff hreset htest,
    fun ring lines drive mv _ hrole => execSelfTestEnd_noRole ring lines drive mv hrole⟩

end Sys2Proof.Machine

namespace Sys2Proof.Machine

/-! ### Octets and the bits they are sent as (R180) -/

theorem octetBits_octetOf : ∀ b7 b6 b5 b4 b3 b2 b1 b0 : Bool,
    octetBits (octetOf b7 b6 b5 b4 b3 b2 b1 b0) = [b7, b6, b5, b4, b3, b2, b1, b0] := by
  decide +kernel

@[simp] theorem length_octetBits (b : Byte) : (octetBits b).length = 8 := rfl

@[simp] theorem bitsOf_nil : bitsOf [] = [] := rfl

@[simp] theorem bitsOf_cons (b : Byte) (bs : List Byte) : bitsOf (b :: bs) = octetBits b ++ bitsOf bs := rfl

@[simp] theorem bitsOf_append (as bs : List Byte) : bitsOf (as ++ bs) = bitsOf as ++ bitsOf bs :=
  List.flatMap_append

@[simp] theorem length_bitsOf (bs : List Byte) : (bitsOf bs).length = 8 * bs.length := by
  induction bs with
  | nil => rfl
  | cons b bs ih => simp [ih]; omega

/-- Whole octets of bits are read and sent again as the same bits. -/
theorem bitsOf_octetsOf : ∀ (n : Nat) (bits : List Bool), bits.length = 8 * n → bitsOf (octetsOf bits) = bits
  | 0, bits, h => by simp [List.eq_nil_of_length_eq_zero h, octetsOf]
  | n + 1, b7 :: b6 :: b5 :: b4 :: b3 :: b2 :: b1 :: b0 :: rest, h => by
    have hrest : rest.length = 8 * n := by simp only [List.length_cons] at h; omega
    rw [octetsOf, bitsOf_cons, octetBits_octetOf, bitsOf_octetsOf n rest hrest]
    rfl

/-! ### Inverted bits and parity -/

theorem flipAt_eq_modify (i : Nat) (bits : List Bool) : flipAt i bits = bits.modify i (!·) := by
  induction bits generalizing i with
  | nil => cases i <;> rfl
  | cons b bits ih =>
    cases i with
    | zero => rfl
    | succ i => simp [flipAt, ih]

@[simp] theorem length_flipAt (i : Nat) (bits : List Bool) : (flipAt i bits).length = bits.length := by
  rw [flipAt_eq_modify, List.length_modify]

theorem flipAt_flipAt (i : Nat) (bits : List Bool) : flipAt i (flipAt i bits) = bits := by
  have hnot : (fun b : Bool => !b) ∘ (fun b => !b) = id := funext Bool.not_not
  rw [flipAt_eq_modify, flipAt_eq_modify, List.modify_modify_eq, hnot, List.modify_id]

theorem flipAt_append_left {i : Nat} {as : List Bool} (h : i < as.length) (bs : List Bool) :
    flipAt i (as ++ bs) = flipAt i as ++ bs := by
  induction as generalizing i with
  | nil => simp at h
  | cons a as ih =>
    cases i with
    | zero => rfl
    | succ i => simp [flipAt, ih (Nat.lt_of_succ_lt_succ h)]

theorem flipAt_append_right (as : List Bool) (i : Nat) (bs : List Bool) :
    flipAt (as.length + i) (as ++ bs) = as ++ flipAt i bs := by
  induction as with
  | nil => simp
  | cons a as ih => simp [Nat.add_right_comm, flipAt, ih]

theorem take_flipAt_of_le {n i : Nat} (h : n ≤ i) (bits : List Bool) : (flipAt i bits).take n = bits.take n := by
  rw [flipAt_eq_modify, List.take_modify, List.modify_eq_self]
  exact (List.length_take_le n bits).trans h

theorem oddOnes_append (as bs : List Bool) : oddOnes (as ++ bs) = xor (oddOnes as) (oddOnes bs) := by
  unfold oddOnes
  rw [List.foldl_append]
  generalize as.foldl xor false = s
  induction bs generalizing s with
  | nil => simp
  | cons b bs ih => rw [List.foldl_cons, List.foldl_cons, ih, ih (xor false b)]; simp

theorem oddOnes_cons (b : Bool) (bits : List Bool) : oddOnes (b :: bits) = xor b (oddOnes bits) := by
  simpa [oddOnes] using oddOnes_append [b] bits

theorem oddOnes_flipAt {i : Nat} {bits : List Bool} (h : i < bits.length) :
    oddOnes (flipAt i bits) = !oddOnes bits := by
  induction bits generalizing i with
  | nil => simp at h
  | cons b bits ih =>
    cases i with
    | zero => simp [flipAt, oddOnes_cons]
    | succ i => simp [flipAt, oddOnes_cons, ih (Nat.lt_of_succ_lt_succ h)]

/-! ### The division by g(x) is linear (R183) -/

/-- The product with x, modulo g(x). -/
def timesX (p : BitVec 7) : BitVec 7 := divStep p false

/-- x^k modulo g(x): the syndrome of an error at bit position k. -/
def xPow (k : Nat) : BitVec 7 := timesX^[k] 1#7

theorem divStep_eq_xor : ∀ (s : BitVec 7) (b : Bool),
    divStep s b = s <<< 1 ^^^ (if s.getLsbD 6 then 9#7 else 0#7) ^^^ BitVec.ofNat 7 b.toNat := by
  decide +kernel

theorem divStep_xor (s t : BitVec 7) (b : Bool) : divStep (s ^^^ t) b = divStep s b ^^^ timesX t := by
  have hlead : (if (s ^^^ t).getLsbD 6 then 9#7 else 0#7)
      = (if s.getLsbD 6 then 9#7 else 0#7) ^^^ (if t.getLsbD 6 then 9#7 else 0#7) := by
    rw [BitVec.getLsbD_xor]
    cases s.getLsbD 6 <;> cases t.getLsbD 6 <;> rfl
  simp only [timesX, divStep_eq_xor, hlead, BitVec.shiftLeft_xor_distrib, Bool.toNat_false, BitVec.xor_zero]
  ac_rfl

theorem divStep_not (s : BitVec 7) (b : Bool) : divStep s (!b) = divStep s b ^^^ 1#7 := by
  rw [divStep_eq_xor, divStep_eq_xor]
  cases b <;> simp [BitVec.xor_assoc]

theorem foldl_divStep_xor (bits : List Bool) (s t : BitVec 7) :
    bits.foldl divStep (s ^^^ t) = bits.foldl divStep s ^^^ timesX^[bits.length] t := by
  induction bits generalizing s t with
  | nil => rfl
  | cons b bits ih => rw [List.foldl_cons, divStep_xor, ih, List.length_cons, Function.iterate_succ_apply, List.foldl_cons]

theorem remainder7_append (as bs : List Bool) :
    remainder7 (as ++ bs) = remainder7 bs ^^^ timesX^[bs.length] (remainder7 as) := by
  calc remainder7 (as ++ bs) = bs.foldl divStep (0#7 ^^^ remainder7 as) := by
        rw [BitVec.zero_xor]
        exact List.foldl_append
    _ = remainder7 bs ^^^ timesX^[bs.length] (remainder7 as) := foldl_divStep_xor bs 0 (remainder7 as)

theorem foldl_divStep_flipAt {i : Nat} {bits : List Bool} (h : i < bits.length) (s : BitVec 7) :
    (flipAt i bits).foldl divStep s = bits.foldl divStep s ^^^ xPow (bits.length - 1 - i) := by
  induction bits generalizing i s with
  | nil => simp at h
  | cons b bits ih =>
    cases i with
    | zero => simp [flipAt, divStep_not, foldl_divStep_xor, xPow]
    | succ i =>
      have hexp : (b :: bits).length - 1 - (i + 1) = bits.length - 1 - i := by simp; omega
      rw [flipAt, List.foldl_cons, ih (Nat.lt_of_succ_lt_succ h), hexp, List.foldl_cons]

/-- An inverted bit adds its power of x to the remainder. -/
theorem remainder7_flipAt {i : Nat} {bits : List Bool} (h : i < bits.length) :
    remainder7 (flipAt i bits) = remainder7 bits ^^^ xPow (bits.length - 1 - i) :=
  foldl_divStep_flipAt h 0

theorem remainder7_bits7 : ∀ c : BitVec 7, remainder7 (bits7 c) = c := by
  decide +kernel

/-- The remainder that divides the data shifted by seven places completes them to a multiple of g(x). -/
theorem remainder7_append_bits7 (bits : List Bool) :
    remainder7 (bits ++ bits7 (remainder7 (bits ++ List.replicate 7 false))) = 0#7 := by
  have hzeros : remainder7 (List.replicate 7 false) = 0#7 := by decide
  rw [remainder7_append bits (bits7 _), remainder7_bits7, remainder7_append, hzeros, BitVec.zero_xor]
  exact BitVec.xor_self

/-- R183: the powers of x below 63 are told apart. -/
theorem errorPosition_xPow : ∀ k < 63, errorPosition (xPow k) 63 0 1#7 = some k := by
  decide +kernel

/-! ### Codeblocks with bits in error (R183) -/

/-- The 63-bit word of a block's 64 bits: all but c7. -/
def codeWord (bits : List Bool) : List Bool := bits.take 56 ++ bits.drop 57

/-- The remainder the receiver finds for a block's 64 bits. -/
def syndrome (bits : List Bool) : BitVec 7 := remainder7 (codeWord bits)

/-- The position in the 63-bit word of the bit sent at this index of the block, or none for c7. -/
def bitPosition (i : Nat) : Option Nat :=
  if i < 56 then some (62 - i) else if i = 56 then none else some (63 - i)

/-- The 64 bits of a block are as the transmitter forms them: a multiple of g(x), with an even count of 1 bits. -/
structure IsCodeBlock (bits : List Bool) : Prop where
  length_eq : bits.length = 64
  syndrome_eq : syndrome bits = 0#7
  even : oddOnes bits = false

theorem bitPosition_eq_none_iff {i : Nat} : bitPosition i = none ↔ i = 56 := by
  unfold bitPosition
  split_ifs <;> simp <;> omega

theorem bitPosition_eq_some {i k : Nat} (h : bitPosition i = some k) (hi : i < 64) :
    k < 63 ∧ (i < 56 ∧ i = 62 - k ∨ 56 < i ∧ i = 63 - k) := by
  unfold bitPosition at h
  split_ifs at h <;> simp only [Option.some.injEq] at h <;> omega

theorem codeWord_append_cons {as : List Bool} (h : as.length = 56) (c7 : Bool) (cs : List Bool) :
    codeWord (as ++ c7 :: cs) = as ++ cs := by
  rw [codeWord, List.take_left' h, List.append_cons, List.drop_left' (by simp [h])]

/-- What the receiver decides, said of the block's 64 bits. -/
theorem decodeBlock_eq {g : List Byte} (h : g.length = 8) :
    decodeBlock g = if syndrome (bitsOf g) = 0#7 then some (g.take 7)
      else if oddOnes (bitsOf g) then (errorPosition (syndrome (bitsOf g)) 63 0 1#7).map fun k =>
        octetsOf ((flipAt (62 - k) (codeWord (bitsOf g))).take 56)
      else none := by
  obtain ⟨data, c, rfl⟩ : ∃ data c, g = data ++ [c] := by
    rcases g.eq_nil_or_concat with rfl | hg
    · simp at h
    · simpa using hg
  have hdata : data.length = 7 := by simpa using h
  have hcheck : (data ++ [c]).getD 7 0 = c := by simp [← hdata]
  have hword : codeWord (bitsOf (data ++ [c])) = bitsOf data ++ (octetBits c).drop 1 := by
    rw [bitsOf_append, bitsOf_cons, bitsOf_nil, List.append_nil]
    exact codeWord_append_cons (by simp [hdata]) _ _
  have hbits : bitsOf data ++ octetBits c = bitsOf (data ++ [c]) := by simp
  have htake : (data ++ [c]).take 7 = data := by simp [← hdata]
  unfold decodeBlock syndrome
  rw [hcheck, htake, hword, ← hbits]
  simp only [BitVec.ofNat_eq_ofNat]
  split_ifs
  · rfl
  · cases errorPosition (remainder7 (bitsOf data ++ (octetBits c).drop 1)) 63 0 1#7 <;> rfl
  · rfl

theorem decodeBlock_octetsOf {bits : List Bool} (h : bits.length = 64) :
    decodeBlock (octetsOf bits) = if syndrome bits = 0#7 then some (octetsOf (bits.take 56))
      else if oddOnes bits then (errorPosition (syndrome bits) 63 0 1#7).map fun k =>
        octetsOf ((flipAt (62 - k) (codeWord bits)).take 56)
      else none := by
  have hbits : bitsOf (octetsOf bits) = bits := bitsOf_octetsOf 8 bits h
  have hlen : (octetsOf bits).length = 8 := by
    have := length_bitsOf (octetsOf bits)
    rw [hbits, h] at this
    omega
  have hdata : octetsOf (bits.take 56) = (octetsOf bits).take 7 := by
    have hsplit : bitsOf ((octetsOf bits).take 7) ++ bitsOf ((octetsOf bits).drop 7) = bits := by
      rw [← bitsOf_append, List.take_append_drop, hbits]
    have h56 : (bitsOf ((octetsOf bits).take 7)).length = 56 := by simp [hlen]
    rw [← hsplit, List.take_left' h56, octetsOf_bitsOf, hsplit]
  rw [decodeBlock_eq hlen, hbits, hdata]

theorem codeWord_flipAt_of_none {i : Nat} {bits : List Bool} (h : bitPosition i = none) :
    codeWord (flipAt i bits) = codeWord bits := by
  obtain rfl := bitPosition_eq_none_iff.mp h
  rw [codeWord, take_flipAt_of_le (Nat.le_refl 56), flipAt_eq_modify, List.drop_modify_of_lt _ _ _ _ (by decide), codeWord]

theorem codeWord_flipAt_of_some {i k : Nat} {bits : List Bool} (h : bitPosition i = some k) (hi : i < 64)
    (hlen : bits.length = 64) : codeWord (flipAt i bits) = flipAt (62 - k) (codeWord bits) := by
  have htake : (bits.take 56).length = 56 := by simp [hlen]
  obtain ⟨hk, ⟨hlow, hik⟩ | ⟨hhigh, hik⟩⟩ := bitPosition_eq_some h hi
  · rw [← hik, codeWord, codeWord, flipAt_append_left (by omega), flipAt_eq_modify, flipAt_eq_modify, List.take_modify,
      List.drop_modify_of_lt _ _ _ _ (by omega)]
  · have hplace : 62 - k = (bits.take 56).length + (i - 57) := by omega
    rw [hplace, codeWord, codeWord, flipAt_append_right, take_flipAt_of_le (by omega), flipAt_eq_modify, flipAt_eq_modify,
      List.drop_modify_of_ge _ _ _ _ (by omega)]

theorem length_codeWord {bits : List Bool} (h : bits.length = 64) : (codeWord bits).length = 63 := by
  simp [codeWord, h]

theorem take_codeWord {bits : List Bool} (h : bits.length = 64) : (codeWord bits).take 56 = bits.take 56 :=
  List.take_left' (by simp [h])

/-- What one inverted bit adds to the syndrome. -/
def bitSyndrome (i : Nat) : BitVec 7 := (bitPosition i).elim 0#7 xPow

theorem bitSyndrome_c7 : bitSyndrome 56 = 0#7 := rfl

theorem syndrome_flipAt {i : Nat} {bits : List Bool} (hi : i < 64) (hlen : bits.length = 64) :
    syndrome (flipAt i bits) = syndrome bits ^^^ bitSyndrome i := by
  unfold syndrome bitSyndrome
  cases hpos : bitPosition i with
  | none => rw [codeWord_flipAt_of_none hpos, Option.elim_none, BitVec.xor_zero]
  | some k =>
    obtain ⟨hk, -⟩ := bitPosition_eq_some hpos hi
    have hexp : 63 - 1 - (62 - k) = k := by omega
    rw [codeWord_flipAt_of_some hpos hi hlen, remainder7_flipAt (by rw [length_codeWord hlen]; omega), length_codeWord hlen,
      hexp, Option.elim_some]

theorem errorPosition_bitSyndrome {i : Nat} (hi : i < 64) : errorPosition (bitSyndrome i) 63 0 1#7 = bitPosition i := by
  unfold bitSyndrome
  cases hpos : bitPosition i with
  | none => decide +kernel
  | some k =>
    obtain ⟨hk, -⟩ := bitPosition_eq_some hpos hi
    exact errorPosition_xPow k hk

theorem bitSyndrome_inj {i j : Nat} (hi : i < 64) (hj : j < 64) (h : bitSyndrome i = bitSyndrome j) : i = j := by
  have hpos : bitPosition i = bitPosition j := by
    rw [← errorPosition_bitSyndrome hi, h, errorPosition_bitSyndrome hj]
  cases hposj : bitPosition j with
  | none => rw [bitPosition_eq_none_iff.mp (hpos.trans hposj), bitPosition_eq_none_iff.mp hposj]
  | some k =>
    obtain ⟨-, hik⟩ := bitPosition_eq_some (hpos.trans hposj) hi
    obtain ⟨-, hjk⟩ := bitPosition_eq_some hposj hj
    omega

theorem bitSyndrome_ne_zero {i k : Nat} (hi : i < 64) (h : bitPosition i = some k) : bitSyndrome i ≠ 0#7 := by
  rw [← bitSyndrome_c7]
  intro heq
  obtain rfl := bitSyndrome_inj hi (by decide) heq
  cases h

/-- R183: a single bit in error, c7 among them, leaves the data the block was sent with. -/
theorem decodeBlock_one_error {i : Nat} {bits : List Bool} (h : IsCodeBlock bits) (hi : i < 64) :
    decodeBlock (octetsOf (flipAt i bits)) = some (octetsOf (bits.take 56)) := by
  obtain ⟨hlen, hsyn, heven⟩ := h
  have hodd : oddOnes (flipAt i bits) = true := by rw [oddOnes_flipAt (by omega), heven, Bool.not_false]
  rw [decodeBlock_octetsOf (by rw [length_flipAt, hlen]), syndrome_flipAt hi hlen, hsyn, BitVec.zero_xor]
  cases hpos : bitPosition i with
  | none =>
    obtain rfl := bitPosition_eq_none_iff.mp hpos
    rw [if_pos bitSyndrome_c7, take_flipAt_of_le (Nat.le_refl 56)]
  | some k =>
    rw [if_neg (bitSyndrome_ne_zero hi hpos), if_pos hodd, errorPosition_bitSyndrome hi, hpos, Option.map_some,
      codeWord_flipAt_of_some hpos hi hlen, flipAt_flipAt, take_codeWord hlen]

/-- R183: two bits in error give a syndrome, and no odd count of 1 bits. -/
theorem decodeBlock_two_errors {i j : Nat} {bits : List Bool} (h : IsCodeBlock bits) (hij : i < j) (hj : j < 64) :
    decodeBlock (octetsOf (flipAt i (flipAt j bits))) = none := by
  obtain ⟨hlen, hsyn, heven⟩ := h
  have hi : i < 64 := hij.trans hj
  have hlen' : (flipAt j bits).length = 64 := by rw [length_flipAt, hlen]
  have hparity : ¬ oddOnes (flipAt i (flipAt j bits)) = true := by
    rw [oddOnes_flipAt (by omega), oddOnes_flipAt (by omega), heven]
    decide
  have hne : bitSyndrome j ^^^ bitSyndrome i ≠ 0#7 := fun heq =>
    absurd (bitSyndrome_inj hj hi (BitVec.xor_eq_zero_iff.mp heq)) (by omega)
  rw [decodeBlock_octetsOf (by rw [length_flipAt, hlen']), syndrome_flipAt hi hlen', syndrome_flipAt hj hlen, hsyn,
    BitVec.zero_xor, if_neg hne, if_neg hparity]

/-! ### Codeblocks as they are sent (R183, R184) -/

@[simp] theorem length_encodeBlock (data : List Byte) : (encodeBlock data).length = data.length + 1 := by
  simp [encodeBlock]

theorem bitsOf_encodeBlock (data : List Byte) :
    let c := bits7 (remainder7 (bitsOf data ++ List.replicate 7 false))
    bitsOf (encodeBlock data) = bitsOf data ++ oddOnes (bitsOf data ++ c) :: c := by
  simp [encodeBlock, checkOctet, bits7, octetBits_octetOf]

theorem isCodeBlock_encodeBlock {data : List Byte} (h : data.length = 7) : IsCodeBlock (bitsOf (encodeBlock data)) where
  length_eq := by simp [h]
  syndrome_eq := by
    rw [syndrome, bitsOf_encodeBlock, codeWord_append_cons (by simp [h])]
    exact remainder7_append_bits7 (bitsOf data)
  even := by
    rw [bitsOf_encodeBlock, oddOnes_append, oddOnes_cons, oddOnes_append]
    cases oddOnes (bitsOf data) <;> simp

theorem octetsOf_take_encodeBlock {data : List Byte} (h : data.length = 7) :
    octetsOf ((bitsOf (encodeBlock data)).take 56) = data := by
  rw [encodeBlock, bitsOf_append, List.take_left' (by simp [h]), octetsOf_bitsOf]

theorem decodeBlock_encodeBlock {data : List Byte} (h : data.length = 7) : decodeBlock (encodeBlock data) = some data := by
  rw [decodeBlock_eq (by simp [h]), if_pos (isCodeBlock_encodeBlock h).syndrome_eq, encodeBlock,
    List.take_left' h]

/-- R184: the tail is rejected as a block, so no block is the tail. -/
theorem encodeBlock_ne_tail {data : List Byte} (h : data.length = 7) : encodeBlock data ≠ tailOctets := by
  have htail : decodeBlock tailOctets = none := by decide +kernel
  intro heq
  rw [← heq, decodeBlock_encodeBlock h] at htail
  cases htail

/-- Settles O60: an inverted bit adds its own power of x to the syndrome and turns the parity over, and the powers below 63
are told apart. -/
theorem blockCodeCorrectsOneBitAndDetectsTwo : Obligations.BlockCodeCorrectsOneBitAndDetectsTwo := by
  intro data h
  have hblock := isCodeBlock_encodeBlock h
  refine ⟨decodeBlock_encodeBlock h, encodeBlock_ne_tail h, fun i hi => ?_, fun i j => decodeBlock_two_errors hblock⟩
  rw [decodeBlock_one_error hblock hi, octetsOf_take_encodeBlock h]

end Sys2Proof.Machine

namespace Sys2Proof.Machine

/-! ### Groups of octets (R183, R184) -/

theorem groups8_append_of_length {g : List Byte} (h : g.length = 8) (rest : List Byte) :
    groups8 (g ++ rest) = g :: groups8 rest := by
  match g, h with
  | [_, _, _, _, _, _, _, _], _ => rfl

theorem groups8_blocks (gs : List (List Byte)) (h : ∀ g ∈ gs, g.length = 7) :
    groups8 (gs.flatMap encodeBlock ++ tailOctets) = gs.map encodeBlock ++ [tailOctets] := by
  induction gs with
  | nil => rfl
  | cons g gs ih =>
    obtain ⟨hg, hgs⟩ := List.forall_mem_cons.mp h
    rw [List.flatMap_cons, List.append_assoc, groups8_append_of_length (by rw [length_encodeBlock, hg]), ih hgs]
    rfl

/-- Octets that fill whole groups of seven are cut without a rest. -/
theorem groups7_spec : ∀ (n : Nat) (bs : List Byte), bs.length = 7 * n →
    (groups7 bs).flatten = bs ∧ (groups7 bs).length = n ∧ ∀ g ∈ groups7 bs, g.length = 7
  | 0, bs, h => by simp [List.eq_nil_of_length_eq_zero h, groups7]
  | n + 1, _ :: _ :: _ :: _ :: _ :: _ :: _ :: rest, h => by
    have hrest : rest.length = 7 * n := by simp only [List.length_cons] at h; omega
    obtain ⟨hflat, hlen, hall⟩ := groups7_spec n rest hrest
    refine ⟨by simp [groups7, hflat], by simp [groups7, hlen], fun g hg => ?_⟩
    rcases List.mem_cons.mp hg with rfl | hg
    · rfl
    · exact hall g hg

/-! ### The data octets of a frame (R184) -/

/-- R184: the two octets of a CRC, high octet first. -/
def crcOctets (bs : List Byte) : List Byte := [BitVec.ofNat 8 ((crc16 bs).toNat / 256), BitVec.ofNat 8 (crc16 bs).toNat]

/-- R184: the length octet of a body, and the body. -/
def lengthAndBody (body : List Byte) : List Byte := BitVec.ofNat 8 body.length :: body

theorem dataOctets_eq (body : List Byte) :
    ∃ fill, dataOctets body = lengthAndBody body ++ (crcOctets (lengthAndBody body) ++ fill) ∧
      (dataOctets body).length = 7 * blocksFor body.length := by
  refine ⟨_, List.append_assoc _ _ _, ?_⟩
  simp only [dataOctets, blocksFor, List.length_append, List.length_cons, List.length_nil, List.length_replicate]
  omega

theorem toNat_lengthOctet {body : List Byte} (h : bodyWf body = true) :
    (BitVec.ofNat 8 body.length).toNat = body.length := by
  obtain ⟨-, hmax⟩ : 1 ≤ body.length ∧ body.length ≤ 221 := by simpa [bodyWf] using h
  rw [BitVec.toNat_ofNat]
  omega

/-- R184: the receiver finds the body and its frame check in the data octets the transmitter forms. -/
theorem finishFrame_dataOctets (cls : FrameClass) (src : Station) {body : List Byte} (h : bodyWf body = true) :
    finishFrame cls src (dataOctets body) (blocksFor body.length) = .accepted cls src body := by
  obtain ⟨fill, hdata, -⟩ := dataOctets_eq body
  have hlen : ((dataOctets body).headD 0).toNat = body.length := by
    rw [hdata]
    exact toNat_lengthOctet h
  have hbody : ((dataOctets body).drop 1).take body.length = body := by simp [hdata, lengthAndBody]
  have hchecked : (dataOctets body).take (body.length + 1) = lengthAndBody body := by simp [hdata, lengthAndBody]
  have hcrc : ((dataOctets body).drop (body.length + 1)).take 2 = crcOctets (lengthAndBody body) := by
    simp [hdata, lengthAndBody, crcOctets]
  have hblocks : ¬ (blocksFor body.length < blocksFor body.length ∨ blocksFor body.length = 0) := by
    unfold blocksFor
    omega
  unfold finishFrame
  simp only [hlen, hbody, hchecked, hcrc]
  rw [if_neg hblocks]
  exact if_pos rfl

/-! ### The framer over a frame as it is sent (R180, R181, R183, R184) -/

/-- R181: the arbitration octet is read back. -/
theorem readArbitration_arbitrationOctet (cls : FrameClass) (src : Station) :
    readArbitration (arbitrationOctet cls src) = some (cls, src) := by
  revert src
  cases cls <;> decide +kernel

/-- R183: the framer takes a sent block, where the length octet leaves room for it. -/
theorem takeGroups_encodeBlock (cls : FrameClass) (src : Station) {data g : List Byte} {n : Nat} (gs : List (List Byte))
    (hg : g.length = 7) (hlo : 1 ≤ ((data ++ g).headD 0).toNat) (hhi : ((data ++ g).headD 0).toNat ≤ 221)
    (hroom : n + 1 ≤ blocksFor ((data ++ g).headD 0).toNat) :
    takeGroups cls src data n (encodeBlock g :: gs) = takeGroups cls src (data ++ g) (n + 1) gs := by
  rw [takeGroups, if_neg (encodeBlock_ne_tail hg), decodeBlock_encodeBlock hg]
  exact if_neg (by omega)

theorem headD_append_of_length {g : List Byte} (hg : g.length = 7) (data rest : List Byte) :
    (data ++ g ++ rest).headD 0 = (data ++ g).headD 0 := by
  cases data with
  | nil => cases g with
    | nil => simp at hg
    | cons b g => rfl
  | cons b data => rfl

/-- R184: the framer takes sent blocks to the tail and finishes the frame there, if there are as many as the length octet
asks for. -/
theorem takeGroups_blocks (cls : FrameClass) (src : Station) {len : Nat} (hlo : 1 ≤ len) (hhi : len ≤ 221)
    (gs : List (List Byte)) (data : List Byte) (n : Nat) (hgs : ∀ g ∈ gs, g.length = 7)
    (hlen : ((data ++ gs.flatten).headD 0).toNat = len) (hroom : n + gs.length ≤ blocksFor len) :
    takeGroups cls src data n (gs.map encodeBlock ++ [tailOctets])
      = finishFrame cls src (data ++ gs.flatten) (n + gs.length) := by
  induction gs generalizing data n with
  | nil => simp [takeGroups]
  | cons g gs ih =>
    obtain ⟨hg, hgs⟩ := List.forall_mem_cons.mp hgs
    rw [List.flatten_cons, ← List.append_assoc] at hlen ⊢
    rw [List.length_cons] at hroom
    have hhead : ((data ++ g).headD 0).toNat = len := by rw [← headD_append_of_length hg, hlen]
    rw [List.map_cons, List.cons_append,
      takeGroups_encodeBlock cls src _ hg (by omega) (by omega) (by rw [hhead]; omega),
      ih (data ++ g) (n + 1) hgs hlen (by omega), List.length_cons, Nat.add_assoc, Nat.add_comm 1]

theorem receiveFrame_buildFrame (cls : FrameClass) (src : Station) {body : List Byte} (h : bodyWf body = true) :
    receiveFrame (buildFrame cls src body) = .accepted cls src body := by
  obtain ⟨hmin, hmax⟩ : 1 ≤ body.length ∧ body.length ≤ 221 := by simpa [bodyWf] using h
  obtain ⟨fill, hdata, hlength⟩ := dataOctets_eq body
  obtain ⟨hflat, hcount, hall⟩ := groups7_spec _ _ hlength
  have hsync : syncAccepted 0xC6 0xB5 = true := by decide
  have hhead : (([] ++ (groups7 (dataOctets body)).flatten).headD 0).toNat = body.length := by
    rw [List.nil_append, hflat, hdata]
    exact toNat_lengthOctet h
  have hblocks := takeGroups_blocks cls src hmin hmax _ [] 0 hall hhead (by omega)
  unfold receiveFrame buildFrame
  rw [List.append_assoc, List.append_assoc, alignFrame_sync]
  simp only [syncOctets, List.cons_append, List.nil_append, hsync, if_true, readArbitration_arbitrationOctet]
  rw [groups8_blocks _ hall, hblocks, hflat, hcount, List.nil_append, Nat.zero_add, finishFrame_dataOctets cls src h]

theorem decodeLine_buildFrame (x : Sampled) (cls : FrameClass) (src : Station) {body : List Byte} (h : bodyWf body = true) :
    decodeLine x (buildFrame cls src body) = commandOf x cls src body := by
  rw [decodeLine, receiveFrame_buildFrame cls src h]

/-! ### Orders and the other received commands (R185, R189) -/

theorem bodyWf_orderBody (code : Byte) {f : OrderFrame} (h : f.wf = true) : bodyWf (orderBody code f) = true := by
  obtain ⟨-, hargs⟩ : (f.dest.isSome = true ∨ f.args = []) ∧ f.args.length ≤ 219 := by simpa [OrderFrame.wf] using h
  have hdest : f.dest.toList.length ≤ 1 := by cases f.dest <;> simp
  simp only [bodyWf, orderBody, List.length_append, List.length_cons, decide_eq_true_eq]
  omega

/-- R189: source, code, destination and arguments of an order are found in its body. -/
theorem commandOf_orderBody (x : Sampled) (code : Byte) {f : OrderFrame} (h : f.wf = true) :
    commandOf x .order f.src (orderBody code f) = orderOf x code f := by
  obtain ⟨src, dest, args⟩ := f
  cases dest with
  | none =>
    obtain ⟨rfl, -⟩ : args = [] ∧ args.length ≤ 219 := by simpa [OrderFrame.wf] using h
    rfl
  | some dest => rfl

theorem decodeLine_of_encodeOrder (x : Sampled) {code : Byte} {f : OrderFrame} {octets : List Byte} (hwf : f.wf = true)
    (h : encodeOrder code f = some octets) : decodeLine x octets = orderOf x code f := by
  obtain rfl : buildFrame .order f.src (orderBody code f) = octets := Option.some.inj h
  rw [decodeLine_buildFrame x .order f.src (bodyWf_orderBody code hwf), commandOf_orderBody x code hwf]

theorem decodeLine_of_buildFrame (x : Sampled) {cls : FrameClass} {src : Station} {body octets : List Byte}
    (hwf : bodyWf body = true) (h : some (buildFrame cls src body) = some octets) :
    decodeLine x octets = commandOf x cls src body := by
  rw [← Option.some.inj h, decodeLine_buildFrame x cls src hwf]

/-- Settles O59: the framer takes in every built frame with its class, source and body, and the body names the command. -/
theorem lineFramesReadBack : Obligations.LineFramesReadBack := by
  intro i octets hwf henc
  cases i with
  | run | stop | rate | back | forward | home | moveto | origin | setmap | setneedle | headOn | headOff | bobbin | setseg
  | resumeLoad | clear | setaction | setup | restart => exact decodeLine_of_encodeOrder _ hwf henc
  | unknownOrder code f =>
    obtain ⟨hcode, hf⟩ : inCatalogue code = false ∧ f.wf = true := by simpa [Instr.wf] using hwf
    rw [decodeLine_of_encodeOrder _ hf henc, orderOf_unknown _ f hcode]
  | designSegment | beaconReceived | urgentReceived => exact decodeLine_of_buildFrame _ hwf henc
  | _ => cases henc

end Sys2Proof.Machine

namespace Sys2Proof.Machine

/-! ### One step: the front of the queue (log entry 1 for the empty queue) -/

theorem step_of_pending_cons {c : Instr} {rest : List Instr} {s : State} (h : s.pending = c :: rest) :
    step s = exec c { s with pending := rest } := by
  unfold step
  rw [h]

theorem step_of_pending_nil {s : State} (h : s.pending = []) : step s = .next s := by
  unfold step
  rw [h]

/-- Settles O1: the two forms of the queue are the two equations of `step`. -/
theorem stepTakesFrontCommand : Obligations.StepTakesFrontCommand :=
  ⟨fun _ _ _ hfront => step_of_pending_cons hfront, fun _ hempty => step_of_pending_nil hempty⟩

end Sys2Proof.Machine
